-- ==== Sys2Proof/Word.lean ====
section
/-! DEFINITION. The word types of the LQ-7 (R10, R41, R94, R151) and sparse tables of registers. -/

namespace Sys2Proof

/-- A byte of memory (R10). -/
abbrev Byte := BitVec 8

/-- An instruction word (R94). -/
abbrev IWord := BitVec 32

/-- A dword: a g register, a control register, an address (R10, R41). -/
abbrev W := BitVec 64

/-- One vector register at the full 512 lanes: lane `l` holds bits `32 * l + 31` to `32 * l` (R2, R151). -/
abbrev VReg := BitVec 16384

/-- One mask register: lane `l` holds its slot `j` at bit `64 * l + j` (R151, R419). -/
abbrev MReg := BitVec 32768

/-- One bit per lane (R154, R408). -/
abbrev Lanes := BitVec 512

/-- A table of registers by number. A number that is not listed holds the default its reader names. -/
abbrev Tab (α : Type) := List (Nat × α)

namespace Tab

/-- The entry of `k`, or `d` when none is listed. -/
def get {α : Type} (d : α) : Tab α → Nat → α
  | [], _ => d
  | (j, v) :: r, k => if k = j then v else get d r k

/-- The table with the entry of `k` replaced; entries stay in ascending number. -/
def set {α : Type} : Tab α → Nat → α → Tab α
  | [], k, v => [(k, v)]
  | (j, w) :: r, k, v =>
    if k < j then (k, v) :: (j, w) :: r else if k = j then (k, v) :: r else (j, w) :: set r k v

end Tab

end Sys2Proof
end

