-- ==== Sys2Proof/Machine/Bits.lean ====
section
/-! DEFINITION. Bit fields, sign extension, byte order and small list helpers. -/

namespace Sys2Proof.Machine

/-- Bits `lo + n - 1` to `lo` of a dword, as a number. -/
def fld (x : W) (lo n : Nat) : Nat := x.toNat / 2 ^ lo % 2 ^ n

/-- Bit `i` of a dword. -/
def bit (x : W) (i : Nat) : Bool := x.getLsbD i

/-- The dword with bits `lo + n - 1` to `lo` replaced by `v`. -/
def setFld (x : W) (lo n v : Nat) : W :=
  BitVec.ofNat 64 (x.toNat - fld x lo n * 2 ^ lo + v % 2 ^ n * 2 ^ lo)

/-- The dword with bit `i` replaced. -/
def setBit (x : W) (i : Nat) (b : Bool) : W := setFld x i 1 (if b then 1 else 0)

/-- The low `n` bits of `x` read as two's complement. -/
def sInt (n x : Nat) : Int :=
  let y := x % 2 ^ n
  if y < 2 ^ (n - 1) then y else (y : Int) - (2 ^ n : Nat)

/-- An integer wrapped to `n` bits. -/
def wrap (n : Nat) (x : Int) : Nat := (x % ((2 ^ n : Nat) : Int)).toNat

/-- The low `n` bits of `x` sign-extended to a dword. -/
def sext64 (n x : Nat) : W := BitVec.ofInt 64 (sInt n x)

/-- imm12 sign-extended to a dword (R95). -/
def simm (k : BitVec 12) : W := k.signExtend 64

/-- imm12 zero-extended to a dword (R95). -/
def zimm (k : BitVec 12) : W := k.setWidth 64

/-- Whether a virtual address is canonical: bits 63:56 all equal bit 55 (R234). -/
def canonical (a : W) : Bool := fld a 55 9 == 0 || fld a 55 9 == 511

/-- The number of 1 bits among the low `n` bits of `x`. -/
def popc : Nat → Nat → Nat
  | 0, _ => 0
  | n + 1, x => x % 2 + popc n (x / 2)

/-- The number of 0 bits below the lowest 1 bit among the low `n` bits, `n` if there is none. -/
def ctz : Nat → Nat → Nat
  | 0, _ => 0
  | n + 1, x => if x % 2 = 1 then 0 else 1 + ctz n (x / 2)

/-- The number of 0 bits above the highest 1 bit among `n` bits, `n` if there is none. -/
def clz (n x : Nat) : Nat := if x = 0 then n else n - 1 - x.log2

/-- `ceil (x / y)`. -/
def cdiv (x y : Nat) : Nat := (x + y - 1) / y

/-- The little-endian number of a list of bytes (R10). -/
def leNat : List Byte → Nat
  | [] => 0
  | b :: r => b.toNat + 256 * leNat r

/-- The `n` low bytes of a number, lowest first (R10). -/
def leBytes : Nat → Nat → List Byte
  | 0, _ => []
  | n + 1, x => BitVec.ofNat 8 x :: leBytes n (x / 256)

/-- Bits `lo + n - 1` to `lo` of a number. -/
def nfld (x lo n : Nat) : Nat := x / 2 ^ lo % 2 ^ n

/-- Bit `i` of a number. -/
def nbit (x i : Nat) : Bool := x / 2 ^ i % 2 == 1

/-- The number with bits `lo + n - 1` to `lo` replaced by `v`. -/
def nset (x lo n v : Nat) : Nat := x - nfld x lo n * 2 ^ lo + v % 2 ^ n * 2 ^ lo

/-- The numbers `a`, `a + 1`, up to `n` of them. -/
def upTo (a n : Nat) : List Nat := List.range' a n

/-- The first index in `a`, `a + 1`, up to `n` of them, that satisfies `p`. -/
def findUp (p : Nat → Bool) (a : Nat) : Nat → Option Nat
  | 0 => none
  | n + 1 => if p a then some a else findUp p (a + 1) n

/-- A list of numbers without the repeats of earlier ones. -/
def dedup : List Nat → List Nat
  | [] => []
  | x :: r => x :: (dedup r).filter (· != x)

/-- Insert into a list kept in ascending order, without repeats. -/
def insertNat (x : Nat) : List Nat → List Nat
  | [] => [x]
  | y :: r => if x < y then x :: y :: r else if x = y then y :: r else y :: insertNat x r

/-- Insertion into a list ordered by `le`, after equals. -/
def insertBy {α : Type} (le : α → α → Bool) (x : α) : List α → List α
  | [] => [x]
  | y :: r => if le y x then y :: insertBy le x r else x :: y :: r

/-- A stable sort. -/
def sortBy {α : Type} (le : α → α → Bool) (l : List α) : List α := l.foldl (fun acc x => insertBy le x acc) []

end Sys2Proof.Machine
end

