-- ==== Sys2Proof/Machine/Number.lean ====
section
/-! DEFINITION. The number formats of R68 to R73, exact values, the one rounding of R79 to R83 and the conversions
of R92. An operation is computed on exact values and rounded once. -/

namespace Sys2Proof.Machine

/-- The flags of R52: SAT 5, IX 4, UN 3, OV 2, ZD 1, IV 0. -/
abbrev Flags := BitVec 6

def fIV : Flags := 1
def fZD : Flags := 2
def fOV : Flags := 4
def fUN : Flags := 8
def fIX : Flags := 16
def fSAT : Flags := 32

/-- An exact value: `fin neg m e st` is ±m × 2^e with m > 0, or, with `st`, a value strictly between m and m + 1
units of 2^e in magnitude. -/
inductive Num where
  | nan
  | inf (neg : Bool)
  | zero (neg : Bool)
  | fin (neg : Bool) (m : Nat) (e : Int) (st : Bool)
deriving DecidableEq, Repr

/-- ±m × 2^e, a zero of that sign for m = 0. -/
def Num.mk (neg : Bool) (m : Nat) (e : Int) : Num := if m = 0 then .zero neg else .fin neg m e false

/-- Exponent bits, fraction bits and bias of the binary floating format of a code (R70). -/
def fltShape : Nat → Option (Nat × Nat × Nat)
  | 5 => some (2, 1, 1)
  | 6 => some (4, 3, 7)
  | 7 => some (5, 2, 15)
  | 8 => some (8, 7, 127)
  | 9 => some (5, 10, 15)
  | 10 => some (8, 23, 127)
  | 11 => some (11, 52, 1023)
  | _ => none

/-- Width and signedness of the integer format of a code (R69). -/
def intShape : Nat → Option (Nat × Bool)
  | 0 => some (8, true)
  | 1 => some (8, false)
  | 2 => some (16, true)
  | 3 => some (32, true)
  | 4 => some (64, true)
  | _ => none

/-- The width of a format in bits (R68). -/
def fmtWidth : Nat → Nat
  | 0 => 8 | 1 => 8 | 2 => 16 | 3 => 32 | 4 => 64 | 5 => 4 | 6 => 8 | 7 => 8 | 8 => 16 | 9 => 16 | 10 => 32
  | 11 => 64 | 12 => 6 | 13 => 8 | _ => 0

/-- The canonical NaN of a floating format (R71); E2M1 has none and takes +0 (R81). -/
def canonNaN : Nat → Nat
  | 6 => 0x7F
  | 7 => 0x7E
  | 8 => 0x7FC0
  | 9 => 0x7E00
  | 10 => 0x7FC00000
  | 11 => 0x7FF8000000000000
  | _ => 0

/-- The value of a pattern of a binary floating format (R70). -/
def readFlt (code x : Nat) : Num :=
  match fltShape code with
  | none => .nan
  | some (eb, fb, bias) =>
    let neg := nbit x (eb + fb)
    let e := nfld x fb eb
    let f := nfld x 0 fb
    let top := e == 2 ^ eb - 1
    if top && code == 6 && f == 7 then .nan
    else if top && code != 5 && code != 6 then (if f = 0 then .inf neg else .nan)
    else if e = 0 then Num.mk neg f (1 - (bias : Int) - fb)
    else .fin neg (2 ^ fb + f) ((e : Int) - bias - fb) false

/-- The table of R91. -/
def logTab : Nat → Nat
  | 0 => 65536
  | 1 => 77936
  | 2 => 92682
  | _ => 110218

/-- The value of an L6 pattern taken through the table of R91, as R92 takes it. -/
def readL6 (x : Nat) : Num :=
  let m := nfld x 0 5
  if m = 0 then (if nbit x 5 then .nan else .zero false)
  else
    let q : Int := (m : Int) - 16
    Num.mk (nbit x 5) (logTab (q % 4).toNat) (q / 4 - 16)

/-- The value of a pattern of any format (R69 to R73). -/
def readNum (code x : Nat) : Num :=
  match intShape code with
  | some (w, true) => let v := sInt w x; Num.mk (decide (v < 0)) v.natAbs 0
  | some (w, false) => Num.mk false (x % 2 ^ w) 0
  | none =>
    if code = 12 then readL6 x
    else if code = 13 then (if x % 256 = 255 then .nan else .fin false 1 ((x % 256 : Nat) - 127) false)
    else readFlt code x

/-- A value multiplied by 2^k. -/
def Num.scale (k : Int) : Num → Num
  | .fin neg m e st => .fin neg m (e + k) st
  | x => x

def Num.neg : Num → Num
  | .nan => .nan
  | .inf s => .inf !s
  | .zero s => .zero !s
  | .fin s m e st => .fin (!s) m e st

def Num.abs : Num → Num
  | .nan => .nan
  | .inf _ => .inf false
  | .zero _ => .zero false
  | .fin _ m e st => .fin false m e st

def Num.sign : Num → Bool
  | .nan => false
  | .inf s => s
  | .zero s => s
  | .fin s _ _ _ => s

/-- The magnitude of an integer quotient rounded under RM (R79): `keep` units and a rest of `rem` out of `2 * half`
units, plus a positive trifle when `st`. -/
def roundUp (rm : Nat) (neg : Bool) (keep rem half : Nat) (st : Bool) : Bool :=
  let inexact := rem != 0 || st
  match rm with
  | 0 => decide (half < rem) || (rem == half && half != 0 && (st || keep % 2 == 1))
  | 1 => decide (half ≤ rem) && half != 0
  | 2 => inexact && !neg
  | 3 => inexact && neg
  | _ => false

/-- ±(m + trifle) × 2^e in whole units of 2^q, rounded under RM: the units and whether that was inexact. -/
def roundAt (rm : Nat) (neg : Bool) (m : Nat) (e : Int) (st : Bool) (q : Int) : Nat × Bool :=
  if q ≤ e then
    let keep := m * 2 ^ (e - q).toNat
    (keep + (if roundUp rm neg keep 0 (if st then 1 else 0) st then 1 else 0), st)
  else
    let sh := (q - e).toNat
    let keep := m / 2 ^ sh
    let rem := m % 2 ^ sh
    (keep + (if roundUp rm neg keep rem (2 ^ (sh - 1)) st then 1 else 0), rem != 0 || st)

/-- The largest finite pattern of a floating format, without its sign (R70). -/
def maxFlt (code : Nat) : Nat :=
  match fltShape code with
  | none => 0
  | some (eb, fb, _) =>
    if code = 5 then 7 else if code = 6 then 0x7E else (2 ^ eb - 1) * 2 ^ fb - 1

/-- The infinity pattern, or NaN where the format has no infinity (R81). -/
def infFlt (code : Nat) : Nat :=
  match fltShape code with
  | none => 0
  | some (eb, fb, _) => if code = 6 then 0x7F else (2 ^ eb - 1) * 2 ^ fb

/-- The sign bit of a floating pattern. -/
def signFlt (code : Nat) (neg : Bool) : Nat :=
  match fltShape code with
  | none => 0
  | some (eb, fb, _) => if neg then 2 ^ (eb + fb) else 0

/-- What an overflow delivers (R81). `exactInf`: the value is an infinite operand. -/
def overflowFlt (code rm : Nat) (ovf neg exactInf : Bool) : Nat × Flags :=
  let s := signFlt code neg
  if code = 5 then (s + 7, fSAT ||| fIX)
  else if ovf && !exactInf then (s + maxFlt code, fSAT ||| fIX)
  else if ovf && code == 6 then (s + maxFlt code, fSAT ||| fIX)
  else if exactInf && code == 6 then (0x7F, fOV ||| fIX)
  else if exactInf then (s + infFlt code, 0)
  else
    let toMax := match rm with
      | 2 => neg
      | 3 => !neg
      | 4 => true
      | _ => false
    (if toMax then s + maxFlt code else if code = 6 then 0x7F else s + infFlt code, fOV ||| fIX)

/-- A value rounded once to a binary floating format (R80 to R83). -/
def writeFlt (code rm : Nat) (ovf : Bool) (x : Num) : Nat × Flags :=
  match fltShape code with
  | none => (0, 0)
  | some (_, fb, bias) =>
    match x with
    | .nan => (canonNaN code, if code = 5 then fIV else 0)
    | .inf s => overflowFlt code rm ovf s true
    | .zero s => (signFlt code s, 0)
    | .fin s m e st =>
      let emin : Int := 1 - bias
      let ex : Int := (m.log2 : Int) + e
      let q : Int := (if ex < emin then emin else ex) - fb
      let (n0, inexact) := roundAt rm s m e st q
      -- a carry out of the fraction moves to the next binade
      let carry := n0 == 2 ^ (fb + 1)
      let n := if carry then 2 ^ fb else n0
      let qe : Int := if carry then q + 1 else q
      let field : Int := if n < 2 ^ fb then 0 else qe + fb + bias
      let pat : Nat := if n < 2 ^ fb then n else field.toNat * 2 ^ fb + (n - 2 ^ fb)
      if maxFlt code < pat then overflowFlt code rm ovf s false
      else
        (signFlt code s + pat,
          (if inexact then fIX else 0) ||| (if inexact && n != 0 && decide (n < 2 ^ fb) then fUN else 0))

/-- A value rounded to an integer format from a source that is no integer (R92). -/
def writeInt (w : Nat) (signed : Bool) (rm : Nat) (ovf : Bool) (x : Num) : Nat × Flags :=
  let hi : Int := if signed then 2 ^ (w - 1) - 1 else 2 ^ w - 1
  let lo : Int := if signed then -(2 ^ (w - 1)) else 0
  let lim (v : Int) : Nat × Flags := (wrap w v, if ovf then fSAT else fIV)
  match x with
  | .nan => (0, fIV)
  | .zero _ => (0, 0)
  | .inf s => lim (if s then lo else hi)
  | .fin s m e st =>
    let (n, inexact) := roundAt rm s m e st 0
    let v : Int := if s then -(n : Int) else n
    if v < lo then lim lo else if hi < v then lim hi else (wrap w v, if inexact then fIX else 0)

/-- A value rounded to an integer format from an integer source (R92): out of range keeps its low bits under
OVF = 0. -/
def writeIntInt (w : Nat) (signed : Bool) (rm : Nat) (ovf : Bool) (x : Num) : Nat × Flags :=
  let hi : Int := if signed then 2 ^ (w - 1) - 1 else 2 ^ w - 1
  let lo : Int := if signed then -(2 ^ (w - 1)) else 0
  match x with
  | .fin s m e st =>
    let (n, inexact) := roundAt rm s m e st 0
    let v : Int := if s then -(n : Int) else n
    if lo ≤ v ∧ v ≤ hi then (wrap w v, if inexact then fIX else 0)
    else if ovf then (wrap w (if v < lo then lo else hi), fSAT)
    else (wrap w v, 0)
  | _ => (0, 0)

/-- The L6 pattern of a sign and a biased log, with overflow and underflow (R81, R92). -/
def packL6 (ovf neg : Bool) (m : Int) : Nat × Flags :=
  let s := if neg then 32 else 0
  if 31 < m then (if ovf then (s + 31, fSAT ||| fIX) else (32, fOV ||| fIX))
  else if m < 1 then (0, fUN ||| fIX)
  else (s + m.toNat, 0)

/-- floor (4 × log2 (m × 2^e)), and whether it is exact: 2^(4 log2 x) = x^4. -/
def log4 (m : Nat) (e : Int) : Int × Bool :=
  let p := m ^ 4
  (((p.log2 : Nat) : Int) + 4 * e, p == 2 ^ p.log2)

/-- Whether 4 × log2 (m × 2^e) exceeds n + 1/2, and whether it equals it: x^8 against 2^(2n + 1). -/
def log4half (m : Nat) (e : Int) (n : Int) : Bool × Bool :=
  let k : Int := 2 * n + 1 - 8 * e
  let p := m ^ 8
  if k < 0 then (true, false) else (decide (2 ^ k.toNat < p), p == 2 ^ k.toNat)

/-- A value that is no L6 pattern converted to L6, with its log raised by `d` quarters (R92, R214). -/
def writeL6At (d : Int) (rm : Nat) (ovf : Bool) (x : Num) : Nat × Flags :=
  match x with
  | .nan => (32, 0)
  | .zero _ => (0, 0)
  | .inf s => if ovf then ((if s then 32 else 0) + 31, fSAT ||| fIX) else (32, fOV ||| fIX)
  | .fin s m e _ =>
    let (n0, exact) := log4 m e
    let (gt, eq) := log4half m e n0
    let n := n0 + d
    -- n lies below y; rounding up moves the log away from −∞
    let up := !exact && (match rm with
      | 0 => gt || (eq && n % 2 == 1)
      | 1 => gt || (eq && decide (0 ≤ n))
      | 2 => !s
      | 3 => s
      | _ => decide (n < 0))
    let (r, fl) := packL6 ovf s (n + (if up then 1 else 0) + 16)
    (r, fl ||| (if exact then 0 else fIX))

/-- A value that is no L6 pattern converted to L6 (R92). -/
def writeL6 (rm : Nat) (ovf : Bool) (x : Num) : Nat × Flags := writeL6At 0 rm ovf x

/-- A value converted to E8M0 (R92). A power of two that is clamped raises SAT alone, as its row in R92 has it, though R83 could ask
for IX; DESIGN CHOICE, log 59. -/
def writeE8 (x : Num) : Nat × Flags :=
  match x with
  | .fin _ m e st =>
    let v : Int := (m.log2 : Int) + e + 127
    let fl : Flags := if m == 2 ^ m.log2 && !st then 0 else fIX
    if v < 0 then (0, fl ||| fSAT) else if 254 < v then (254, fl ||| fSAT) else (v.toNat, fl)
  | _ => (255, fIV)

/-- A conversion (R92, R93): source code and pattern, an added scale in powers of two (TSCALE − 127 and the block
scale of R86; none: the block scale byte was 0xFF), destination code, RM and OVF. -/
def convert (src dst rm : Nat) (ovf : Bool) (ts : Int) (blk : Option Int) (scaled : Bool) (x : Nat) : Nat × Flags :=
  let k := ts + blk.getD 0
  if src = dst ∧ ts = 0 ∧ scaled = false ∧ src ≠ 13 ∧ src ≠ 12 ∧ (fltShape src).isNone then (x % 2 ^ fmtWidth src, 0)
  else if src = dst ∧ ts = 0 ∧ scaled = false ∧ (fltShape src).isSome then
    (if readFlt src x = .nan then canonNaN src else x % 2 ^ fmtWidth src, 0)
  else if src = 12 ∧ dst = 12 then
    let m := nfld x 0 5
    if m = 0 then (x % 64, 0) else packL6 ovf (nbit x 5) ((m : Int) + 4 * ts)
  else if src = 13 ∧ dst = 13 then
    if x % 256 = 255 then (255, 0)
    else
      let v : Int := ((x % 256 : Nat) : Int) + ts
      if v < 0 then (0, fSAT) else if 254 < v then (254, fSAT) else (v.toNat, 0)
  else
    let v := if blk.isNone && scaled then Num.nan else (readNum src x).scale k
    match intShape dst with
    | some (w, sg) => if (intShape src).isSome then writeIntInt w sg rm ovf v else writeInt w sg rm ovf v
    | none => if dst = 12 then writeL6 rm ovf v else if dst = 13 then writeE8 v else writeFlt dst rm ovf v

/-- The exact sum, and IV (R80, R83). A zero sum of unlike addends is −0 only under RDN. -/
def addNum (rm : Nat) (a b : Num) : Num × Flags :=
  match a, b with
  | .nan, _ => (.nan, 0)
  | _, .nan => (.nan, 0)
  | .inf s, .inf t => if s = t then (.inf s, 0) else (.nan, fIV)
  | .inf s, _ => (.inf s, 0)
  | _, .inf t => (.inf t, 0)
  | .zero s, .zero t => (.zero (if s = t then s else rm == 3), 0)
  | .zero _, y => (y, 0)
  | x, .zero _ => (x, 0)
  | .fin s m e _, .fin t n f _ =>
    let lo := min e f
    let x : Int := (if s then -1 else 1) * ((m * 2 ^ (e - lo).toNat : Nat) : Int)
    let y : Int := (if t then -1 else 1) * ((n * 2 ^ (f - lo).toNat : Nat) : Int)
    let z := x + y
    if z = 0 then (.zero (rm == 3), 0) else (.fin (decide (z < 0)) z.natAbs lo false, 0)

/-- The exact product, and IV (R80, R83). -/
def mulNum (a b : Num) : Num × Flags :=
  match a, b with
  | .nan, _ => (.nan, 0)
  | _, .nan => (.nan, 0)
  | .inf _, .zero _ => (.nan, fIV)
  | .zero _, .inf _ => (.nan, fIV)
  | .inf s, y => (.inf (s != y.sign), 0)
  | x, .inf t => (.inf (x.sign != t), 0)
  | .zero s, y => (.zero (s != y.sign), 0)
  | x, .zero t => (.zero (x.sign != t), 0)
  | .fin s m e _, .fin t n f _ => (.fin (s != t) (m * n) (e + f) false, 0)

/-- The quotient, to more bits than any format holds, and its flags (R80, R83). -/
def divNum (a b : Num) : Num × Flags :=
  match a, b with
  | .nan, _ => (.nan, 0)
  | _, .nan => (.nan, 0)
  | .inf _, .inf _ => (.nan, fIV)
  | .zero _, .zero _ => (.nan, fIV)
  | .inf s, y => (.inf (s != y.sign), 0)
  | x, .inf t => (.zero (x.sign != t), 0)
  | .zero s, y => (.zero (s != y.sign), 0)
  | x, .zero t => (.inf (x.sign != t), fZD)
  | .fin s m e _, .fin t n f _ =>
    let k := 70 + n.log2 - m.log2
    let q := m * 2 ^ k / n
    (.fin (s != t) q (e - f - k) (m * 2 ^ k % n != 0), 0)

/-- The integer square root, bit `k` downward from the partial root `r`. -/
def isqrt (n : Nat) : Nat → Nat → Nat
  | 0, r => if (r + 1) * (r + 1) ≤ n then r + 1 else r
  | k + 1, r => isqrt n k (if (r + 2 ^ (k + 1)) * (r + 2 ^ (k + 1)) ≤ n then r + 2 ^ (k + 1) else r)

/-- The square root, to more bits than any format holds (R80, R83, R128). -/
def sqrtNum (a : Num) : Num × Flags :=
  match a with
  | .nan => (.nan, 0)
  | .zero s => (.zero s, 0)
  | .inf false => (.inf false, 0)
  | .inf true => (.nan, fIV)
  | .fin true _ _ _ => (.nan, fIV)
  | .fin false m e _ =>
    let k0 := 140 - m.log2
    let k := if (e - k0) % 2 = 0 then k0 else k0 + 1
    let n := m * 2 ^ k
    let r := isqrt n 72 0
    (.fin false r ((e - k) / 2) (r * r != n), 0)

/-- Magnitudes of two finite values compared. -/
def cmpMag (m : Nat) (e : Int) (n : Nat) (f : Int) : Ordering :=
  let lo := min e f
  compare (m * 2 ^ (e - lo).toNat) (n * 2 ^ (f - lo).toNat)

/-- The order of two values that are not NaN, with −0 below +0 (R129). -/
def cmpNum (a b : Num) : Ordering :=
  let rank : Num → Int := fun x => match x with
    | .nan => 0
    | .inf s => if s then -3 else 3
    | .fin s _ _ _ => if s then -2 else 2
    | .zero s => if s then -1 else 1
  if rank a < rank b then .lt
  else if rank b < rank a then .gt
  else match a, b with
    | .fin s m e _, .fin _ n f _ => if s then (cmpMag m e n f).swap else cmpMag m e n f
    | _, _ => .eq

/-- Equality and order with +0 = −0; false where either is NaN (R130). -/
def eqNum (a b : Num) : Bool :=
  match a, b with
  | .nan, _ => false
  | _, .nan => false
  | .zero _, .zero _ => true
  | _, _ => cmpNum a b == .eq

def ltNum (a b : Num) : Bool :=
  match a, b with
  | .nan, _ => false
  | _, .nan => false
  | .zero _, .zero _ => false
  | _, _ => cmpNum a b == .lt

def leNum (a b : Num) : Bool := ltNum a b || eqNum a b

/-- The lesser and the greater by R129: a NaN gives way to a number. -/
def minNum (a b : Num) : Num :=
  match a, b with
  | .nan, y => y
  | x, .nan => x
  | _, _ => if cmpNum b a == .lt then b else a

def maxNum (a b : Num) : Num :=
  match a, b with
  | .nan, y => y
  | x, .nan => x
  | _, _ => if cmpNum a b == .lt then b else a

/-- The class mask of R130 of a pattern. -/
def classOf (code x : Nat) : Nat :=
  match readFlt code x with
  | .nan => 256
  | .zero s => 2 ^ (if s then 4 else 0)
  | .inf s => 2 ^ (3 + if s then 4 else 0)
  | .fin s _ _ _ =>
    match fltShape code with
    | none => 0
    | some (eb, fb, _) => 2 ^ ((if nfld x fb eb = 0 then 1 else 2) + if s then 4 else 0)

end Sys2Proof.Machine
end

