-- ==== Sys2Proof/Machine/Flags.lean ====
section
/-! DEFINITION. The format word (R75 to R78), the scalar operand widths of R74, and the rounded operations with
their FFLAGS (R80 to R83), one definition for the scalar and the vector instructions. -/

namespace Sys2Proof.Machine

/-- The fields of a format word (R75). -/
structure FW where
  src1 : Nat
  src2 : Nat
  dst : Nat
  acc : Nat
  rm : Nat
  ovf : Bool
  scl1 : Bool
  scl2 : Bool
  /-- TSCALE − 127. -/
  ts : Int
deriving DecidableEq, Repr

def FW.of (w : W) : FW :=
  { src1 := fld w 0 4, src2 := fld w 4 4, dst := fld w 8 4, acc := fld w 12 4, rm := fld w 16 3, ovf := bit w 19,
    scl1 := bit w 20, scl2 := bit w 21, ts := (fld w 24 8 : Int) - 127 }

/-- The checks that every class makes: reserved bits and TSCALE (R78). -/
def fwCommon (w : W) : Bool := fld w 32 32 == 0 && fld w 22 2 == 0 && fld w 24 8 != 255

/-- BF16, FP16, FP32 or FP64: the set F of R77. -/
def inF (c : Nat) : Bool := decide (8 ≤ c ∧ c ≤ 11)

/-- Elementwise class (R77); `two`: two sources. -/
def fwElem (w : W) (two : Bool) : Bool :=
  let f := FW.of w
  fwCommon w && inF f.src1 && (!two || f.src2 == f.src1) && inF f.dst && !f.scl1 && !f.scl2 && decide (f.rm ≤ 4)

/-- Fused class (R77). -/
def fwFused (w : W) : Bool :=
  let f := FW.of w
  fwCommon w && inF f.src1 && f.src2 == f.src1 && f.dst == f.acc && inF f.acc && !f.scl1 && !f.scl2 && decide (f.rm ≤ 4)

/-- Compare class (R77). -/
def fwCmp (w : W) (two : Bool) : Bool :=
  let f := FW.of w
  fwCommon w && inF f.src1 && (!two || f.src2 == f.src1) && !f.scl1 && !f.scl2

/-- Conversion class (R77); `scalar`: SCL1 is a format fault (R78). -/
def fwConv (w : W) (scalar : Bool) : Bool :=
  let f := FW.of w
  fwCommon w && decide (f.src1 ≤ 13) && decide (f.dst ≤ 13) && !f.scl2 &&
    (!f.scl1 || (!scalar && decide (5 ≤ f.src1 ∧ f.src1 ≤ 7))) && decide (f.rm ≤ 4)

/-- The formats a matrix source may hold (R77): E4M3 or E5M2, or both E2M1, or both BF16. -/
def fwGroup (w : W) : Bool :=
  let f := FW.of w
  let eight (c : Nat) : Bool := c == 6 || c == 7
  fwCommon w && ((eight f.src1 && eight f.src2) || (f.src1 == 5 && f.src2 == 5) || (f.src1 == 8 && f.src2 == 8)) &&
    f.dst == 10 && f.acc == 10 && (f.src1 != 8 || (!f.scl1 && !f.scl2)) && f.rm == 0

/-- Log sum class (R77). -/
def fwLogSum (w : W) : Bool :=
  let f := FW.of w
  fwCommon w && f.src1 == 12 && f.src2 == 12 && f.dst == 10 && f.acc == 10 && !f.scl1 && !f.scl2 && f.rm == 0

/-- Log product class (R77). -/
def fwLogMul (w : W) : Bool :=
  let f := FW.of w
  fwCommon w && f.src1 == 12 && f.src2 == 12 && f.dst == 12 && !f.scl1 && !f.scl2

/-- A result scaled by TSCALE and rounded once to DST (R80). -/
def roundTo (f : FW) (r : Num × Flags) : Nat × Flags :=
  let (x, fl) := writeFlt f.dst f.rm f.ovf (r.1.scale f.ts)
  (x, fl ||| r.2)

/-- The elementwise operations on source patterns (R80, R128, R129). -/
def fAdd (f : FW) (a b : Nat) : Nat × Flags := roundTo f (addNum f.rm (readFlt f.src1 a) (readFlt f.src1 b))
def fSub (f : FW) (a b : Nat) : Nat × Flags := roundTo f (addNum f.rm (readFlt f.src1 a) (readFlt f.src1 b).neg)
def fMul (f : FW) (a b : Nat) : Nat × Flags := roundTo f (mulNum (readFlt f.src1 a) (readFlt f.src1 b))
def fDiv (f : FW) (a b : Nat) : Nat × Flags := roundTo f (divNum (readFlt f.src1 a) (readFlt f.src1 b))
def fSqrt (f : FW) (a : Nat) : Nat × Flags := roundTo f (sqrtNum (readFlt f.src1 a))
def fMin (f : FW) (a b : Nat) : Nat × Flags := roundTo f (minNum (readFlt f.src1 a) (readFlt f.src1 b), 0)
def fMax (f : FW) (a b : Nat) : Nat × Flags := roundTo f (maxNum (readFlt f.src1 a) (readFlt f.src1 b), 0)

/-- ±(a × b) ± c, rounded once; c in ACC (R80, R128). -/
def fFma (f : FW) (negp negc : Bool) (a b c : Nat) : Nat × Flags :=
  let (p, fl) := mulNum (readFlt f.src1 a) (readFlt f.src1 b)
  let c := readFlt f.acc c
  let (x, fl') := addNum f.rm (if negp then p.neg else p) (if negc then c.neg else c)
  roundTo f (x, fl ||| fl')

/-- The FCMP conditions (R130). -/
def fCmp (cond : Nat) (f : FW) (a b : Nat) : Bool :=
  let x := readFlt f.src1 a
  let y := readFlt f.src1 b
  match cond with
  | 0 => eqNum x y
  | 1 => ltNum x y
  | 2 => leNum x y
  | _ => x == .nan || y == .nan

/-- The pattern that an operand of a format has in a g register (R74). -/
def gPat (code : Nat) (x : W) : Nat := x.toNat % 2 ^ fmtWidth code

/-- A result of a format as a g register holds it (R74). -/
def gResult (code x : Nat) : W :=
  match code with
  | 0 => sext64 8 x
  | 2 => sext64 16 x
  | 3 => sext64 32 x
  | _ => BitVec.ofNat 64 x

end Sys2Proof.Machine
end

