-- ==== Sys2Proof/Machine/Crypto.lean ====
section
/-! DEFINITION. The algorithms that R7 and R453 to R460 name and do not define: SHA-512 (FIPS 180-4), AES-256 (FIPS 197) in the
mode XTS (IEEE 1619), and the verification of ECDSA signatures on P-521 (FIPS 186). PRESUMED, log 2. -/

namespace Sys2Proof.Machine

/-! ### SHA-512 -/

/-- The primes below 410: the first eighty (FIPS 180-4). -/
def primes : List Nat := (upTo 2 408).filter fun n => (upTo 2 18).all fun d => n ≤ d || n % d != 0

/-- The largest x below 2^bits with x^k ≤ n, bit by bit. -/
def rootBits (k n : Nat) : Nat → Nat → Nat
  | 0, x => x
  | b + 1, x => rootBits k n b (if (x + 2 ^ b) ^ k ≤ n then x + 2 ^ b else x)

/-- The first 64 bits of the fractional parts of cube roots: the round constants. -/
def shaRounds : List (BitVec 64) := primes.map fun p => BitVec.ofNat 64 (rootBits 3 (p * 2 ^ 192) 68 0)

/-- The first 64 bits of the fractional parts of square roots: the initial hash value. -/
def shaStart : List (BitVec 64) := (primes.take 8).map fun p => BitVec.ofNat 64 (rootBits 2 (p * 2 ^ 128) 68 0)

/-- A number whose first byte is the most significant. -/
def bigEndian (l : List Byte) : Nat := l.foldl (fun x b => x * 256 + b.toNat) 0

/-- A number as `n` bytes, the most significant first. -/
def bigBytes (n x : Nat) : List Byte := (leBytes n x).reverse

/-- The message with its padding and length. -/
def shaPadded (l : List Byte) : List Byte :=
  let n := l.length
  l ++ [0x80] ++ List.replicate ((239 - n % 128) % 128) 0 ++ bigBytes 16 (8 * n)

/-- The message schedule: `r` holds the words so far, the newest first. -/
def shaSchedule : Nat → List (BitVec 64) → List (BitVec 64)
  | 0, r => r.reverse
  | n + 1, r =>
    let w (k : Nat) : BitVec 64 := r.getD (k - 1) 0
    let s0 := (w 15).rotateRight 1 ^^^ (w 15).rotateRight 8 ^^^ (w 15 >>> 7)
    let s1 := (w 2).rotateRight 19 ^^^ (w 2).rotateRight 61 ^^^ (w 2 >>> 6)
    shaSchedule n ((s1 + w 7 + s0 + w 16) :: r)

/-- One round on the eight working variables. -/
def shaRound (v : List (BitVec 64)) (kw : BitVec 64) : List (BitVec 64) :=
  match v with
  | [a, b, c, d, e, f, g, h] =>
    let s1 := e.rotateRight 14 ^^^ e.rotateRight 18 ^^^ e.rotateRight 41
    let t1 := h + s1 + ((e &&& f) ^^^ (~~~e &&& g)) + kw
    let s0 := a.rotateRight 28 ^^^ a.rotateRight 34 ^^^ a.rotateRight 39
    let t2 := s0 + ((a &&& b) ^^^ (a &&& c) ^^^ (b &&& c))
    [t1 + t2, a, b, c, d + t1, e, f, g]
  | _ => v

/-- The hash value after one block of 128 bytes. -/
def shaBlock (hash : List (BitVec 64)) (block : List Byte) : List (BitVec 64) :=
  let ws := shaSchedule 64 (((upTo 0 16).map fun i => BitVec.ofNat 64 (bigEndian ((block.drop (8 * i)).take 8))).reverse)
  let v := (ws.zip shaRounds).foldl (fun v (w, k) => shaRound v (k + w)) hash
  (hash.zip v).map fun (x, y) => x + y

/-- The blocks of a padded message in turn. -/
def shaBlocks : Nat → List (BitVec 64) → List Byte → List (BitVec 64)
  | 0, hash, _ => hash
  | n + 1, hash, l => shaBlocks n (shaBlock hash (l.take 128)) (l.drop 128)

/-- The SHA-512 digest of a string of bytes; its first byte is bits 7:0. -/
def sha512 (bytes : List Byte) : BitVec 512 :=
  let l := shaPadded bytes
  BitVec.ofNat 512 (leNat ((shaBlocks (l.length / 128) shaStart l).flatMap fun w => bigBytes 8 w.toNat))

/-! ### AES-256 in XTS (R453) -/

/-- A byte times x in the field of AES. -/
def xtime (b : Byte) : Byte := (b <<< 1) ^^^ (if b.getLsbD 7 then 0x1B else 0)

/-- The product in the field of AES, by the bits of the second factor from bit `n - 1` down. -/
def gfMul (a b : Byte) : Nat → Byte
  | 0 => 0
  | n + 1 => xtime (gfMul a (b >>> 1) n) ^^^ (if b.getLsbD 0 then a else 0)

/-- The inverse in that field, b^254; 0 for 0. -/
def gfInv (b : Byte) : Byte :=
  let sq (x : Byte) : Byte := gfMul x x 8
  let step (p : Byte × Byte) : Byte × Byte := let q := sq p.1; (q, gfMul p.2 q 8)
  (step (step (step (step (step (step (step (b, 1)))))))).2

/-- The substitution of AES. -/
def subByte (b : Byte) : Byte :=
  let x := gfInv b
  x ^^^ x.rotateLeft 1 ^^^ x.rotateLeft 2 ^^^ x.rotateLeft 3 ^^^ x.rotateLeft 4 ^^^ 0x63

/-- Its inverse. -/
def unsubByte (b : Byte) : Byte := gfInv (b.rotateLeft 1 ^^^ b.rotateLeft 3 ^^^ b.rotateLeft 6 ^^^ 0x05)

/-- Bytes added in the field. -/
def xorBytes (a b : List Byte) : List Byte := (a.zip b).map fun (x, y) => x ^^^ y

/-- The words of the key schedule: `r` holds those so far, the newest first; `i` counts them. -/
def keyWords : Nat → Nat → Byte → List (List Byte) → List (List Byte)
  | 0, _, _, r => r.reverse
  | n + 1, i, rcon, r =>
    let t := r.headD []
    let old := r.getD 7 []
    if i % 8 = 0 then keyWords n (i + 1) (xtime rcon) (xorBytes old (xorBytes ((turnLeft t).map subByte) [rcon, 0, 0, 0]) :: r)
    else keyWords n (i + 1) rcon (xorBytes old (if i % 8 = 4 then t.map subByte else t) :: r)
where
  /-- A word turned by one byte. -/
  turnLeft (l : List Byte) : List Byte := l.drop 1 ++ l.take 1

/-- The fifteen round keys of AES-256. -/
def roundKeys (key : List Byte) : List (List Byte) :=
  let ws := keyWords 52 8 1 (((upTo 0 8).map fun i => (key.drop (4 * i)).take 4).reverse)
  (upTo 0 15).map fun i => ((ws.drop (4 * i)).take 4).flatten

/-- The sixteen bytes of a state by column, each row turned by its number of places. -/
def shiftRows (back : Bool) (s : List Byte) : List Byte :=
  (upTo 0 16).map fun i => s.getD ((i % 4 + 4 * (i / 4 + (if back then 4 - i % 4 else i % 4))) % 16) 0

/-- Every column times a polynomial, whose coefficients stand from the constant one up. -/
def mixColumns (m : List Byte) (s : List Byte) : List Byte :=
  (upTo 0 16).map fun i =>
    (upTo 0 4).foldl (fun x j => x ^^^ gfMul (s.getD (i / 4 * 4 + j) 0) (m.getD ((i % 4 + 4 - j) % 4) 0) 8) 0

/-- AES on one block of sixteen bytes, with its round keys. -/
def aesEncrypt (ks : List (List Byte)) (x : List Byte) : List Byte :=
  let first := xorBytes x (ks.headD [])
  let s := ((ks.drop 1).take 13).foldl (fun s k => xorBytes (mixColumns [2, 1, 1, 3] (shiftRows false (s.map subByte))) k) first
  xorBytes (shiftRows false (s.map subByte)) (ks.getD 14 [])

/-- Its inverse. -/
def aesDecrypt (ks : List (List Byte)) (x : List Byte) : List Byte :=
  let first := (shiftRows true (xorBytes x (ks.getD 14 []))).map unsubByte
  let s := (((ks.drop 1).take 13).reverse).foldl
    (fun s k => (shiftRows true (mixColumns [14, 9, 13, 11] (xorBytes s k))).map unsubByte) first
  xorBytes s (ks.headD [])

/-- The next tweak of XTS: the 128-bit number times x. -/
def nextTweak (t : List Byte) : List Byte :=
  let n := leNat t
  leBytes 16 (if 2 ^ 127 ≤ n then (2 * n) % 2 ^ 128 ^^^ 0x87 else 2 * n)

/-- Blocks of a data unit under successive tweaks. -/
def xtsBlocks (cipher : List Byte → List Byte) : Nat → List Byte → List Byte → List Byte
  | 0, _, _ => []
  | n + 1, t, x => xorBytes (cipher (xorBytes (x.take 16) t)) t ++ xtsBlocks cipher n (nextTweak t) (x.drop 16)

/-- A 64-byte line under a key as R454 loads it: the data key in the low 256 bits and the tweak key above it, the first byte of
each in its low bits. `tweak` numbers the data unit. -/
def xtsLine (back : Bool) (key : BitVec 512) (tweak : Nat) (x : BitVec 512) : BitVec 512 :=
  let b := leBytes 64 key.toNat
  let data := roundKeys (b.take 32)
  let t := aesEncrypt (roundKeys (b.drop 32)) (leBytes 16 tweak)
  let out := xtsBlocks (if back then aesDecrypt data else aesEncrypt data) 4 t (leBytes 64 x.toNat)
  BitVec.ofNat 512 (leNat out)

/-- What a 64-byte line that holds `x` under one key (none: plaintext) reads as under another (R453): its stored bytes, decrypted
under the reading key. -/
def recrypt (written reading : Option (BitVec 512)) (tweak : Nat) (x : BitVec 512) : BitVec 512 :=
  let stored := match written with
    | some k => xtsLine false k tweak x
    | none => x
  match reading with
  | some k => xtsLine true k tweak stored
  | none => stored

/-! ### ECDSA on P-521 (R457, R458) -/

def p521 : Nat := 2 ^ 521 - 1

/-- The order of the base point. -/
def p521Order : Nat :=
  0x01FFFFFFFFFFFFFFFFFFFFFFFFFFFFFFFFFFFFFFFFFFFFFFFFFFFFFFFFFFFFFFFFFA51868783BF2F966B7FCC0148F709A5D03BB5C9B8899C47AEBB6FB71E91386409

/-- The coefficient b; a is −3. -/
def p521B : Nat :=
  0x0051953EB9618E1C9A1F929A21A0B68540EEA2DA725B99B315F3B8B489918EF109E156193951EC7E937B1652C0BD3BB1BF073573DF883D2C34F1EF451FD46B503F00

/-- The base point. -/
def p521Base : Nat × Nat :=
  (0x00C6858E06B70404E9CD9E3ECB662395B4429C648139053FB521F828AF606B4D3DBAA14B5E77EFE75928FE1DC127A2FFA8DE3348B3C1856A429BF97E7E31C2E5BD66,
   0x011839296A789A3BC0045C8A5FB42C7D1BD998F54449579B446817AFBD17273E662C97EE72995EF42640C550B9013FAD0761353C7086A272C24088BE94769FD16650)

/-- b^e mod m, by the low `n` bits of e. -/
def powMod (m b : Nat) : Nat → Nat → Nat
  | 0, _ => 1
  | n + 1, e => let h := powMod m (b * b % m) n (e / 2); if e % 2 = 1 then h * b % m else h

/-- The inverse of a number modulo a prime. -/
def invMod (m x : Nat) : Nat := powMod m (x % m) 521 (m - 2)

/-- The sum of two points of the curve; none is the point at infinity. -/
def curveAdd : Option (Nat × Nat) → Option (Nat × Nat) → Option (Nat × Nat)
  | none, q => q
  | p, none => p
  | some (x1, y1), some (x2, y2) =>
    let line : Option Nat :=
      if x1 ≠ x2 then some ((y2 + p521 - y1) * invMod p521 (x2 + p521 - x1) % p521)
      else if y1 ≠ y2 ∨ y1 = 0 then none
      else some ((3 * x1 * x1 + p521 - 3) * invMod p521 (2 * y1) % p521)
    line.map fun l =>
      let x := (l * l + 2 * p521 - x1 - x2) % p521
      (x, (l * (x1 + p521 - x) + p521 - y1) % p521)

/-- A multiple of a point, by the low `n` bits of the factor. -/
def curveMul : Nat → Nat → Option (Nat × Nat) → Option (Nat × Nat)
  | 0, _, _ => none
  | n + 1, k, p =>
    let h := curveMul n (k / 2) (curveAdd p p)
    if k % 2 = 1 then curveAdd h p else h

/-- Whether coordinates are a point of the curve. -/
def onCurve (x y : Nat) : Bool := decide (x < p521 ∧ y < p521) && y * y % p521 == (x * x * x + (p521 - 3) * x + p521B) % p521

/-- Whether a signature, r and then s, is one of a digest by the key with the coordinates x and then y, each number in 66 bytes,
the most significant first (R458). -/
def ecdsaVerify (key : List Byte) (digest : BitVec 512) (sig : List Byte) : Bool :=
  let x := bigEndian (key.take 66)
  let y := bigEndian (key.drop 66)
  let r := bigEndian (sig.take 66)
  let s := bigEndian (sig.drop 66)
  let n := p521Order
  let w := invMod n s
  let e := bigEndian (leBytes 64 digest.toNat)
  let u := curveMul 521 (e * w % n) (some p521Base)
  let v := curveMul 521 (r * w % n) (some (x, y))
  onCurve x y && decide (0 < r ∧ r < n ∧ 0 < s ∧ s < n) &&
    (match curveAdd u v with
     | some (x, _) => x % n == r
     | none => false)

end Sys2Proof.Machine
end

