-- ==== Sys2Proof/Config.lean ====
section
/-! DEFINITION. What one LQ-7 part fixes (fuses, the firmware image) and what lies outside the device or is
left open. An opaque constant has no value a proof could see. -/

namespace Sys2Proof.Config

/-- The entry address in the header of the verified firmware image (R66, R458). DESIGN CHOICE, log 1. -/
def firmwareEntry : W := 0x1000#64

/-- The trap entry address in that header, the reset value of FTBASE (R50, R458). DESIGN CHOICE, log 1. -/
def firmwareTrap : W := 0x2000#64

/-- The retirements that firmware recorded for the part, the reset value of every LANEDIS (R157).
DESIGN CHOICE, log 1. -/
def retiredClusters : BitVec 16 := 0#16

/-- The lanes of the first budget refresh, made before any hart starts (R156). DESIGN CHOICE, log 1. -/
def firstBudget : Nat := 512

/-- Whether the host completes an access at a host physical address with an error (R449). -/
opaque hostError (addr : Nat) : Bool

/-- Whether a 64 KiB block of a remote device has SH = 1 (R452), by physical address ÷ 64 KiB. -/
opaque remoteShared (block : Nat) : Bool

/-- The key that a remote device holds under an index, if any (R445, R453). -/
opaque remoteKey (device index : Nat) : Option (BitVec 512)

/-- Whether a remote word carries a live barrier slot of its own device (R353). -/
opaque remoteLive (loc : Nat) : Bool

/-- The bytes of the block map as a checkpoint streams it (R456), from the backing slots, HDMSIZE and the owners; the manual
does not lay them out. Log 37. -/
opaque blockMap (backing : List (Nat × Nat)) (hdm : Nat) (owners : List (Nat × Nat × BitVec 27)) : List Byte

/-- The lanes that the package limit of 2,800 W can power (R6, R435); the manual gives no power of a lane. Log 54. -/
opaque packageLanes : Nat

/-- A signature by the device key that the Ozsen root holds (R460). -/
opaque deviceSign (digest : BitVec 512) : List Byte

/-- The digest of the Ozsen root's own ROM: measurement 1 (R457). -/
opaque romDigest : BitVec 512

/-- The digest of the firmware public key fused in the I/O die (R457). -/
opaque fusedKeyDigest : BitVec 512

/-- The fused minimum image version (R457). -/
opaque fusedMinVersion : Nat

/-- The device certificate chain (R460). -/
opaque certificate : List Byte

/-- The body of the SPDM answers that the manual names without giving their bytes (R460). -/
opaque spdmBody (request : Nat) : List Byte

end Sys2Proof.Config
end

