-- ==== Sys2Proof/Syntax.lean ====
section
/-! DEFINITION. The instructions and events of spec/opcode_table.json, one constructor per row. An
instruction carries the fields of its format (R94), unread ones included, so that its word can be written
back; an event carries what arrives with it from outside the hart. -/

namespace Sys2Proof

/-- Format S: gd, gs1, gs2, sub, fs (R94). -/
structure FS where
  a : BitVec 5
  b : BitVec 5
  c : BitVec 5
  sub : BitVec 4
  fs : BitVec 3
deriving DecidableEq, Repr

/-- Formats I and B: two register fields and imm12 or off12 (R94). -/
structure FI where
  a : BitVec 5
  b : BitVec 5
  imm : BitVec 12
deriving DecidableEq, Repr

/-- Formats U and J: gd and imm17 or off17 (R94). -/
structure FU where
  a : BitVec 5
  imm : BitVec 17
deriving DecidableEq, Repr

/-- Format V: vd, vs1, vs2, the chain bits, mk and fs (R94). -/
structure FV where
  a : BitVec 5
  b : BitVec 5
  c : BitVec 5
  c1 : BitVec 1
  c2 : BitVec 1
  msk : BitVec 2
  fs : BitVec 3
deriving DecidableEq, Repr

/-- Format M: vector register, base, stride or index, ew, mk and hint (R94). -/
structure FM where
  a : BitVec 5
  b : BitVec 5
  c : BitVec 5
  ew : BitVec 2
  msk : BitVec 2
  hint : BitVec 3
deriving DecidableEq, Repr

/-- Format A: vd or gd, base, vidx or gs2, aq, rl, mk and scope (R94). -/
structure FA where
  a : BitVec 5
  b : BitVec 5
  c : BitVec 5
  aq : BitVec 1
  rl : BitVec 1
  msk : BitVec 2
  scope : BitVec 3
deriving DecidableEq, Repr

/-- Format E: three fields, push, pop and imm5 (R94). -/
structure FE where
  a : BitVec 5
  b : BitVec 5
  c : BitVec 5
  push : BitVec 1
  pop : BitVec 1
  imm : BitVec 5
deriving DecidableEq, Repr

/-- One region's three sensor readings: temperatures in degrees and currents in 1/64 A (R438). -/
structure Reading where
  region : Nat
  temps : Int × Int × Int
  amps : Int × Int × Int
deriving DecidableEq, Repr

/-- What the die power managers bring to a refresh (R435, R364, R440): the lanes that each die's share of the package limit
can power, the energy of each region in the last 10 µs in µJ, and each die's mean router queue occupancy in percent. -/
structure PowerReport where
  shares : List (Nat × Nat)
  energy : List (Nat × Nat)
  occupancy : List (Nat × Nat)
deriving DecidableEq, Repr

/-- What a remote device asks of this device's memory (R445): an atomic by its place in the order SWAP, ADD, AND, OR, XOR,
MIN, MAX, MINU, MAXU (R135), FADD (R260); or an update of VSREDFADD or VMREDFADD, with its format word (R269, R272). -/
inductive RemoteOp where
  | load
  | store (bytes : List (BitVec 8))
  | amo (op : Nat) (x : BitVec 64)
  | redFadd (fw x : BitVec 64)
deriving DecidableEq, Repr

/-- A remote request as it arrives at the home device: the request's number, the device that sent it, the
offset and width, the encryption of the requester's leaf, and whether its firmware sent it (R444, R445, R452, R453). -/
structure RemoteReq where
  id : Nat
  source : Nat
  off : Nat
  width : Nat
  key : Option (BitVec 10)
  firmware : Bool
  op : RemoteOp
deriving DecidableEq, Repr

/-- One constructor per row of spec/opcode_table.json. -/
inductive Instr where
  /-- ADD (R117), opcode 0x001. -/
  | add (f : FS)
  /-- SUB (R117), opcode 0x002. -/
  | sub (f : FS)
  /-- MUL (R117), opcode 0x003. -/
  | mul (f : FS)
  /-- MULH (R117), opcode 0x004. -/
  | mulh (f : FS)
  /-- MULHU (R117), opcode 0x005. -/
  | mulhu (f : FS)
  /-- DIV (R118), opcode 0x006. -/
  | div (f : FS)
  /-- DIVU (R118), opcode 0x007. -/
  | divu (f : FS)
  /-- MOD (R118), opcode 0x008. -/
  | mod (f : FS)
  /-- MODU (R118), opcode 0x009. -/
  | modu (f : FS)
  /-- AND (R117), opcode 0x00A. -/
  | and (f : FS)
  /-- OR (R117), opcode 0x00B. -/
  | or (f : FS)
  /-- XOR (R117), opcode 0x00C. -/
  | xor (f : FS)
  /-- SHL (R117), opcode 0x00D. -/
  | shl (f : FS)
  /-- SHR (R117), opcode 0x00E. -/
  | shr (f : FS)
  /-- SAR (R117), opcode 0x00F. -/
  | sar (f : FS)
  /-- CMPLT (R117), opcode 0x010. -/
  | cmplt (f : FS)
  /-- CMPLTU (R117), opcode 0x011. -/
  | cmpltu (f : FS)
  /-- MIN (R117), opcode 0x012. -/
  | min (f : FS)
  /-- MAX (R117), opcode 0x013. -/
  | max (f : FS)
  /-- MINU (R117), opcode 0x014. -/
  | minu (f : FS)
  /-- MAXU (R117), opcode 0x015. -/
  | maxu (f : FS)
  /-- CLZ (R117), opcode 0x016. -/
  | clz (f : FS)
  /-- CTZ (R117), opcode 0x017. -/
  | ctz (f : FS)
  /-- POPC (R117), opcode 0x018. -/
  | popc (f : FS)
  /-- ADDK (R119), opcode 0x019. -/
  | addk (f : FI)
  /-- ANDK (R119), opcode 0x01A. -/
  | andk (f : FI)
  /-- ORK (R119), opcode 0x01B. -/
  | ork (f : FI)
  /-- XORK (R119), opcode 0x01C. -/
  | xork (f : FI)
  /-- SHLK (R119), opcode 0x01D. -/
  | shlk (f : FI)
  /-- SHRK (R119), opcode 0x01E. -/
  | shrk (f : FI)
  /-- SARK (R119), opcode 0x01F. -/
  | sark (f : FI)
  /-- CMPLTK (R119), opcode 0x020. -/
  | cmpltk (f : FI)
  /-- CMPLTUK (R119), opcode 0x021. -/
  | cmpltuk (f : FI)
  /-- HIGH (R120), opcode 0x022. -/
  | high (f : FU)
  /-- PCREL (R121), opcode 0x023. -/
  | pcrel (f : FU)
  /-- LD8 (R122), opcode 0x024. -/
  | ld8 (f : FI)
  /-- LD8S (R122), opcode 0x025. -/
  | ld8s (f : FI)
  /-- LD16 (R122), opcode 0x026. -/
  | ld16 (f : FI)
  /-- LD16S (R122), opcode 0x027. -/
  | ld16s (f : FI)
  /-- LD32 (R122), opcode 0x028. -/
  | ld32 (f : FI)
  /-- LD32S (R122), opcode 0x029. -/
  | ld32s (f : FI)
  /-- LD64 (R122), opcode 0x02A. -/
  | ld64 (f : FI)
  /-- ST8 (R122), opcode 0x02B. -/
  | st8 (f : FI)
  /-- ST16 (R122), opcode 0x02C. -/
  | st16 (f : FI)
  /-- ST32 (R122), opcode 0x02D. -/
  | st32 (f : FI)
  /-- ST64 (R122), opcode 0x02E. -/
  | st64 (f : FI)
  /-- BEQ (R125), opcode 0x030. -/
  | beq (f : FI)
  /-- BNE (R125), opcode 0x031. -/
  | bne (f : FI)
  /-- BLT (R125), opcode 0x032. -/
  | blt (f : FI)
  /-- BGE (R125), opcode 0x033. -/
  | bge (f : FI)
  /-- BLTU (R125), opcode 0x034. -/
  | bltu (f : FI)
  /-- BGEU (R125), opcode 0x035. -/
  | bgeu (f : FI)
  /-- JL (R126), opcode 0x036. -/
  | jl (f : FU)
  /-- JLR (R127), opcode 0x037. -/
  | jlr (f : FI)
  /-- FADD (R128), opcode 0x040. -/
  | fadd (f : FS)
  /-- FSUB (R128), opcode 0x041. -/
  | fsub (f : FS)
  /-- FMUL (R128), opcode 0x042. -/
  | fmul (f : FS)
  /-- FDIV (R128), opcode 0x043. -/
  | fdiv (f : FS)
  /-- FSQRT (R128), opcode 0x044. -/
  | fsqrt (f : FS)
  /-- FMA (R128), opcode 0x045. -/
  | fma (f : FS)
  /-- FMIN (R129), opcode 0x046. -/
  | fmin (f : FS)
  /-- FMAX (R129), opcode 0x047. -/
  | fmax (f : FS)
  /-- FCMP (R130), opcode 0x048. -/
  | fcmp (f : FS)
  /-- FCVT (R92), opcode 0x049. -/
  | fcvt (f : FS)
  /-- FCLASS (R130), opcode 0x04A. -/
  | fclass (f : FS)
  /-- LLINKW (R132), opcode 0x050. -/
  | llinkw (f : FA)
  /-- LLINKD (R132), opcode 0x051. -/
  | llinkd (f : FA)
  /-- SCONDW (R132), opcode 0x052. -/
  | scondw (f : FA)
  /-- SCONDD (R132), opcode 0x053. -/
  | scondd (f : FA)
  /-- AMOSWAPW (R135), opcode 0x054. -/
  | amoswapw (f : FA)
  /-- AMOADDW (R135), opcode 0x055. -/
  | amoaddw (f : FA)
  /-- AMOANDW (R135), opcode 0x056. -/
  | amoandw (f : FA)
  /-- AMOORW (R135), opcode 0x057. -/
  | amoorw (f : FA)
  /-- AMOXORW (R135), opcode 0x058. -/
  | amoxorw (f : FA)
  /-- AMOMINW (R135), opcode 0x059. -/
  | amominw (f : FA)
  /-- AMOMAXW (R135), opcode 0x05A. -/
  | amomaxw (f : FA)
  /-- AMOMINUW (R135), opcode 0x05B. -/
  | amominuw (f : FA)
  /-- AMOMAXUW (R135), opcode 0x05C. -/
  | amomaxuw (f : FA)
  /-- AMOSWAPD (R135), opcode 0x05D. -/
  | amoswapd (f : FA)
  /-- AMOADDD (R135), opcode 0x05E. -/
  | amoaddd (f : FA)
  /-- AMOANDD (R135), opcode 0x05F. -/
  | amoandd (f : FA)
  /-- AMOORD (R135), opcode 0x060. -/
  | amoord (f : FA)
  /-- AMOXORD (R135), opcode 0x061. -/
  | amoxord (f : FA)
  /-- AMOMIND (R135), opcode 0x062. -/
  | amomind (f : FA)
  /-- AMOMAXD (R135), opcode 0x063. -/
  | amomaxd (f : FA)
  /-- AMOMINUD (R135), opcode 0x064. -/
  | amominud (f : FA)
  /-- AMOMAXUD (R135), opcode 0x065. -/
  | amomaxud (f : FA)
  /-- TRAP (R137), opcode 0x080. -/
  | trap (f : FU)
  /-- ERET (R64), opcode 0x081. -/
  | eret (f : FS)
  /-- ERET_REPLAY (R406), opcode 0x081. -/
  | eretReplay (f : FS)
  /-- BRK (R137), opcode 0x082. -/
  | brk (f : FU)
  /-- PARK (R139), opcode 0x083. -/
  | park (f : FI)
  /-- FENCE (R140), opcode 0x084. -/
  | fence (f : FA)
  /-- CRD (R141), opcode 0x085. -/
  | crd (f : FI)
  /-- CWR (R141), opcode 0x086. -/
  | cwr (f : FI)
  /-- CSET (R141), opcode 0x087. -/
  | cset (f : FI)
  /-- CCLR (R141), opcode 0x088. -/
  | cclr (f : FI)
  /-- DTLOAD (R112), opcode 0x089. -/
  | dtload (f : FI)
  /-- IFLUSH (R142), opcode 0x08A. -/
  | iflush (f : FS)
  /-- TLBINV (R143), opcode 0x08B. -/
  | tlbinv (f : FS)
  /-- CTXSV (R420), opcode 0x08C. -/
  | ctxsv (f : FI)
  /-- CTXLD (R421), opcode 0x08D. -/
  | ctxld (f : FI)
  /-- SETVL (R159), opcode 0x100. -/
  | setvl (f : FI)
  /-- SETVLK (R185), opcode 0x101. -/
  | setvlk (f : FU)
  /-- SHAPE (R186), opcode 0x102. -/
  | shape (f : FI)
  /-- VFOLD (R187), opcode 0x103. -/
  | vfold (f : FV)
  /-- VFOLDTO (R189), opcode 0x104. -/
  | vfoldto (f : FV)
  /-- VADD (R190), opcode 0x108. -/
  | vadd (f : FV)
  /-- VSUB (R190), opcode 0x109. -/
  | vsub (f : FV)
  /-- VRSUB (R190), opcode 0x10A. -/
  | vrsub (f : FV)
  /-- VMUL (R190), opcode 0x10B. -/
  | vmul (f : FV)
  /-- VMULH (R190), opcode 0x10C. -/
  | vmulh (f : FV)
  /-- VMULHU (R190), opcode 0x10D. -/
  | vmulhu (f : FV)
  /-- VDIV (R191), opcode 0x10E. -/
  | vdiv (f : FV)
  /-- VMOD (R191), opcode 0x10F. -/
  | vmod (f : FV)
  /-- VAND (R190), opcode 0x110. -/
  | vand (f : FV)
  /-- VOR (R190), opcode 0x111. -/
  | vor (f : FV)
  /-- VXOR (R190), opcode 0x112. -/
  | vxor (f : FV)
  /-- VSHL (R190), opcode 0x113. -/
  | vshl (f : FV)
  /-- VSHR (R190), opcode 0x114. -/
  | vshr (f : FV)
  /-- VSAR (R190), opcode 0x115. -/
  | vsar (f : FV)
  /-- VMIN (R190), opcode 0x116. -/
  | vmin (f : FV)
  /-- VMAX (R190), opcode 0x117. -/
  | vmax (f : FV)
  /-- VMINU (R190), opcode 0x118. -/
  | vminu (f : FV)
  /-- VMAXU (R190), opcode 0x119. -/
  | vmaxu (f : FV)
  /-- VADDS (R191), opcode 0x11A. -/
  | vadds (f : FV)
  /-- VSUBS (R191), opcode 0x11B. -/
  | vsubs (f : FV)
  /-- VCLZ (R190), opcode 0x11C. -/
  | vclz (f : FV)
  /-- VPOPE (R190), opcode 0x11D. -/
  | vpope (f : FV)
  /-- VADD_VS (R190), opcode 0x120. -/
  | vaddVs (f : FV)
  /-- VSUB_VS (R190), opcode 0x121. -/
  | vsubVs (f : FV)
  /-- VRSUB_VS (R190), opcode 0x122. -/
  | vrsubVs (f : FV)
  /-- VMUL_VS (R190), opcode 0x123. -/
  | vmulVs (f : FV)
  /-- VMULH_VS (R190), opcode 0x124. -/
  | vmulhVs (f : FV)
  /-- VMULHU_VS (R190), opcode 0x125. -/
  | vmulhuVs (f : FV)
  /-- VDIV_VS (R191), opcode 0x126. -/
  | vdivVs (f : FV)
  /-- VMOD_VS (R191), opcode 0x127. -/
  | vmodVs (f : FV)
  /-- VAND_VS (R190), opcode 0x128. -/
  | vandVs (f : FV)
  /-- VOR_VS (R190), opcode 0x129. -/
  | vorVs (f : FV)
  /-- VXOR_VS (R190), opcode 0x12A. -/
  | vxorVs (f : FV)
  /-- VSHL_VS (R190), opcode 0x12B. -/
  | vshlVs (f : FV)
  /-- VSHR_VS (R190), opcode 0x12C. -/
  | vshrVs (f : FV)
  /-- VSAR_VS (R190), opcode 0x12D. -/
  | vsarVs (f : FV)
  /-- VMIN_VS (R190), opcode 0x12E. -/
  | vminVs (f : FV)
  /-- VMAX_VS (R190), opcode 0x12F. -/
  | vmaxVs (f : FV)
  /-- VMINU_VS (R190), opcode 0x130. -/
  | vminuVs (f : FV)
  /-- VMAXU_VS (R190), opcode 0x131. -/
  | vmaxuVs (f : FV)
  /-- VADDS_VS (R191), opcode 0x132. -/
  | vaddsVs (f : FV)
  /-- VSUBS_VS (R191), opcode 0x133. -/
  | vsubsVs (f : FV)
  /-- VCEQ (R192), opcode 0x138. -/
  | vceq (f : FV)
  /-- VCNE (R192), opcode 0x139. -/
  | vcne (f : FV)
  /-- VCLT (R192), opcode 0x13A. -/
  | vclt (f : FV)
  /-- VCLE (R192), opcode 0x13B. -/
  | vcle (f : FV)
  /-- VCLTU (R192), opcode 0x13C. -/
  | vcltu (f : FV)
  /-- VCLEU (R192), opcode 0x13D. -/
  | vcleu (f : FV)
  /-- VCEQ_VS (R192), opcode 0x13E. -/
  | vceqVs (f : FV)
  /-- VCNE_VS (R192), opcode 0x13F. -/
  | vcneVs (f : FV)
  /-- VCLT_VS (R192), opcode 0x140. -/
  | vcltVs (f : FV)
  /-- VCLE_VS (R192), opcode 0x141. -/
  | vcleVs (f : FV)
  /-- VCLTU_VS (R192), opcode 0x142. -/
  | vcltuVs (f : FV)
  /-- VCLEU_VS (R192), opcode 0x143. -/
  | vcleuVs (f : FV)
  /-- VFEQ (R192), opcode 0x144. -/
  | vfeq (f : FV)
  /-- VFNE (R192), opcode 0x145. -/
  | vfne (f : FV)
  /-- VFLT (R192), opcode 0x146. -/
  | vflt (f : FV)
  /-- VFLE (R192), opcode 0x147. -/
  | vfle (f : FV)
  /-- VFORD (R192), opcode 0x148. -/
  | vford (f : FV)
  /-- VFADD (R193), opcode 0x150. -/
  | vfadd (f : FV)
  /-- VFSUB (R193), opcode 0x151. -/
  | vfsub (f : FV)
  /-- VFMUL (R193), opcode 0x152. -/
  | vfmul (f : FV)
  /-- VFDIV (R193), opcode 0x153. -/
  | vfdiv (f : FV)
  /-- VFSQRT (R193), opcode 0x154. -/
  | vfsqrt (f : FV)
  /-- VFMA (R193), opcode 0x155. -/
  | vfma (f : FV)
  /-- VFMS (R193), opcode 0x156. -/
  | vfms (f : FV)
  /-- VFNMA (R193), opcode 0x157. -/
  | vfnma (f : FV)
  /-- VFMIN (R193), opcode 0x158. -/
  | vfmin (f : FV)
  /-- VFMAX (R193), opcode 0x159. -/
  | vfmax (f : FV)
  /-- VFSGN (R193), opcode 0x15A. -/
  | vfsgn (f : FV)
  /-- VFCVT (R194), opcode 0x15B. -/
  | vfcvt (f : FV)
  /-- VFCLASS (R194), opcode 0x15C. -/
  | vfclass (f : FV)
  /-- VFEXP (R195), opcode 0x15D. -/
  | vfexp (f : FV)
  /-- VFLOG (R195), opcode 0x15E. -/
  | vflog (f : FV)
  /-- VMERGE (R196), opcode 0x160. -/
  | vmerge (f : FV)
  /-- VMOV (R196), opcode 0x161. -/
  | vmov (f : FV)
  /-- VSPLAT (R196), opcode 0x162. -/
  | vsplat (f : FV)
  /-- VTOG (R196), opcode 0x163. -/
  | vtog (f : FV)
  /-- VFROMG (R196), opcode 0x164. -/
  | vfromg (f : FV)
  /-- VEXT (R196), opcode 0x165. -/
  | vext (f : FV)
  /-- VINDEX (R196), opcode 0x166. -/
  | vindex (f : FV)
  /-- VPREFIX (R196), opcode 0x167. -/
  | vprefix (f : FV)
  /-- VSLUP (R196), opcode 0x168. -/
  | vslup (f : FV)
  /-- VSLDN (R196), opcode 0x169. -/
  | vsldn (f : FV)
  /-- VSL1UP (R196), opcode 0x16A. -/
  | vsl1up (f : FV)
  /-- VSL1DN (R196), opcode 0x16B. -/
  | vsl1dn (f : FV)
  /-- VPERM (R196), opcode 0x16C. -/
  | vperm (f : FV)
  /-- VPACK (R196), opcode 0x16D. -/
  | vpack (f : FV)
  /-- MAND (R198), opcode 0x170. -/
  | mand (f : FV)
  /-- MOR (R198), opcode 0x171. -/
  | mor (f : FV)
  /-- MXOR (R198), opcode 0x172. -/
  | mxor (f : FV)
  /-- MANDN (R198), opcode 0x173. -/
  | mandn (f : FV)
  /-- MMOV (R198), opcode 0x174. -/
  | mmov (f : FV)
  /-- MFROMV (R198), opcode 0x175. -/
  | mfromv (f : FV)
  /-- MTOV (R198), opcode 0x176. -/
  | mtov (f : FV)
  /-- MPOPC (R198), opcode 0x177. -/
  | mpopc (f : FV)
  /-- MFFS (R198), opcode 0x178. -/
  | mffs (f : FV)
  /-- MBEFORE (R198), opcode 0x179. -/
  | mbefore (f : FV)
  /-- MTHROUGH (R198), opcode 0x17A. -/
  | mthrough (f : FV)
  /-- MONLY (R198), opcode 0x17B. -/
  | monly (f : FV)
  /-- VRSUM (R200), opcode 0x180. -/
  | vrsum (f : FV)
  /-- VRMAX (R200), opcode 0x181. -/
  | vrmax (f : FV)
  /-- VRMIN (R200), opcode 0x182. -/
  | vrmin (f : FV)
  /-- VRAND (R200), opcode 0x183. -/
  | vrand (f : FV)
  /-- VROR (R200), opcode 0x184. -/
  | vror (f : FV)
  /-- VRXOR (R200), opcode 0x185. -/
  | vrxor (f : FV)
  /-- VWRSUM (R200), opcode 0x186. -/
  | vwrsum (f : FV)
  /-- VFRSUM (R201), opcode 0x187. -/
  | vfrsum (f : FV)
  /-- VFRSUMT (R202), opcode 0x188. -/
  | vfrsumt (f : FV)
  /-- VFRMAX (R201), opcode 0x189. -/
  | vfrmax (f : FV)
  /-- VFRMIN (R201), opcode 0x18A. -/
  | vfrmin (f : FV)
  /-- VLD (R255), opcode 0x200. -/
  | vld (f : FM)
  /-- VLDS (R255), opcode 0x201. -/
  | vlds (f : FM)
  /-- VLDX (R255), opcode 0x202. -/
  | vldx (f : FM)
  /-- VLDFF (R258), opcode 0x203. -/
  | vldff (f : FM)
  /-- VLDM (R259), opcode 0x204. -/
  | vldm (f : FM)
  /-- VST (R255), opcode 0x205. -/
  | vst (f : FM)
  /-- VSTS (R255), opcode 0x206. -/
  | vsts (f : FM)
  /-- VSTX (R256), opcode 0x207. -/
  | vstx (f : FM)
  /-- VSTXO (R257), opcode 0x208. -/
  | vstxo (f : FM)
  /-- VSTM (R259), opcode 0x209. -/
  | vstm (f : FM)
  /-- VAMOSWAP (R261), opcode 0x210. -/
  | vamoswap (f : FA)
  /-- VAMOADD (R261), opcode 0x211. -/
  | vamoadd (f : FA)
  /-- VAMOAND (R261), opcode 0x212. -/
  | vamoand (f : FA)
  /-- VAMOOR (R261), opcode 0x213. -/
  | vamoor (f : FA)
  /-- VAMOXOR (R261), opcode 0x214. -/
  | vamoxor (f : FA)
  /-- VAMOMIN (R261), opcode 0x215. -/
  | vamomin (f : FA)
  /-- VAMOMAX (R261), opcode 0x216. -/
  | vamomax (f : FA)
  /-- VAMOMINU (R261), opcode 0x217. -/
  | vamominu (f : FA)
  /-- VAMOMAXU (R261), opcode 0x218. -/
  | vamomaxu (f : FA)
  /-- VAMOFADD (R260), opcode 0x219. -/
  | vamofadd (f : FA)
  /-- VGLL (R264), opcode 0x21A. -/
  | vgll (f : FA)
  /-- VSCC (R265), opcode 0x21B. -/
  | vscc (f : FA)
  /-- VWAIT (R268), opcode 0x220. -/
  | vwait (f : FE)
  /-- VSREDADD (R270), opcode 0x228. -/
  | vsredadd (f : FV)
  /-- VSREDMAX (R270), opcode 0x229. -/
  | vsredmax (f : FV)
  /-- VSREDMIN (R270), opcode 0x22A. -/
  | vsredmin (f : FV)
  /-- VSREDFADD (R270), opcode 0x22B. -/
  | vsredfadd (f : FV)
  /-- VMREDADD (R272), opcode 0x22C. -/
  | vmredadd (f : FV)
  /-- VMREDMAX (R272), opcode 0x22D. -/
  | vmredmax (f : FV)
  /-- VMREDMIN (R272), opcode 0x22E. -/
  | vmredmin (f : FV)
  /-- VMREDFADD (R272), opcode 0x22F. -/
  | vmredfadd (f : FV)
  /-- TRES (R275), opcode 0x240. -/
  | tres (f : FE)
  /-- TEVICT (R276), opcode 0x241. -/
  | tevict (f : FE)
  /-- TDEMOTE (R276), opcode 0x242. -/
  | tdemote (f : FE)
  /-- STMAP (R277), opcode 0x243. -/
  | stmap (f : FS)
  /-- CWAYS (R279), opcode 0x244. -/
  | cways (f : FI)
  /-- VMMAD (R209), opcode 0x280. -/
  | vmmad (f : FV)
  /-- VMMAR (R211), opcode 0x281. -/
  | vmmar (f : FV)
  /-- VMMAO (R210), opcode 0x282. -/
  | vmmao (f : FV)
  /-- VMMAS (R212), opcode 0x283. -/
  | vmmas (f : FV)
  /-- VLGMUL (R213), opcode 0x288. -/
  | vlgmul (f : FV)
  /-- VLGACC (R213), opcode 0x289. -/
  | vlgacc (f : FV)
  /-- VLGCVT (R214), opcode 0x28A. -/
  | vlgcvt (f : FV)
  /-- VSCALE (R216), opcode 0x290. -/
  | vscale (f : FV)
  /-- VAMAX (R219), opcode 0x291. -/
  | vamax (f : FV)
  /-- VQUANT (R217), opcode 0x292. -/
  | vquant (f : FV)
  /-- BXG (R374), opcode 0x2C0. -/
  | bxg (f : FE)
  /-- BXC (R374), opcode 0x2C1. -/
  | bxc (f : FE)
  /-- BXS_ROW (R374), opcode 0x2C2. -/
  | bxsRow (f : FE)
  /-- BXS_STREAM (R374), opcode 0x2C2. -/
  | bxsStream (f : FE)
  /-- SHINIT (R376), opcode 0x2C8. -/
  | shinit (f : FE)
  /-- SHACQ (R377), opcode 0x2C9. -/
  | shacq (f : FE)
  /-- SHCOM (R377), opcode 0x2CA. -/
  | shcom (f : FE)
  /-- SHWAIT (R377), opcode 0x2CB. -/
  | shwait (f : FE)
  /-- SHREL (R377), opcode 0x2CC. -/
  | shrel (f : FE)
  /-- BSET (R379), opcode 0x2D0. -/
  | bset (f : FE)
  /-- BARV (R378), opcode 0x2D1. -/
  | barv (f : FE)
  /-- BWAIT (R380), opcode 0x2D2. -/
  | bwait (f : FE)
  /-- BEXP (R378), opcode 0x2D3. -/
  | bexp (f : FE)
  /-- BRET (R378), opcode 0x2D4. -/
  | bret (f : FE)
  /-- TKDEF (R383), opcode 0x2D8. -/
  | tkdef (f : FE)
  /-- TKDEP (R382), opcode 0x2D9. -/
  | tkdep (f : FE)
  /-- TKSIG (R355), opcode 0x2DA. -/
  | tksig (f : FE)
  /-- TKSPAWN (R355), opcode 0x2DB. -/
  | tkspawn (f : FE)
  /-- TKEND (R384), opcode 0x2DC. -/
  | tkend (f : FE)
  /-- TKFREE (R382), opcode 0x2DD. -/
  | tkfree (f : FE)
  /-- SFSTART (R385), opcode 0x2E0. -/
  | sfstart (f : FE)
  /-- SFNEXT (R366), opcode 0x2E1. -/
  | sfnext (f : FE)
  /-- SFEND (R387), opcode 0x2E2. -/
  | sfend (f : FE)
  /-- DRPUSH (R388), opcode 0x2E8. -/
  | drpush (f : FE)
  /-- DRPOP (R388), opcode 0x2E9. -/
  | drpop (f : FE)
  /-- DRGN (R303), opcode 0x300. -/
  | drgn (f : FE)
  /-- DMODE (R305), opcode 0x301. -/
  | dmode (f : FI)
  /-- DTAPE (R308), opcode 0x302. -/
  | dtape (f : FS)
  /-- DREST (R314), opcode 0x303. -/
  | drest (f : FI)
  /-- DMARK (R313), opcode 0x304. -/
  | dmark (f : FI)
  /-- KPAGE (R322), opcode 0x320. -/
  | kpage (f : FE)
  /-- KSEL (R329), opcode 0x321. -/
  | ksel (f : FE)
  /-- KGAT (R330), opcode 0x322. -/
  | kgat (f : FE)
  /-- KSYNC (R331), opcode 0x323. -/
  | ksync (f : FE)
  /-- PACKAGE_RESET (R457). -/
  | packageReset
  /-- BOOT_HART_START (R66). -/
  | bootHartStart
  /-- HRUN (R67). -/
  | hrun (x : BitVec 64)
  /-- CONTROL_REGISTER_WRITE (R141). -/
  | controlRegisterWrite (n : BitVec 12) (x : BitVec 64)
  /-- ATP_WRITE (R241). -/
  | atpWrite (x : BitVec 64)
  /-- TIME_WRITE (R54). -/
  | timeWrite (x : BitVec 64)
  /-- POOL_CARVE_WRITE (R228). -/
  | poolCarveWrite (n : BitVec 12) (x : BitVec 64)
  /-- CALLOT_WRITE (R362). -/
  | callotWrite (x : BitVec 64)
  /-- DROOP_CLEAR (R437). -/
  | droopClear
  /-- KEY_LOAD (R454). -/
  | keyLoad
  /-- KEY_ERASE (R454). -/
  | keyErase
  /-- CONTEXT_EXPORT (R462). -/
  | contextExport
  /-- CONTEXT_IMPORT (R462). -/
  | contextImport
  /-- BLKOWN_WRITE (R451). -/
  | blkownWrite (x : BitVec 64)
  /-- DOORBELL (R359). -/
  | doorbell (ctx : Nat) (x : BitVec 64)
  /-- CKRUN (R456). -/
  | ckrun (x : BitVec 64)
  /-- SNAPSHOT_POINT (R456). -/
  | snapshotPoint
  /-- CHECKPOINT_BLOCK_STREAM (R456). -/
  | checkpointBlockStream (block : Nat)
  /-- ASYNC_EVENT_TAKE (R62). -/
  | asyncEventTake
  /-- VECTOR_FAULT_DELIVERY (R400). -/
  | vectorFaultDelivery
  /-- GRANT_LOSS (R164). -/
  | grantLoss
  /-- POISON_RECORD (R411). -/
  | poisonRecord
  /-- MEMORY_ERROR (R408). -/
  | memoryError (loc : Nat)
  /-- LANE_ERROR (R412). -/
  | laneError (core lane : Nat) (reg : BitVec 5) (unc : Bool)
  /-- UNIT_ERROR (R413). -/
  | unitError (kind index : Nat) (unc : Bool)
  /-- ERROR_AGE_OUT (R413). -/
  | errorAgeOut (kind index : Nat)
  /-- BUDGET_REFRESH (R435). -/
  | budgetRefresh (x : PowerReport)
  /-- QUOTA_REFILL (R364). -/
  | quotaRefill (ctx : Nat)
  /-- HARD_SHRINK (R163). -/
  | hardShrink (lanes : Nat)
  /-- SCRIPT_SHRINK_COUNT (R169). -/
  | scriptShrinkCount
  /-- CURRENT_LIMIT_EMERGENCY (R436). -/
  | currentLimitEmergency (core : Nat)
  /-- PHASE_TRIP (R430). -/
  | phaseTrip (region phase : Nat) (unc : Bool)
  /-- PHASE_RETURN (R430). -/
  | phaseReturn (region phase : Nat) (pass : Bool)
  /-- SUPPLY_DROOP (R437). -/
  | supplyDroop (region millivolts step : Nat)
  /-- REGULATOR_FAIL (R431), with the numbers of the 64-byte lines that a die had dirty, when it goes dark (R442). -/
  | regulatorFail (region : Nat) (dirty : List Nat)
  /-- SENSOR_SAMPLE (R438). -/
  | sensorSample (die : Nat) (x : List Reading)
  /-- CLUSTER_WAKE_REQUEST (R433). -/
  | clusterWakeRequest (core : Nat) (clusters : BitVec 16)
  /-- WAKE_NEIGHBOUR_CLEAR (R433). -/
  | wakeNeighbourClear (core : Nat)
  /-- WAKE_WAIT_TIMEOUT (R433). -/
  | wakeWaitTimeout (core : Nat)
  /-- WAKE_STAGE_STEP (R433). -/
  | wakeStageStep (core : Nat)
  /-- TASK_PLACE (R361). -/
  | taskPlace (ctx slot : Nat) (harts : List Nat)
  /-- PREEMPT_WAIT_EXPIRY (R363). -/
  | preemptWaitExpiry (ctx slot : Nat)
  /-- STRIP_BOUNDARY_PREEMPT (R415). -/
  | stripBoundaryPreempt
  /-- IMMEDIATE_PREEMPT (R415). -/
  | immediatePreempt
  /-- STRIP_PREEMPT_TIMEOUT (R415). -/
  | stripPreemptTimeout
  /-- FARM_RECRUIT (R365). -/
  | farmRecruit (hart : Nat)
  /-- PARK_WAKE (R139). -/
  | parkWake
  /-- PARK_TIMEOUT (R139). -/
  | parkTimeout
  /-- VWAIT_TIMEOUT (R268). -/
  | vwaitTimeout
  /-- VWAIT_SATISFIED (R268). -/
  | vwaitSatisfied
  /-- SHELF_WAIT_END (R377). -/
  | shelfWaitEnd
  /-- BARRIER_WAIT_END (R380). -/
  | barrierWaitEnd
  /-- TOKEN_ARRIVAL (R346). -/
  | tokenArrival
  /-- DRAWER_ROOM (R346). -/
  | drawerRoom
  /-- CHUNK_COMPLETE (R338). -/
  | chunkComplete (x j : Nat)
  /-- TRANSFER_RETIRE (R374). -/
  | transferRetire (x : Nat)
  /-- AMAX_DRAIN_APPLY (R220). -/
  | amaxDrainApply (k : Nat)
  /-- MIGRATE_LINE_COPY (R245). -/
  | migrateLineCopy (block : Nat)
  /-- MIGRATE_COMMIT (R245). -/
  | migrateCommit (block : Nat)
  /-- WP_MIGRATE_LINE_COPY (R246). -/
  | wpMigrateLineCopy (block line : Nat)
  /-- WP_MIGRATE_COMMIT (R246). -/
  | wpMigrateCommit (block : Nat)
  /-- FLIT_RECEIVE (R444). -/
  | flitReceive (port : Nat) (ok : Bool)
  /-- PORT_DOWN (R444). -/
  | portDown (port : Nat)
  /-- REMOTE_REQUEST (R445). -/
  | remoteRequest (x : RemoteReq)
  /-- REMOTE_ACK (R444). -/
  | remoteAck (id : Nat)
  /-- HOST_MEM_WRITE (R450). -/
  | hostMemWrite (off : Nat) (bytes : List (BitVec 8))
  /-- HOST_MEM_READ (R450). -/
  | hostMemRead (off n : Nat)
  /-- CXL_LINK_UP (R447). -/
  | cxlLinkUp (width flit : Nat)
  /-- CXL_LINK_DOWN (R448). -/
  | cxlLinkDown
  /-- GET_VERSION (R460). -/
  | getVersion
  /-- GET_CAPABILITIES (R460). -/
  | getCapabilities
  /-- NEGOTIATE_ALGORITHMS (R460). -/
  | negotiateAlgorithms (p521 sha512 : Bool)
  /-- GET_DIGESTS (R460). -/
  | getDigests
  /-- GET_CERTIFICATE (R460). -/
  | getCertificate
  /-- CHALLENGE (R460). -/
  | challenge (nonce : BitVec 256)
  /-- GET_MEASUREMENTS (R460). -/
  | getMeasurements (index ctx : Nat)
  /-- UNSUPPORTED_REQUEST (R460). -/
  | unsupportedRequest (code : BitVec 8)
  /-- DECODE_TABLE_MISS (R103). -/
  | decodeTableMiss (w : BitVec 32)
  /-- INSTRUCTION_FETCH_FAULT (R127). -/
  | instructionFetchFault
  /-- TIME_TICK (R53). -/
  | timeTick (cycles ticks : Nat)
  /-- COMMAND_DISPATCH (R171). -/
  | commandDispatch
  /-- PORT_UP (R446). -/
  | portUp (port : Nat)
  /-- RAIL_REMOVAL (R66). -/
  | railRemoval
  /-- CONTROL_PAGE_WRITE (R358). -/
  | controlPageWrite (off : Nat) (x : BitVec 64)
  /-- PSTAT_WRITE (R410). -/
  | pstatWrite (x : BitVec 64)
deriving DecidableEq, Repr

end Sys2Proof
end

