-- ==== Sys2Proof/Decode.lean ====
section
/-! DEFINITION. The decoder of base map version 1 (R94 to R106), total on every word, and the encoder.
A word that is no instruction is rejected by name: an illegal instruction or a decode-table miss (R103). -/

namespace Sys2Proof

/-- Why a word is no instruction (R103), or why there is no word. -/
inductive DecodeErr where
  /-- Fewer than four bytes were given. -/
  | short
  /-- Illegal instruction, CAUSE 0x02. -/
  | illegal
  /-- Decode-table miss, CAUSE 0x03. -/
  | miss
deriving DecidableEq, Repr

/-- What a word decodes to. -/
inductive Decoded where
  | ok (i : Instr)
  | err (e : DecodeErr)
deriving DecidableEq, Repr

/-- The field of `n` bits at bit `lo` of a word (R94). -/
def wfield (w lo n : Nat) : BitVec n := BitVec.ofNat n (w / 2 ^ lo)

/-- The fields of each format (R94). -/
def readS (w : Nat) : FS := ⟨wfield w 17 5, wfield w 12 5, wfield w 7 5, wfield w 3 4, wfield w 0 3⟩
def readI (w : Nat) : FI := ⟨wfield w 17 5, wfield w 12 5, wfield w 0 12⟩
def readU (w : Nat) : FU := ⟨wfield w 17 5, wfield w 0 17⟩
def readV (w : Nat) : FV :=
  ⟨wfield w 17 5, wfield w 12 5, wfield w 7 5, wfield w 6 1, wfield w 5 1, wfield w 3 2, wfield w 0 3⟩
def readM (w : Nat) : FM :=
  ⟨wfield w 17 5, wfield w 12 5, wfield w 7 5, wfield w 5 2, wfield w 3 2, wfield w 0 3⟩
def readA (w : Nat) : FA :=
  ⟨wfield w 17 5, wfield w 12 5, wfield w 7 5, wfield w 6 1, wfield w 5 1, wfield w 3 2, wfield w 0 3⟩
def readE (w : Nat) : FE :=
  ⟨wfield w 17 5, wfield w 12 5, wfield w 7 5, wfield w 6 1, wfield w 5 1, wfield w 0 5⟩

/-- The low 22 bits of a word of each format (R94). -/
def lowS (f : FS) : Nat :=
  f.a.toNat * 2 ^ 17 + f.b.toNat * 2 ^ 12 + f.c.toNat * 2 ^ 7 + f.sub.toNat * 2 ^ 3 + f.fs.toNat
def lowI (f : FI) : Nat := f.a.toNat * 2 ^ 17 + f.b.toNat * 2 ^ 12 + f.imm.toNat
def lowU (f : FU) : Nat := f.a.toNat * 2 ^ 17 + f.imm.toNat
def lowV (f : FV) : Nat :=
  f.a.toNat * 2 ^ 17 + f.b.toNat * 2 ^ 12 + f.c.toNat * 2 ^ 7 + f.c1.toNat * 2 ^ 6 + f.c2.toNat * 2 ^ 5 +
    f.msk.toNat * 2 ^ 3 + f.fs.toNat
def lowM (f : FM) : Nat :=
  f.a.toNat * 2 ^ 17 + f.b.toNat * 2 ^ 12 + f.c.toNat * 2 ^ 7 + f.ew.toNat * 2 ^ 5 + f.msk.toNat * 2 ^ 3 +
    f.hint.toNat
def lowA (f : FA) : Nat :=
  f.a.toNat * 2 ^ 17 + f.b.toNat * 2 ^ 12 + f.c.toNat * 2 ^ 7 + f.aq.toNat * 2 ^ 6 + f.rl.toNat * 2 ^ 5 +
    f.msk.toNat * 2 ^ 3 + f.scope.toNat
def lowE (f : FE) : Nat :=
  f.a.toNat * 2 ^ 17 + f.b.toNat * 2 ^ 12 + f.c.toNat * 2 ^ 7 + f.push.toNat * 2 ^ 6 + f.pop.toNat * 2 ^ 5 +
    f.imm.toNat

/-- The last register of a transfer descriptor: five registers when BAR or TSK is 1, else four (R371). -/
def spanEnd (f : FE) : Nat :=
  f.c.toNat + (if f.imm.getLsbD 2 = true ∨ f.imm.getLsbD 3 = true then 4 else 3)

/-- The operations 0x000 to 0x07F of base map version 1 (R106). -/
def decodeScalar (op w : Nat) : Option Instr :=
  match op with
  | 0x001 => some (.add (readS w))
  | 0x002 => some (.sub (readS w))
  | 0x003 => some (.mul (readS w))
  | 0x004 => some (.mulh (readS w))
  | 0x005 => some (.mulhu (readS w))
  | 0x006 => some (.div (readS w))
  | 0x007 => some (.divu (readS w))
  | 0x008 => some (.mod (readS w))
  | 0x009 => some (.modu (readS w))
  | 0x00A => some (.and (readS w))
  | 0x00B => some (.or (readS w))
  | 0x00C => some (.xor (readS w))
  | 0x00D => some (.shl (readS w))
  | 0x00E => some (.shr (readS w))
  | 0x00F => some (.sar (readS w))
  | 0x010 => some (.cmplt (readS w))
  | 0x011 => some (.cmpltu (readS w))
  | 0x012 => some (.min (readS w))
  | 0x013 => some (.max (readS w))
  | 0x014 => some (.minu (readS w))
  | 0x015 => some (.maxu (readS w))
  | 0x016 => some (.clz (readS w))
  | 0x017 => some (.ctz (readS w))
  | 0x018 => some (.popc (readS w))
  | 0x019 => some (.addk (readI w))
  | 0x01A => some (.andk (readI w))
  | 0x01B => some (.ork (readI w))
  | 0x01C => some (.xork (readI w))
  | 0x01D => some (.shlk (readI w))
  | 0x01E => some (.shrk (readI w))
  | 0x01F => some (.sark (readI w))
  | 0x020 => some (.cmpltk (readI w))
  | 0x021 => some (.cmpltuk (readI w))
  | 0x022 => some (.high (readU w))
  | 0x023 => some (.pcrel (readU w))
  | 0x024 => some (.ld8 (readI w))
  | 0x025 => some (.ld8s (readI w))
  | 0x026 => some (.ld16 (readI w))
  | 0x027 => some (.ld16s (readI w))
  | 0x028 => some (.ld32 (readI w))
  | 0x029 => some (.ld32s (readI w))
  | 0x02A => some (.ld64 (readI w))
  | 0x02B => some (.st8 (readI w))
  | 0x02C => some (.st16 (readI w))
  | 0x02D => some (.st32 (readI w))
  | 0x02E => some (.st64 (readI w))
  | 0x030 => some (.beq (readI w))
  | 0x031 => some (.bne (readI w))
  | 0x032 => some (.blt (readI w))
  | 0x033 => some (.bge (readI w))
  | 0x034 => some (.bltu (readI w))
  | 0x035 => some (.bgeu (readI w))
  | 0x036 => some (.jl (readU w))
  | 0x037 => some (.jlr (readI w))
  | 0x040 => some (.fadd (readS w))
  | 0x041 => some (.fsub (readS w))
  | 0x042 => some (.fmul (readS w))
  | 0x043 => some (.fdiv (readS w))
  | 0x044 => some (.fsqrt (readS w))
  | 0x045 => some (.fma (readS w))
  | 0x046 => some (.fmin (readS w))
  | 0x047 => some (.fmax (readS w))
  | 0x048 => some (.fcmp (readS w))
  | 0x049 => some (.fcvt (readS w))
  | 0x04A => some (.fclass (readS w))
  | 0x050 => some (.llinkw (readA w))
  | 0x051 => some (.llinkd (readA w))
  | 0x052 => some (.scondw (readA w))
  | 0x053 => some (.scondd (readA w))
  | 0x054 => some (.amoswapw (readA w))
  | 0x055 => some (.amoaddw (readA w))
  | 0x056 => some (.amoandw (readA w))
  | 0x057 => some (.amoorw (readA w))
  | 0x058 => some (.amoxorw (readA w))
  | 0x059 => some (.amominw (readA w))
  | 0x05A => some (.amomaxw (readA w))
  | 0x05B => some (.amominuw (readA w))
  | 0x05C => some (.amomaxuw (readA w))
  | 0x05D => some (.amoswapd (readA w))
  | 0x05E => some (.amoaddd (readA w))
  | 0x05F => some (.amoandd (readA w))
  | 0x060 => some (.amoord (readA w))
  | 0x061 => some (.amoxord (readA w))
  | 0x062 => some (.amomind (readA w))
  | 0x063 => some (.amomaxd (readA w))
  | 0x064 => some (.amominud (readA w))
  | 0x065 => some (.amomaxud (readA w))
  | _ => none

/-- The operations 0x080 to 0x0FF of base map version 1 (R106). -/
def decodeSystem (op w : Nat) : Option Instr :=
  match op with
  | 0x080 => some (.trap (readU w))
  | 0x081 => some (if w / 8 % 2 = 1 then .eretReplay (readS w) else .eret (readS w))
  | 0x082 => some (.brk (readU w))
  | 0x083 => some (.park (readI w))
  | 0x084 => some (.fence (readA w))
  | 0x085 => some (.crd (readI w))
  | 0x086 => some (.cwr (readI w))
  | 0x087 => some (.cset (readI w))
  | 0x088 => some (.cclr (readI w))
  | 0x089 => some (.dtload (readI w))
  | 0x08A => some (.iflush (readS w))
  | 0x08B => some (.tlbinv (readS w))
  | 0x08C => some (.ctxsv (readI w))
  | 0x08D => some (.ctxld (readI w))
  | _ => none

/-- The operations 0x100 to 0x137 of base map version 1 (R106). -/
def decodeVint (op w : Nat) : Option Instr :=
  match op with
  | 0x100 => some (.setvl (readI w))
  | 0x101 => some (.setvlk (readU w))
  | 0x102 => some (.shape (readI w))
  | 0x103 => some (.vfold (readV w))
  | 0x104 => some (.vfoldto (readV w))
  | 0x108 => some (.vadd (readV w))
  | 0x109 => some (.vsub (readV w))
  | 0x10A => some (.vrsub (readV w))
  | 0x10B => some (.vmul (readV w))
  | 0x10C => some (.vmulh (readV w))
  | 0x10D => some (.vmulhu (readV w))
  | 0x10E => some (.vdiv (readV w))
  | 0x10F => some (.vmod (readV w))
  | 0x110 => some (.vand (readV w))
  | 0x111 => some (.vor (readV w))
  | 0x112 => some (.vxor (readV w))
  | 0x113 => some (.vshl (readV w))
  | 0x114 => some (.vshr (readV w))
  | 0x115 => some (.vsar (readV w))
  | 0x116 => some (.vmin (readV w))
  | 0x117 => some (.vmax (readV w))
  | 0x118 => some (.vminu (readV w))
  | 0x119 => some (.vmaxu (readV w))
  | 0x11A => some (.vadds (readV w))
  | 0x11B => some (.vsubs (readV w))
  | 0x11C => some (.vclz (readV w))
  | 0x11D => some (.vpope (readV w))
  | 0x120 => some (.vaddVs (readV w))
  | 0x121 => some (.vsubVs (readV w))
  | 0x122 => some (.vrsubVs (readV w))
  | 0x123 => some (.vmulVs (readV w))
  | 0x124 => some (.vmulhVs (readV w))
  | 0x125 => some (.vmulhuVs (readV w))
  | 0x126 => some (.vdivVs (readV w))
  | 0x127 => some (.vmodVs (readV w))
  | 0x128 => some (.vandVs (readV w))
  | 0x129 => some (.vorVs (readV w))
  | 0x12A => some (.vxorVs (readV w))
  | 0x12B => some (.vshlVs (readV w))
  | 0x12C => some (.vshrVs (readV w))
  | 0x12D => some (.vsarVs (readV w))
  | 0x12E => some (.vminVs (readV w))
  | 0x12F => some (.vmaxVs (readV w))
  | 0x130 => some (.vminuVs (readV w))
  | 0x131 => some (.vmaxuVs (readV w))
  | 0x132 => some (.vaddsVs (readV w))
  | 0x133 => some (.vsubsVs (readV w))
  | _ => none

/-- The operations 0x138 to 0x15F of base map version 1 (R106). -/
def decodeVcmp (op w : Nat) : Option Instr :=
  match op with
  | 0x138 => some (.vceq (readV w))
  | 0x139 => some (.vcne (readV w))
  | 0x13A => some (.vclt (readV w))
  | 0x13B => some (.vcle (readV w))
  | 0x13C => some (.vcltu (readV w))
  | 0x13D => some (.vcleu (readV w))
  | 0x13E => some (.vceqVs (readV w))
  | 0x13F => some (.vcneVs (readV w))
  | 0x140 => some (.vcltVs (readV w))
  | 0x141 => some (.vcleVs (readV w))
  | 0x142 => some (.vcltuVs (readV w))
  | 0x143 => some (.vcleuVs (readV w))
  | 0x144 => some (.vfeq (readV w))
  | 0x145 => some (.vfne (readV w))
  | 0x146 => some (.vflt (readV w))
  | 0x147 => some (.vfle (readV w))
  | 0x148 => some (.vford (readV w))
  | 0x150 => some (.vfadd (readV w))
  | 0x151 => some (.vfsub (readV w))
  | 0x152 => some (.vfmul (readV w))
  | 0x153 => some (.vfdiv (readV w))
  | 0x154 => some (.vfsqrt (readV w))
  | 0x155 => some (.vfma (readV w))
  | 0x156 => some (.vfms (readV w))
  | 0x157 => some (.vfnma (readV w))
  | 0x158 => some (.vfmin (readV w))
  | 0x159 => some (.vfmax (readV w))
  | 0x15A => some (.vfsgn (readV w))
  | 0x15B => some (.vfcvt (readV w))
  | 0x15C => some (.vfclass (readV w))
  | 0x15D => some (.vfexp (readV w))
  | 0x15E => some (.vflog (readV w))
  | _ => none

/-- The operations 0x160 to 0x1FF of base map version 1 (R106). -/
def decodeVmove (op w : Nat) : Option Instr :=
  match op with
  | 0x160 => some (.vmerge (readV w))
  | 0x161 => some (.vmov (readV w))
  | 0x162 => some (.vsplat (readV w))
  | 0x163 => some (.vtog (readV w))
  | 0x164 => some (.vfromg (readV w))
  | 0x165 => some (.vext (readV w))
  | 0x166 => some (.vindex (readV w))
  | 0x167 => some (.vprefix (readV w))
  | 0x168 => some (.vslup (readV w))
  | 0x169 => some (.vsldn (readV w))
  | 0x16A => some (.vsl1up (readV w))
  | 0x16B => some (.vsl1dn (readV w))
  | 0x16C => some (.vperm (readV w))
  | 0x16D => some (.vpack (readV w))
  | 0x170 => some (.mand (readV w))
  | 0x171 => some (.mor (readV w))
  | 0x172 => some (.mxor (readV w))
  | 0x173 => some (.mandn (readV w))
  | 0x174 => some (.mmov (readV w))
  | 0x175 => some (.mfromv (readV w))
  | 0x176 => some (.mtov (readV w))
  | 0x177 => some (.mpopc (readV w))
  | 0x178 => some (.mffs (readV w))
  | 0x179 => some (.mbefore (readV w))
  | 0x17A => some (.mthrough (readV w))
  | 0x17B => some (.monly (readV w))
  | 0x180 => some (.vrsum (readV w))
  | 0x181 => some (.vrmax (readV w))
  | 0x182 => some (.vrmin (readV w))
  | 0x183 => some (.vrand (readV w))
  | 0x184 => some (.vror (readV w))
  | 0x185 => some (.vrxor (readV w))
  | 0x186 => some (.vwrsum (readV w))
  | 0x187 => some (.vfrsum (readV w))
  | 0x188 => some (.vfrsumt (readV w))
  | 0x189 => some (.vfrmax (readV w))
  | 0x18A => some (.vfrmin (readV w))
  | _ => none

/-- The operations 0x200 to 0x27F of base map version 1 (R106). -/
noncomputable def decodeVmem (op w : Nat) : Option Instr :=
  match op with
  | 0x200 => some (.vld (readM w))
  | 0x201 => some (.vlds (readM w))
  | 0x202 => some (.vldx (readM w))
  | 0x203 => some (.vldff (readM w))
  | 0x204 => some (.vldm (readM w))
  | 0x205 => some (.vst (readM w))
  | 0x206 => some (.vsts (readM w))
  | 0x207 => some (.vstx (readM w))
  | 0x208 => some (.vstxo (readM w))
  | 0x209 => some (.vstm (readM w))
  | 0x210 => some (.vamoswap (readA w))
  | 0x211 => some (.vamoadd (readA w))
  | 0x212 => some (.vamoand (readA w))
  | 0x213 => some (.vamoor (readA w))
  | 0x214 => some (.vamoxor (readA w))
  | 0x215 => some (.vamomin (readA w))
  | 0x216 => some (.vamomax (readA w))
  | 0x217 => some (.vamominu (readA w))
  | 0x218 => some (.vamomaxu (readA w))
  | 0x219 => some (.vamofadd (readA w))
  | 0x21A => some (.vgll (readA w))
  | 0x21B => some (.vscc (readA w))
  | 0x220 => some (.vwait (readE w))
  | 0x228 => some (.vsredadd (readV w))
  | 0x229 => some (.vsredmax (readV w))
  | 0x22A => some (.vsredmin (readV w))
  | 0x22B => some (.vsredfadd (readV w))
  | 0x22C => some (.vmredadd (readV w))
  | 0x22D => some (.vmredmax (readV w))
  | 0x22E => some (.vmredmin (readV w))
  | 0x22F => some (.vmredfadd (readV w))
  | 0x240 => some (.tres (readE w))
  | 0x241 => some (.tevict (readE w))
  | 0x242 => some (.tdemote (readE w))
  | 0x243 => some (.stmap (readS w))
  | 0x244 => some (.cways (readI w))
  | _ => none

/-- The operations 0x280 to 0x2BF of base map version 1 (R106). -/
noncomputable def decodeMatrix (op w : Nat) : Option Instr :=
  match op with
  | 0x280 => some (.vmmad (readV w))
  | 0x281 => some (.vmmar (readV w))
  | 0x282 => some (.vmmao (readV w))
  | 0x283 => some (.vmmas (readV w))
  | 0x288 => some (.vlgmul (readV w))
  | 0x289 => some (.vlgacc (readV w))
  | 0x28A => some (.vlgcvt (readV w))
  | 0x290 => some (.vscale (readV w))
  | 0x291 => some (.vamax (readV w))
  | 0x292 => some (.vquant (readV w))
  | _ => none

/-- The operations 0x2C0 to 0x2FF of base map version 1 (R106). -/
noncomputable def decodeEngine (op w : Nat) : Option Instr :=
  match op with
  | 0x2C0 => some (.bxg (readE w))
  | 0x2C1 => some (.bxc (readE w))
  | 0x2C2 => some (if w / 16 % 2 = 1 then .bxsStream (readE w) else .bxsRow (readE w))
  | 0x2C8 => some (.shinit (readE w))
  | 0x2C9 => some (.shacq (readE w))
  | 0x2CA => some (.shcom (readE w))
  | 0x2CB => some (.shwait (readE w))
  | 0x2CC => some (.shrel (readE w))
  | 0x2D0 => some (.bset (readE w))
  | 0x2D1 => some (.barv (readE w))
  | 0x2D2 => some (.bwait (readE w))
  | 0x2D3 => some (.bexp (readE w))
  | 0x2D4 => some (.bret (readE w))
  | 0x2D8 => some (.tkdef (readE w))
  | 0x2D9 => some (.tkdep (readE w))
  | 0x2DA => some (.tksig (readE w))
  | 0x2DB => some (.tkspawn (readE w))
  | 0x2DC => some (.tkend (readE w))
  | 0x2DD => some (.tkfree (readE w))
  | 0x2E0 => some (.sfstart (readE w))
  | 0x2E1 => some (.sfnext (readE w))
  | 0x2E2 => some (.sfend (readE w))
  | 0x2E8 => some (.drpush (readE w))
  | 0x2E9 => some (.drpop (readE w))
  | _ => none

/-- The operations 0x300 to 0x3FF of base map version 1 (R106). -/
noncomputable def decodeDiff (op w : Nat) : Option Instr :=
  match op with
  | 0x300 => some (.drgn (readE w))
  | 0x301 => some (.dmode (readI w))
  | 0x302 => some (.dtape (readS w))
  | 0x303 => some (.drest (readI w))
  | 0x304 => some (.dmark (readI w))
  | 0x320 => some (.kpage (readE w))
  | 0x321 => some (.ksel (readE w))
  | 0x322 => some (.kgat (readE w))
  | 0x323 => some (.ksync (readE w))
  | _ => none

/-- The internal operation `op` applied to the word `w` (R105, R109): none where base map version 1 assigns
no operation. -/
noncomputable def decodeOp (op : Nat) (w : IWord) : Option Instr :=
  let n := w.toNat
  if op < 0x080 then decodeScalar op n
  else if op < 0x100 then decodeSystem op n
  else if op < 0x138 then decodeVint op n
  else if op < 0x160 then decodeVcmp op n
  else if op < 0x200 then decodeVmove op n
  else if op < 0x280 then decodeVmem op n
  else if op < 0x2C0 then decodeMatrix op n
  else if op < 0x300 then decodeEngine op n
  else decodeDiff op n

/-- The opcode of an instruction in base map version 1 (R106); 0 for an event. -/
def opcodeOf : Instr → Nat
  | .add _ => 0x001
  | .sub _ => 0x002
  | .mul _ => 0x003
  | .mulh _ => 0x004
  | .mulhu _ => 0x005
  | .div _ => 0x006
  | .divu _ => 0x007
  | .mod _ => 0x008
  | .modu _ => 0x009
  | .and _ => 0x00A
  | .or _ => 0x00B
  | .xor _ => 0x00C
  | .shl _ => 0x00D
  | .shr _ => 0x00E
  | .sar _ => 0x00F
  | .cmplt _ => 0x010
  | .cmpltu _ => 0x011
  | .min _ => 0x012
  | .max _ => 0x013
  | .minu _ => 0x014
  | .maxu _ => 0x015
  | .clz _ => 0x016
  | .ctz _ => 0x017
  | .popc _ => 0x018
  | .addk _ => 0x019
  | .andk _ => 0x01A
  | .ork _ => 0x01B
  | .xork _ => 0x01C
  | .shlk _ => 0x01D
  | .shrk _ => 0x01E
  | .sark _ => 0x01F
  | .cmpltk _ => 0x020
  | .cmpltuk _ => 0x021
  | .high _ => 0x022
  | .pcrel _ => 0x023
  | .ld8 _ => 0x024
  | .ld8s _ => 0x025
  | .ld16 _ => 0x026
  | .ld16s _ => 0x027
  | .ld32 _ => 0x028
  | .ld32s _ => 0x029
  | .ld64 _ => 0x02A
  | .st8 _ => 0x02B
  | .st16 _ => 0x02C
  | .st32 _ => 0x02D
  | .st64 _ => 0x02E
  | .beq _ => 0x030
  | .bne _ => 0x031
  | .blt _ => 0x032
  | .bge _ => 0x033
  | .bltu _ => 0x034
  | .bgeu _ => 0x035
  | .jl _ => 0x036
  | .jlr _ => 0x037
  | .fadd _ => 0x040
  | .fsub _ => 0x041
  | .fmul _ => 0x042
  | .fdiv _ => 0x043
  | .fsqrt _ => 0x044
  | .fma _ => 0x045
  | .fmin _ => 0x046
  | .fmax _ => 0x047
  | .fcmp _ => 0x048
  | .fcvt _ => 0x049
  | .fclass _ => 0x04A
  | .llinkw _ => 0x050
  | .llinkd _ => 0x051
  | .scondw _ => 0x052
  | .scondd _ => 0x053
  | .amoswapw _ => 0x054
  | .amoaddw _ => 0x055
  | .amoandw _ => 0x056
  | .amoorw _ => 0x057
  | .amoxorw _ => 0x058
  | .amominw _ => 0x059
  | .amomaxw _ => 0x05A
  | .amominuw _ => 0x05B
  | .amomaxuw _ => 0x05C
  | .amoswapd _ => 0x05D
  | .amoaddd _ => 0x05E
  | .amoandd _ => 0x05F
  | .amoord _ => 0x060
  | .amoxord _ => 0x061
  | .amomind _ => 0x062
  | .amomaxd _ => 0x063
  | .amominud _ => 0x064
  | .amomaxud _ => 0x065
  | .trap _ => 0x080
  | .eret _ => 0x081
  | .eretReplay _ => 0x081
  | .brk _ => 0x082
  | .park _ => 0x083
  | .fence _ => 0x084
  | .crd _ => 0x085
  | .cwr _ => 0x086
  | .cset _ => 0x087
  | .cclr _ => 0x088
  | .dtload _ => 0x089
  | .iflush _ => 0x08A
  | .tlbinv _ => 0x08B
  | .ctxsv _ => 0x08C
  | .ctxld _ => 0x08D
  | .setvl _ => 0x100
  | .setvlk _ => 0x101
  | .shape _ => 0x102
  | .vfold _ => 0x103
  | .vfoldto _ => 0x104
  | .vadd _ => 0x108
  | .vsub _ => 0x109
  | .vrsub _ => 0x10A
  | .vmul _ => 0x10B
  | .vmulh _ => 0x10C
  | .vmulhu _ => 0x10D
  | .vdiv _ => 0x10E
  | .vmod _ => 0x10F
  | .vand _ => 0x110
  | .vor _ => 0x111
  | .vxor _ => 0x112
  | .vshl _ => 0x113
  | .vshr _ => 0x114
  | .vsar _ => 0x115
  | .vmin _ => 0x116
  | .vmax _ => 0x117
  | .vminu _ => 0x118
  | .vmaxu _ => 0x119
  | .vadds _ => 0x11A
  | .vsubs _ => 0x11B
  | .vclz _ => 0x11C
  | .vpope _ => 0x11D
  | .vaddVs _ => 0x120
  | .vsubVs _ => 0x121
  | .vrsubVs _ => 0x122
  | .vmulVs _ => 0x123
  | .vmulhVs _ => 0x124
  | .vmulhuVs _ => 0x125
  | .vdivVs _ => 0x126
  | .vmodVs _ => 0x127
  | .vandVs _ => 0x128
  | .vorVs _ => 0x129
  | .vxorVs _ => 0x12A
  | .vshlVs _ => 0x12B
  | .vshrVs _ => 0x12C
  | .vsarVs _ => 0x12D
  | .vminVs _ => 0x12E
  | .vmaxVs _ => 0x12F
  | .vminuVs _ => 0x130
  | .vmaxuVs _ => 0x131
  | .vaddsVs _ => 0x132
  | .vsubsVs _ => 0x133
  | .vceq _ => 0x138
  | .vcne _ => 0x139
  | .vclt _ => 0x13A
  | .vcle _ => 0x13B
  | .vcltu _ => 0x13C
  | .vcleu _ => 0x13D
  | .vceqVs _ => 0x13E
  | .vcneVs _ => 0x13F
  | .vcltVs _ => 0x140
  | .vcleVs _ => 0x141
  | .vcltuVs _ => 0x142
  | .vcleuVs _ => 0x143
  | .vfeq _ => 0x144
  | .vfne _ => 0x145
  | .vflt _ => 0x146
  | .vfle _ => 0x147
  | .vford _ => 0x148
  | .vfadd _ => 0x150
  | .vfsub _ => 0x151
  | .vfmul _ => 0x152
  | .vfdiv _ => 0x153
  | .vfsqrt _ => 0x154
  | .vfma _ => 0x155
  | .vfms _ => 0x156
  | .vfnma _ => 0x157
  | .vfmin _ => 0x158
  | .vfmax _ => 0x159
  | .vfsgn _ => 0x15A
  | .vfcvt _ => 0x15B
  | .vfclass _ => 0x15C
  | .vfexp _ => 0x15D
  | .vflog _ => 0x15E
  | .vmerge _ => 0x160
  | .vmov _ => 0x161
  | .vsplat _ => 0x162
  | .vtog _ => 0x163
  | .vfromg _ => 0x164
  | .vext _ => 0x165
  | .vindex _ => 0x166
  | .vprefix _ => 0x167
  | .vslup _ => 0x168
  | .vsldn _ => 0x169
  | .vsl1up _ => 0x16A
  | .vsl1dn _ => 0x16B
  | .vperm _ => 0x16C
  | .vpack _ => 0x16D
  | .mand _ => 0x170
  | .mor _ => 0x171
  | .mxor _ => 0x172
  | .mandn _ => 0x173
  | .mmov _ => 0x174
  | .mfromv _ => 0x175
  | .mtov _ => 0x176
  | .mpopc _ => 0x177
  | .mffs _ => 0x178
  | .mbefore _ => 0x179
  | .mthrough _ => 0x17A
  | .monly _ => 0x17B
  | .vrsum _ => 0x180
  | .vrmax _ => 0x181
  | .vrmin _ => 0x182
  | .vrand _ => 0x183
  | .vror _ => 0x184
  | .vrxor _ => 0x185
  | .vwrsum _ => 0x186
  | .vfrsum _ => 0x187
  | .vfrsumt _ => 0x188
  | .vfrmax _ => 0x189
  | .vfrmin _ => 0x18A
  | .vld _ => 0x200
  | .vlds _ => 0x201
  | .vldx _ => 0x202
  | .vldff _ => 0x203
  | .vldm _ => 0x204
  | .vst _ => 0x205
  | .vsts _ => 0x206
  | .vstx _ => 0x207
  | .vstxo _ => 0x208
  | .vstm _ => 0x209
  | .vamoswap _ => 0x210
  | .vamoadd _ => 0x211
  | .vamoand _ => 0x212
  | .vamoor _ => 0x213
  | .vamoxor _ => 0x214
  | .vamomin _ => 0x215
  | .vamomax _ => 0x216
  | .vamominu _ => 0x217
  | .vamomaxu _ => 0x218
  | .vamofadd _ => 0x219
  | .vgll _ => 0x21A
  | .vscc _ => 0x21B
  | .vwait _ => 0x220
  | .vsredadd _ => 0x228
  | .vsredmax _ => 0x229
  | .vsredmin _ => 0x22A
  | .vsredfadd _ => 0x22B
  | .vmredadd _ => 0x22C
  | .vmredmax _ => 0x22D
  | .vmredmin _ => 0x22E
  | .vmredfadd _ => 0x22F
  | .tres _ => 0x240
  | .tevict _ => 0x241
  | .tdemote _ => 0x242
  | .stmap _ => 0x243
  | .cways _ => 0x244
  | .vmmad _ => 0x280
  | .vmmar _ => 0x281
  | .vmmao _ => 0x282
  | .vmmas _ => 0x283
  | .vlgmul _ => 0x288
  | .vlgacc _ => 0x289
  | .vlgcvt _ => 0x28A
  | .vscale _ => 0x290
  | .vamax _ => 0x291
  | .vquant _ => 0x292
  | .bxg _ => 0x2C0
  | .bxc _ => 0x2C1
  | .bxsRow _ => 0x2C2
  | .bxsStream _ => 0x2C2
  | .shinit _ => 0x2C8
  | .shacq _ => 0x2C9
  | .shcom _ => 0x2CA
  | .shwait _ => 0x2CB
  | .shrel _ => 0x2CC
  | .bset _ => 0x2D0
  | .barv _ => 0x2D1
  | .bwait _ => 0x2D2
  | .bexp _ => 0x2D3
  | .bret _ => 0x2D4
  | .tkdef _ => 0x2D8
  | .tkdep _ => 0x2D9
  | .tksig _ => 0x2DA
  | .tkspawn _ => 0x2DB
  | .tkend _ => 0x2DC
  | .tkfree _ => 0x2DD
  | .sfstart _ => 0x2E0
  | .sfnext _ => 0x2E1
  | .sfend _ => 0x2E2
  | .drpush _ => 0x2E8
  | .drpop _ => 0x2E9
  | .drgn _ => 0x300
  | .dmode _ => 0x301
  | .dtape _ => 0x302
  | .drest _ => 0x303
  | .dmark _ => 0x304
  | .kpage _ => 0x320
  | .ksel _ => 0x321
  | .kgat _ => 0x322
  | .ksync _ => 0x323
  | .packageReset => 0
  | .bootHartStart => 0
  | .hrun _ => 0
  | .controlRegisterWrite _ _ => 0
  | .atpWrite _ => 0
  | .timeWrite _ => 0
  | .poolCarveWrite _ _ => 0
  | .callotWrite _ => 0
  | .droopClear => 0
  | .keyLoad => 0
  | .keyErase => 0
  | .contextExport => 0
  | .contextImport => 0
  | .blkownWrite _ => 0
  | .doorbell _ _ => 0
  | .ckrun _ => 0
  | .snapshotPoint => 0
  | .checkpointBlockStream _ => 0
  | .asyncEventTake => 0
  | .vectorFaultDelivery => 0
  | .grantLoss => 0
  | .poisonRecord => 0
  | .memoryError _ => 0
  | .laneError _ _ _ _ => 0
  | .unitError _ _ _ => 0
  | .errorAgeOut _ _ => 0
  | .budgetRefresh _ => 0
  | .quotaRefill _ => 0
  | .hardShrink _ => 0
  | .scriptShrinkCount => 0
  | .currentLimitEmergency _ => 0
  | .phaseTrip _ _ _ => 0
  | .phaseReturn _ _ _ => 0
  | .supplyDroop _ _ _ => 0
  | .regulatorFail _ _ => 0
  | .sensorSample _ _ => 0
  | .clusterWakeRequest _ _ => 0
  | .wakeNeighbourClear _ => 0
  | .wakeWaitTimeout _ => 0
  | .wakeStageStep _ => 0
  | .taskPlace _ _ _ => 0
  | .preemptWaitExpiry _ _ => 0
  | .stripBoundaryPreempt => 0
  | .immediatePreempt => 0
  | .stripPreemptTimeout => 0
  | .farmRecruit _ => 0
  | .parkWake => 0
  | .parkTimeout => 0
  | .vwaitTimeout => 0
  | .vwaitSatisfied => 0
  | .shelfWaitEnd => 0
  | .barrierWaitEnd => 0
  | .tokenArrival => 0
  | .drawerRoom => 0
  | .chunkComplete _ _ => 0
  | .transferRetire _ => 0
  | .amaxDrainApply _ => 0
  | .migrateLineCopy _ => 0
  | .migrateCommit _ => 0
  | .wpMigrateLineCopy _ _ => 0
  | .wpMigrateCommit _ => 0
  | .flitReceive _ _ => 0
  | .portDown _ => 0
  | .remoteRequest _ => 0
  | .remoteAck _ => 0
  | .hostMemWrite _ _ => 0
  | .hostMemRead _ _ => 0
  | .cxlLinkUp _ _ => 0
  | .cxlLinkDown => 0
  | .getVersion => 0
  | .getCapabilities => 0
  | .negotiateAlgorithms _ _ => 0
  | .getDigests => 0
  | .getCertificate => 0
  | .challenge _ => 0
  | .getMeasurements _ _ => 0
  | .unsupportedRequest _ => 0
  | .decodeTableMiss _ => 0
  | .instructionFetchFault => 0
  | .timeTick _ _ => 0
  | .commandDispatch => 0
  | .portUp _ => 0
  | .railRemoval => 0
  | .controlPageWrite _ _ => 0
  | .pstatWrite _ => 0

/-- The low 22 bits of an instruction; 0 for an event. -/
def lowOf : Instr → Nat
  | .add f => lowS f
  | .sub f => lowS f
  | .mul f => lowS f
  | .mulh f => lowS f
  | .mulhu f => lowS f
  | .div f => lowS f
  | .divu f => lowS f
  | .mod f => lowS f
  | .modu f => lowS f
  | .and f => lowS f
  | .or f => lowS f
  | .xor f => lowS f
  | .shl f => lowS f
  | .shr f => lowS f
  | .sar f => lowS f
  | .cmplt f => lowS f
  | .cmpltu f => lowS f
  | .min f => lowS f
  | .max f => lowS f
  | .minu f => lowS f
  | .maxu f => lowS f
  | .clz f => lowS f
  | .ctz f => lowS f
  | .popc f => lowS f
  | .addk f => lowI f
  | .andk f => lowI f
  | .ork f => lowI f
  | .xork f => lowI f
  | .shlk f => lowI f
  | .shrk f => lowI f
  | .sark f => lowI f
  | .cmpltk f => lowI f
  | .cmpltuk f => lowI f
  | .high f => lowU f
  | .pcrel f => lowU f
  | .ld8 f => lowI f
  | .ld8s f => lowI f
  | .ld16 f => lowI f
  | .ld16s f => lowI f
  | .ld32 f => lowI f
  | .ld32s f => lowI f
  | .ld64 f => lowI f
  | .st8 f => lowI f
  | .st16 f => lowI f
  | .st32 f => lowI f
  | .st64 f => lowI f
  | .beq f => lowI f
  | .bne f => lowI f
  | .blt f => lowI f
  | .bge f => lowI f
  | .bltu f => lowI f
  | .bgeu f => lowI f
  | .jl f => lowU f
  | .jlr f => lowI f
  | .fadd f => lowS f
  | .fsub f => lowS f
  | .fmul f => lowS f
  | .fdiv f => lowS f
  | .fsqrt f => lowS f
  | .fma f => lowS f
  | .fmin f => lowS f
  | .fmax f => lowS f
  | .fcmp f => lowS f
  | .fcvt f => lowS f
  | .fclass f => lowS f
  | .llinkw f => lowA f
  | .llinkd f => lowA f
  | .scondw f => lowA f
  | .scondd f => lowA f
  | .amoswapw f => lowA f
  | .amoaddw f => lowA f
  | .amoandw f => lowA f
  | .amoorw f => lowA f
  | .amoxorw f => lowA f
  | .amominw f => lowA f
  | .amomaxw f => lowA f
  | .amominuw f => lowA f
  | .amomaxuw f => lowA f
  | .amoswapd f => lowA f
  | .amoaddd f => lowA f
  | .amoandd f => lowA f
  | .amoord f => lowA f
  | .amoxord f => lowA f
  | .amomind f => lowA f
  | .amomaxd f => lowA f
  | .amominud f => lowA f
  | .amomaxud f => lowA f
  | .trap f => lowU f
  | .eret f => lowS f
  | .eretReplay f => lowS f
  | .brk f => lowU f
  | .park f => lowI f
  | .fence f => lowA f
  | .crd f => lowI f
  | .cwr f => lowI f
  | .cset f => lowI f
  | .cclr f => lowI f
  | .dtload f => lowI f
  | .iflush f => lowS f
  | .tlbinv f => lowS f
  | .ctxsv f => lowI f
  | .ctxld f => lowI f
  | .setvl f => lowI f
  | .setvlk f => lowU f
  | .shape f => lowI f
  | .vfold f => lowV f
  | .vfoldto f => lowV f
  | .vadd f => lowV f
  | .vsub f => lowV f
  | .vrsub f => lowV f
  | .vmul f => lowV f
  | .vmulh f => lowV f
  | .vmulhu f => lowV f
  | .vdiv f => lowV f
  | .vmod f => lowV f
  | .vand f => lowV f
  | .vor f => lowV f
  | .vxor f => lowV f
  | .vshl f => lowV f
  | .vshr f => lowV f
  | .vsar f => lowV f
  | .vmin f => lowV f
  | .vmax f => lowV f
  | .vminu f => lowV f
  | .vmaxu f => lowV f
  | .vadds f => lowV f
  | .vsubs f => lowV f
  | .vclz f => lowV f
  | .vpope f => lowV f
  | .vaddVs f => lowV f
  | .vsubVs f => lowV f
  | .vrsubVs f => lowV f
  | .vmulVs f => lowV f
  | .vmulhVs f => lowV f
  | .vmulhuVs f => lowV f
  | .vdivVs f => lowV f
  | .vmodVs f => lowV f
  | .vandVs f => lowV f
  | .vorVs f => lowV f
  | .vxorVs f => lowV f
  | .vshlVs f => lowV f
  | .vshrVs f => lowV f
  | .vsarVs f => lowV f
  | .vminVs f => lowV f
  | .vmaxVs f => lowV f
  | .vminuVs f => lowV f
  | .vmaxuVs f => lowV f
  | .vaddsVs f => lowV f
  | .vsubsVs f => lowV f
  | .vceq f => lowV f
  | .vcne f => lowV f
  | .vclt f => lowV f
  | .vcle f => lowV f
  | .vcltu f => lowV f
  | .vcleu f => lowV f
  | .vceqVs f => lowV f
  | .vcneVs f => lowV f
  | .vcltVs f => lowV f
  | .vcleVs f => lowV f
  | .vcltuVs f => lowV f
  | .vcleuVs f => lowV f
  | .vfeq f => lowV f
  | .vfne f => lowV f
  | .vflt f => lowV f
  | .vfle f => lowV f
  | .vford f => lowV f
  | .vfadd f => lowV f
  | .vfsub f => lowV f
  | .vfmul f => lowV f
  | .vfdiv f => lowV f
  | .vfsqrt f => lowV f
  | .vfma f => lowV f
  | .vfms f => lowV f
  | .vfnma f => lowV f
  | .vfmin f => lowV f
  | .vfmax f => lowV f
  | .vfsgn f => lowV f
  | .vfcvt f => lowV f
  | .vfclass f => lowV f
  | .vfexp f => lowV f
  | .vflog f => lowV f
  | .vmerge f => lowV f
  | .vmov f => lowV f
  | .vsplat f => lowV f
  | .vtog f => lowV f
  | .vfromg f => lowV f
  | .vext f => lowV f
  | .vindex f => lowV f
  | .vprefix f => lowV f
  | .vslup f => lowV f
  | .vsldn f => lowV f
  | .vsl1up f => lowV f
  | .vsl1dn f => lowV f
  | .vperm f => lowV f
  | .vpack f => lowV f
  | .mand f => lowV f
  | .mor f => lowV f
  | .mxor f => lowV f
  | .mandn f => lowV f
  | .mmov f => lowV f
  | .mfromv f => lowV f
  | .mtov f => lowV f
  | .mpopc f => lowV f
  | .mffs f => lowV f
  | .mbefore f => lowV f
  | .mthrough f => lowV f
  | .monly f => lowV f
  | .vrsum f => lowV f
  | .vrmax f => lowV f
  | .vrmin f => lowV f
  | .vrand f => lowV f
  | .vror f => lowV f
  | .vrxor f => lowV f
  | .vwrsum f => lowV f
  | .vfrsum f => lowV f
  | .vfrsumt f => lowV f
  | .vfrmax f => lowV f
  | .vfrmin f => lowV f
  | .vld f => lowM f
  | .vlds f => lowM f
  | .vldx f => lowM f
  | .vldff f => lowM f
  | .vldm f => lowM f
  | .vst f => lowM f
  | .vsts f => lowM f
  | .vstx f => lowM f
  | .vstxo f => lowM f
  | .vstm f => lowM f
  | .vamoswap f => lowA f
  | .vamoadd f => lowA f
  | .vamoand f => lowA f
  | .vamoor f => lowA f
  | .vamoxor f => lowA f
  | .vamomin f => lowA f
  | .vamomax f => lowA f
  | .vamominu f => lowA f
  | .vamomaxu f => lowA f
  | .vamofadd f => lowA f
  | .vgll f => lowA f
  | .vscc f => lowA f
  | .vwait f => lowE f
  | .vsredadd f => lowV f
  | .vsredmax f => lowV f
  | .vsredmin f => lowV f
  | .vsredfadd f => lowV f
  | .vmredadd f => lowV f
  | .vmredmax f => lowV f
  | .vmredmin f => lowV f
  | .vmredfadd f => lowV f
  | .tres f => lowE f
  | .tevict f => lowE f
  | .tdemote f => lowE f
  | .stmap f => lowS f
  | .cways f => lowI f
  | .vmmad f => lowV f
  | .vmmar f => lowV f
  | .vmmao f => lowV f
  | .vmmas f => lowV f
  | .vlgmul f => lowV f
  | .vlgacc f => lowV f
  | .vlgcvt f => lowV f
  | .vscale f => lowV f
  | .vamax f => lowV f
  | .vquant f => lowV f
  | .bxg f => lowE f
  | .bxc f => lowE f
  | .bxsRow f => lowE f
  | .bxsStream f => lowE f
  | .shinit f => lowE f
  | .shacq f => lowE f
  | .shcom f => lowE f
  | .shwait f => lowE f
  | .shrel f => lowE f
  | .bset f => lowE f
  | .barv f => lowE f
  | .bwait f => lowE f
  | .bexp f => lowE f
  | .bret f => lowE f
  | .tkdef f => lowE f
  | .tkdep f => lowE f
  | .tksig f => lowE f
  | .tkspawn f => lowE f
  | .tkend f => lowE f
  | .tkfree f => lowE f
  | .sfstart f => lowE f
  | .sfnext f => lowE f
  | .sfend f => lowE f
  | .drpush f => lowE f
  | .drpop f => lowE f
  | .drgn f => lowE f
  | .dmode f => lowI f
  | .dtape f => lowS f
  | .drest f => lowI f
  | .dmark f => lowI f
  | .kpage f => lowE f
  | .ksel f => lowE f
  | .kgat f => lowE f
  | .ksync f => lowE f
  | .packageReset => 0
  | .bootHartStart => 0
  | .hrun _ => 0
  | .controlRegisterWrite _ _ => 0
  | .atpWrite _ => 0
  | .timeWrite _ => 0
  | .poolCarveWrite _ _ => 0
  | .callotWrite _ => 0
  | .droopClear => 0
  | .keyLoad => 0
  | .keyErase => 0
  | .contextExport => 0
  | .contextImport => 0
  | .blkownWrite _ => 0
  | .doorbell _ _ => 0
  | .ckrun _ => 0
  | .snapshotPoint => 0
  | .checkpointBlockStream _ => 0
  | .asyncEventTake => 0
  | .vectorFaultDelivery => 0
  | .grantLoss => 0
  | .poisonRecord => 0
  | .memoryError _ => 0
  | .laneError _ _ _ _ => 0
  | .unitError _ _ _ => 0
  | .errorAgeOut _ _ => 0
  | .budgetRefresh _ => 0
  | .quotaRefill _ => 0
  | .hardShrink _ => 0
  | .scriptShrinkCount => 0
  | .currentLimitEmergency _ => 0
  | .phaseTrip _ _ _ => 0
  | .phaseReturn _ _ _ => 0
  | .supplyDroop _ _ _ => 0
  | .regulatorFail _ _ => 0
  | .sensorSample _ _ => 0
  | .clusterWakeRequest _ _ => 0
  | .wakeNeighbourClear _ => 0
  | .wakeWaitTimeout _ => 0
  | .wakeStageStep _ => 0
  | .taskPlace _ _ _ => 0
  | .preemptWaitExpiry _ _ => 0
  | .stripBoundaryPreempt => 0
  | .immediatePreempt => 0
  | .stripPreemptTimeout => 0
  | .farmRecruit _ => 0
  | .parkWake => 0
  | .parkTimeout => 0
  | .vwaitTimeout => 0
  | .vwaitSatisfied => 0
  | .shelfWaitEnd => 0
  | .barrierWaitEnd => 0
  | .tokenArrival => 0
  | .drawerRoom => 0
  | .chunkComplete _ _ => 0
  | .transferRetire _ => 0
  | .amaxDrainApply _ => 0
  | .migrateLineCopy _ => 0
  | .migrateCommit _ => 0
  | .wpMigrateLineCopy _ _ => 0
  | .wpMigrateCommit _ => 0
  | .flitReceive _ _ => 0
  | .portDown _ => 0
  | .remoteRequest _ => 0
  | .remoteAck _ => 0
  | .hostMemWrite _ _ => 0
  | .hostMemRead _ _ => 0
  | .cxlLinkUp _ _ => 0
  | .cxlLinkDown => 0
  | .getVersion => 0
  | .getCapabilities => 0
  | .negotiateAlgorithms _ _ => 0
  | .getDigests => 0
  | .getCertificate => 0
  | .challenge _ => 0
  | .getMeasurements _ _ => 0
  | .unsupportedRequest _ => 0
  | .decodeTableMiss _ => 0
  | .instructionFetchFault => 0
  | .timeTick _ _ => 0
  | .commandDispatch => 0
  | .portUp _ => 0
  | .railRemoval => 0
  | .controlPageWrite _ _ => 0
  | .pstatWrite _ => 0

/-- The word of an instruction: opcode × 2^22 and the fields of its format (R94). -/
def encode (i : Instr) : IWord := BitVec.ofNat 32 (opcodeOf i * 2 ^ 22 + lowOf i)

/-- Whether every field of an instruction has a value its opcode accepts at decode (R96, R102, and the rule
of the instruction where that names more). An event has no word to check. -/
def fieldsLegal : Instr → Bool
  | .add f => decide (f.sub = 0)
  | .sub f => decide (f.sub = 0)
  | .mul f => decide (f.sub = 0)
  | .mulh f => decide (f.sub = 0)
  | .mulhu f => decide (f.sub = 0)
  | .div f => decide (f.sub = 0)
  | .divu f => decide (f.sub = 0)
  | .mod f => decide (f.sub = 0)
  | .modu f => decide (f.sub = 0)
  | .and f => decide (f.sub = 0)
  | .or f => decide (f.sub = 0)
  | .xor f => decide (f.sub = 0)
  | .shl f => decide (f.sub = 0)
  | .shr f => decide (f.sub = 0)
  | .sar f => decide (f.sub = 0)
  | .cmplt f => decide (f.sub = 0)
  | .cmpltu f => decide (f.sub = 0)
  | .min f => decide (f.sub = 0)
  | .max f => decide (f.sub = 0)
  | .minu f => decide (f.sub = 0)
  | .maxu f => decide (f.sub = 0)
  | .clz f => decide (f.sub = 0)
  | .ctz f => decide (f.sub = 0)
  | .popc f => decide (f.sub = 0)
  | .addk _ => true
  | .andk _ => true
  | .ork _ => true
  | .xork _ => true
  | .shlk f => decide (f.imm.toNat / 64 = 0)
  | .shrk f => decide (f.imm.toNat / 64 = 0)
  | .sark f => decide (f.imm.toNat / 64 = 0)
  | .cmpltk _ => true
  | .cmpltuk _ => true
  | .high _ => true
  | .pcrel _ => true
  | .ld8 _ => true
  | .ld8s _ => true
  | .ld16 _ => true
  | .ld16s _ => true
  | .ld32 _ => true
  | .ld32s _ => true
  | .ld64 _ => true
  | .st8 _ => true
  | .st16 _ => true
  | .st32 _ => true
  | .st64 _ => true
  | .beq _ => true
  | .bne _ => true
  | .blt _ => true
  | .bge _ => true
  | .bltu _ => true
  | .bgeu _ => true
  | .jl _ => true
  | .jlr _ => true
  | .fadd f => decide (f.sub = 0)
  | .fsub f => decide (f.sub = 0)
  | .fmul f => decide (f.sub = 0)
  | .fdiv f => decide (f.sub = 0)
  | .fsqrt f => decide (f.sub = 0)
  | .fma f => decide (f.sub = 0)
  | .fmin f => decide (f.sub = 0)
  | .fmax f => decide (f.sub = 0)
  | .fcmp f => decide (f.sub.toNat ≤ 3) -- R130
  | .fcvt f => decide (f.sub = 0)
  | .fclass f => decide (f.sub = 0)
  | .llinkw f => decide (f.msk = 0 ∧ f.scope.toNat ≤ 4)
  | .llinkd f => decide (f.msk = 0 ∧ f.scope.toNat ≤ 4)
  | .scondw f => decide (f.msk = 0 ∧ f.scope.toNat ≤ 4)
  | .scondd f => decide (f.msk = 0 ∧ f.scope.toNat ≤ 4)
  | .amoswapw f => decide (f.msk = 0 ∧ f.scope.toNat ≤ 4)
  | .amoaddw f => decide (f.msk = 0 ∧ f.scope.toNat ≤ 4)
  | .amoandw f => decide (f.msk = 0 ∧ f.scope.toNat ≤ 4)
  | .amoorw f => decide (f.msk = 0 ∧ f.scope.toNat ≤ 4)
  | .amoxorw f => decide (f.msk = 0 ∧ f.scope.toNat ≤ 4)
  | .amominw f => decide (f.msk = 0 ∧ f.scope.toNat ≤ 4)
  | .amomaxw f => decide (f.msk = 0 ∧ f.scope.toNat ≤ 4)
  | .amominuw f => decide (f.msk = 0 ∧ f.scope.toNat ≤ 4)
  | .amomaxuw f => decide (f.msk = 0 ∧ f.scope.toNat ≤ 4)
  | .amoswapd f => decide (f.msk = 0 ∧ f.scope.toNat ≤ 4)
  | .amoaddd f => decide (f.msk = 0 ∧ f.scope.toNat ≤ 4)
  | .amoandd f => decide (f.msk = 0 ∧ f.scope.toNat ≤ 4)
  | .amoord f => decide (f.msk = 0 ∧ f.scope.toNat ≤ 4)
  | .amoxord f => decide (f.msk = 0 ∧ f.scope.toNat ≤ 4)
  | .amomind f => decide (f.msk = 0 ∧ f.scope.toNat ≤ 4)
  | .amomaxd f => decide (f.msk = 0 ∧ f.scope.toNat ≤ 4)
  | .amominud f => decide (f.msk = 0 ∧ f.scope.toNat ≤ 4)
  | .amomaxud f => decide (f.msk = 0 ∧ f.scope.toNat ≤ 4)
  | .trap _ => true
  | .eret f => decide (f.sub = 0)
  | .eretReplay f => decide (f.sub = 1)
  | .brk _ => true
  | .park f => decide (f.imm = 0)
  | .fence f => decide (f.msk = 0 ∧ f.scope.toNat ≤ 4)
  | .crd _ => true
  | .cwr _ => true
  | .cset _ => true
  | .cclr _ => true
  | .dtload _ => true
  | .iflush f => decide (f.sub = 0)
  | .tlbinv f => decide (f.sub = 0)
  | .ctxsv f => decide (f.imm.toNat ≤ 512) -- R420
  | .ctxld f => decide (f.imm = 0)
  | .setvl f => decide (f.imm.getLsbD 3 = false ∧ f.imm.toNat / 64 = 0 ∧ f.imm.toNat % 8 ≤ 4) -- R183
  | .setvlk _ => true
  | .shape f => decide (f.imm.getLsbD 3 = false ∧ f.imm.toNat / 64 = 0 ∧ f.imm.toNat % 8 ≤ 4) -- R183
  | .vfold f => decide (f.msk = 0 ∧ f.b.toNat ≤ 4) -- R187
  | .vfoldto f => decide (f.msk = 0)
  | .vadd _ => true
  | .vsub _ => true
  | .vrsub _ => true
  | .vmul _ => true
  | .vmulh _ => true
  | .vmulhu _ => true
  | .vdiv _ => true
  | .vmod _ => true
  | .vand _ => true
  | .vor _ => true
  | .vxor _ => true
  | .vshl _ => true
  | .vshr _ => true
  | .vsar _ => true
  | .vmin _ => true
  | .vmax _ => true
  | .vminu _ => true
  | .vmaxu _ => true
  | .vadds _ => true
  | .vsubs _ => true
  | .vclz _ => true
  | .vpope _ => true
  | .vaddVs _ => true
  | .vsubVs _ => true
  | .vrsubVs _ => true
  | .vmulVs _ => true
  | .vmulhVs _ => true
  | .vmulhuVs _ => true
  | .vdivVs _ => true
  | .vmodVs _ => true
  | .vandVs _ => true
  | .vorVs _ => true
  | .vxorVs _ => true
  | .vshlVs _ => true
  | .vshrVs _ => true
  | .vsarVs _ => true
  | .vminVs _ => true
  | .vmaxVs _ => true
  | .vminuVs _ => true
  | .vmaxuVs _ => true
  | .vaddsVs _ => true
  | .vsubsVs _ => true
  | .vceq _ => true
  | .vcne _ => true
  | .vclt _ => true
  | .vcle _ => true
  | .vcltu _ => true
  | .vcleu _ => true
  | .vceqVs _ => true
  | .vcneVs _ => true
  | .vcltVs _ => true
  | .vcleVs _ => true
  | .vcltuVs _ => true
  | .vcleuVs _ => true
  | .vfeq _ => true
  | .vfne _ => true
  | .vflt _ => true
  | .vfle _ => true
  | .vford _ => true
  | .vfadd _ => true
  | .vfsub _ => true
  | .vfmul _ => true
  | .vfdiv _ => true
  | .vfsqrt _ => true
  | .vfma _ => true
  | .vfms _ => true
  | .vfnma _ => true
  | .vfmin _ => true
  | .vfmax _ => true
  | .vfsgn _ => true
  | .vfcvt _ => true
  | .vfclass _ => true
  | .vfexp _ => true
  | .vflog _ => true
  | .vmerge f => decide (f.msk ≠ 0) -- R196
  | .vmov _ => true
  | .vsplat _ => true
  | .vtog f => decide (f.msk = 0)
  | .vfromg _ => true
  | .vext f => decide (f.msk = 0)
  | .vindex _ => true
  | .vprefix _ => true
  | .vslup _ => true
  | .vsldn _ => true
  | .vsl1up _ => true
  | .vsl1dn _ => true
  | .vperm _ => true
  | .vpack f => decide (f.msk ≠ 0) -- R196
  | .mand f => decide (f.msk = 0)
  | .mor f => decide (f.msk = 0)
  | .mxor f => decide (f.msk = 0)
  | .mandn f => decide (f.msk = 0)
  | .mmov f => decide (f.msk = 0)
  | .mfromv f => decide (f.msk = 0)
  | .mtov f => decide (f.msk = 0)
  | .mpopc f => decide (f.msk = 0)
  | .mffs f => decide (f.msk = 0)
  | .mbefore f => decide (f.msk = 0)
  | .mthrough f => decide (f.msk = 0)
  | .monly f => decide (f.msk = 0)
  | .vrsum _ => true
  | .vrmax _ => true
  | .vrmin _ => true
  | .vrand _ => true
  | .vror _ => true
  | .vrxor _ => true
  | .vwrsum _ => true
  | .vfrsum _ => true
  | .vfrsumt _ => true
  | .vfrmax _ => true
  | .vfrmin _ => true
  | .vld _ => true
  | .vlds _ => true
  | .vldx _ => true
  | .vldff _ => true
  | .vldm f => decide (f.ew = 0 ∧ f.msk = 0)
  | .vst _ => true
  | .vsts _ => true
  | .vstx _ => true
  | .vstxo _ => true
  | .vstm f => decide (f.ew = 0 ∧ f.msk = 0)
  | .vamoswap f => decide (f.scope.toNat ≤ 4)
  | .vamoadd f => decide (f.scope.toNat ≤ 4)
  | .vamoand f => decide (f.scope.toNat ≤ 4)
  | .vamoor f => decide (f.scope.toNat ≤ 4)
  | .vamoxor f => decide (f.scope.toNat ≤ 4)
  | .vamomin f => decide (f.scope.toNat ≤ 4)
  | .vamomax f => decide (f.scope.toNat ≤ 4)
  | .vamominu f => decide (f.scope.toNat ≤ 4)
  | .vamomaxu f => decide (f.scope.toNat ≤ 4)
  | .vamofadd f => decide (f.scope.toNat ≤ 4)
  | .vgll f => decide (f.scope.toNat ≤ 4)
  | .vscc f => decide (f.scope.toNat ≤ 4)
  | .vwait f => decide (f.push = 0 ∧ f.pop = 0 ∧ (f.imm.getLsbD 2 = true → f.a ≠ 31)) -- R267
  | .vsredadd _ => true
  | .vsredmax _ => true
  | .vsredmin _ => true
  | .vsredfadd _ => true
  | .vmredadd _ => true
  | .vmredmax _ => true
  | .vmredmin _ => true
  | .vmredfadd _ => true
  | .tres f => decide (f.push = 0 ∧ f.pop = 0 ∧ f.imm = 0)
  | .tevict f => decide (f.push = 0 ∧ f.pop = 0 ∧ f.imm = 0)
  | .tdemote f => decide (f.push = 0 ∧ f.pop = 0 ∧ f.imm = 0)
  | .stmap f => decide (f.sub = 0)
  | .cways _ => true
  | .vmmad _ => true
  | .vmmar _ => true
  | .vmmao _ => true
  | .vmmas f => decide (f.msk ≠ 3) -- R212
  | .vlgmul _ => true
  | .vlgacc _ => true
  | .vlgcvt _ => true
  | .vscale _ => true
  | .vamax f => decide (f.a.toNat ≤ 7) -- R219
  | .vquant _ => true
  | .bxg f => decide (f.imm.toNat / 16 = 0 ∧ f.imm.toNat % 4 ≠ 3 ∧ spanEnd f ≤ 31) -- R369, R371
  | .bxc f => decide (f.imm.toNat / 16 = 0 ∧ f.imm.toNat % 4 ≠ 3 ∧ spanEnd f ≤ 31) -- R369, R371
  | .bxsRow f => decide (f.imm.toNat / 16 = 0 ∧ f.imm.toNat % 4 ≠ 3 ∧ spanEnd f ≤ 31) -- R369, R371
  | .bxsStream f => decide (f.imm.getLsbD 4 = true ∧ f.imm.toNat % 4 ≠ 3 ∧ spanEnd f ≤ 31) -- R369, R371
  | .shinit f => decide (f.push = 0 ∧ f.pop = 0 ∧ f.imm = 0 ∧ f.c ≠ 31) -- R369
  | .shacq f => decide (f.push = 0 ∧ f.pop = 0 ∧ f.imm = 0 ∧ f.a ≠ 31) -- R375
  | .shcom f => decide (f.push = 0 ∧ f.pop = 0 ∧ f.imm = 0)
  | .shwait f => decide (f.push = 0 ∧ f.pop = 0 ∧ f.imm = 0 ∧ f.a ≠ 31) -- R375
  | .shrel f => decide (f.push = 0 ∧ f.pop = 0 ∧ f.imm = 0)
  | .bset f => decide (f.push = 0 ∧ f.pop = 0 ∧ f.imm = 0)
  | .barv f => decide (f.push = 0 ∧ f.pop = 0 ∧ f.imm = 0)
  | .bwait f => decide (f.push = 0 ∧ f.pop = 0 ∧ f.imm = 0)
  | .bexp f => decide (f.push = 0 ∧ f.pop = 0 ∧ f.imm = 0)
  | .bret f => decide (f.push = 0 ∧ f.pop = 0 ∧ f.imm = 0)
  | .tkdef f => decide (f.push = 0 ∧ f.pop = 0 ∧ f.imm.toNat / 2 = 0)
  | .tkdep f => decide (f.push = 0 ∧ f.pop = 0 ∧ f.imm = 0)
  | .tksig f => decide (f.push = 0 ∧ f.pop = 0 ∧ f.imm = 0)
  | .tkspawn f => decide (f.push = 0 ∧ f.pop = 0 ∧ f.imm = 0)
  | .tkend f => decide (f.push = 0 ∧ f.pop = 0 ∧ f.imm = 0)
  | .tkfree f => decide (f.push = 0 ∧ f.pop = 0 ∧ f.imm = 0)
  | .sfstart f => decide (f.push = 0 ∧ f.pop = 0 ∧ f.imm.toNat / 2 = 0)
  | .sfnext f => decide (f.push = 0 ∧ f.pop = 0 ∧ f.imm.toNat % 8 ≤ 4) -- R386
  | .sfend f => decide (f.push = 0 ∧ f.pop = 0 ∧ f.imm = 0)
  | .drpush f => decide (f.push = 0 ∧ f.pop = 0 ∧ f.imm.toNat / 16 = 0 ∧ f.imm.toNat % 4 ≠ f.imm.toNat / 4) -- R388
  | .drpop f => decide (f.push = 0 ∧ f.pop = 0 ∧ f.imm.toNat / 16 = 0 ∧ f.imm.toNat % 4 ≠ f.imm.toNat / 4) -- R388
  | .drgn f => decide (f.push = 0 ∧ f.pop = 0)
  | .dmode f => decide (f.imm.toNat ≤ 2) -- R305
  | .dtape f => decide (f.sub = 0)
  | .drest f => decide (f.imm = 0)
  | .dmark _ => true
  | .kpage f => decide (f.push = 0 ∧ f.pop = 0 ∧ f.imm.toNat / 8 = 0)
  | .ksel f => decide (f.imm.toNat / 8 = 0 ∧ f.c.toNat ≤ 29) -- R327
  | .kgat f => decide (f.imm.toNat / 16 = 0 ∧ (f.imm.getLsbD 3 = true → f.b ≠ 31)) -- R330
  | .ksync f => decide (f.push = 0 ∧ f.pop = 0 ∧ f.imm.toNat / 4 = 0)
  | .packageReset => true
  | .bootHartStart => true
  | .hrun _ => true
  | .controlRegisterWrite _ _ => true
  | .atpWrite _ => true
  | .timeWrite _ => true
  | .poolCarveWrite _ _ => true
  | .callotWrite _ => true
  | .droopClear => true
  | .keyLoad => true
  | .keyErase => true
  | .contextExport => true
  | .contextImport => true
  | .blkownWrite _ => true
  | .doorbell _ _ => true
  | .ckrun _ => true
  | .snapshotPoint => true
  | .checkpointBlockStream _ => true
  | .asyncEventTake => true
  | .vectorFaultDelivery => true
  | .grantLoss => true
  | .poisonRecord => true
  | .memoryError _ => true
  | .laneError _ _ _ _ => true
  | .unitError _ _ _ => true
  | .errorAgeOut _ _ => true
  | .budgetRefresh _ => true
  | .quotaRefill _ => true
  | .hardShrink _ => true
  | .scriptShrinkCount => true
  | .currentLimitEmergency _ => true
  | .phaseTrip _ _ _ => true
  | .phaseReturn _ _ _ => true
  | .supplyDroop _ _ _ => true
  | .regulatorFail _ _ => true
  | .sensorSample _ _ => true
  | .clusterWakeRequest _ _ => true
  | .wakeNeighbourClear _ => true
  | .wakeWaitTimeout _ => true
  | .wakeStageStep _ => true
  | .taskPlace _ _ _ => true
  | .preemptWaitExpiry _ _ => true
  | .stripBoundaryPreempt => true
  | .immediatePreempt => true
  | .stripPreemptTimeout => true
  | .farmRecruit _ => true
  | .parkWake => true
  | .parkTimeout => true
  | .vwaitTimeout => true
  | .vwaitSatisfied => true
  | .shelfWaitEnd => true
  | .barrierWaitEnd => true
  | .tokenArrival => true
  | .drawerRoom => true
  | .chunkComplete _ _ => true
  | .transferRetire _ => true
  | .amaxDrainApply _ => true
  | .migrateLineCopy _ => true
  | .migrateCommit _ => true
  | .wpMigrateLineCopy _ _ => true
  | .wpMigrateCommit _ => true
  | .flitReceive _ _ => true
  | .portDown _ => true
  | .remoteRequest _ => true
  | .remoteAck _ => true
  | .hostMemWrite _ _ => true
  | .hostMemRead _ _ => true
  | .cxlLinkUp _ _ => true
  | .cxlLinkDown => true
  | .getVersion => true
  | .getCapabilities => true
  | .negotiateAlgorithms _ _ => true
  | .getDigests => true
  | .getCertificate => true
  | .challenge _ => true
  | .getMeasurements _ _ => true
  | .unsupportedRequest _ => true
  | .decodeTableMiss _ => true
  | .instructionFetchFault => true
  | .timeTick _ _ => true
  | .commandDispatch => true
  | .portUp _ => true
  | .railRemoval => true
  | .controlPageWrite _ _ => true
  | .pstatWrite _ => true

/-- The runs of opcodes that base map version 1 assigns (R106), as first and last opcode. -/
def opRuns : List (Nat × Nat) :=
  [(0x001, 0x02E), (0x030, 0x037), (0x040, 0x04A), (0x050, 0x065), (0x080, 0x08D), (0x100, 0x104),
   (0x108, 0x11D), (0x120, 0x133), (0x138, 0x148), (0x150, 0x15E), (0x160, 0x16D), (0x170, 0x17B),
   (0x180, 0x18A), (0x200, 0x209), (0x210, 0x21B), (0x220, 0x220), (0x228, 0x22F), (0x240, 0x244),
   (0x280, 0x283), (0x288, 0x28A), (0x290, 0x292), (0x2C0, 0x2C2), (0x2C8, 0x2CC), (0x2D0, 0x2D4),
   (0x2D8, 0x2DD), (0x2E0, 0x2E2), (0x2E8, 0x2E9), (0x300, 0x304), (0x320, 0x323)]

/-- Whether base map version 1 assigns an operation to the opcode (R106, R109). -/
def opAssigned (op : Nat) : Bool := opRuns.any fun r => decide (r.1 ≤ op ∧ op ≤ r.2)

/-- Whether the operation needs kernel level or above (R106). -/
def needsKernel (op : Nat) : Bool :=
  op == 0x081 || op == 0x089 || op == 0x08B || op == 0x08C || op == 0x08D

/-- Whether the opcode's format is V, the one format with chain bits (R94, R98). -/
def isFormatV (op : Nat) : Bool :=
  decide (op = 0x103 ∨ op = 0x104 ∨ (0x108 ≤ op ∧ op ≤ 0x1FF) ∨ (0x228 ≤ op ∧ op ≤ 0x22F) ∨
    (0x280 ≤ op ∧ op ≤ 0x2BF))

/-- The word with its chain bits cleared, for an entry with NCH = 1 (R103, R108). -/
def clearChain (op : Nat) (w : IWord) : IWord := if isFormatV op then w &&& 0xFFFFFF9F#32 else w

/-- Decode by base map version 1, whatever the privilege level (R103). -/
noncomputable def decodeWord (w : IWord) : Decoded :=
  let op := w.toNat / 2 ^ 22
  if op = 0 ∨ op = 0x3FF then .err .illegal
  else match decodeOp op w with
    | none => .err .miss
    | some i => if fieldsLegal i then .ok i else .err .illegal

/-- One decode-table entry applied to a word (R103, R108). The level check comes before the field check;
both raise illegal instruction. A table that an import has installed may hold what DTLOAD refuses (R112, R462): an entry whose
operation is not implemented is a decode-table miss, and bit 12 counts for nothing; DESIGN CHOICE, log 57. -/
noncomputable def decodeEntry (e : BitVec 16) (w : IWord) : Decoded :=
  let iop := e.toNat % 4096
  if e.getLsbD 15 = false then .err .miss
  else if e.getLsbD 14 then .err .illegal
  else match decodeOp iop (if e.getLsbD 13 then clearChain iop w else w) with
    | none => .err .miss
    | some i => if needsKernel iop then .err .illegal else if fieldsLegal i then .ok i else .err .illegal

/-- The entry of opcode `op` in the table of base map version 1 (R108). -/
def baseEntry (op : Nat) : BitVec 16 :=
  if opAssigned op then BitVec.ofNat 16 (0x8000 + op) else 0

/-- The little-endian word of four bytes (R94). -/
def wordOfBytes (b0 b1 b2 b3 : Byte) : IWord :=
  BitVec.ofNat 32 (b0.toNat + b1.toNat * 2 ^ 8 + b2.toNat * 2 ^ 16 + b3.toNat * 2 ^ 24)

/-- The bytes of a word, lowest address first (R10). -/
def bytesOfWord (w : Nat) : List Byte :=
  [BitVec.ofNat 8 w, BitVec.ofNat 8 (w / 2 ^ 8), BitVec.ofNat 8 (w / 2 ^ 16), BitVec.ofNat 8 (w / 2 ^ 24)]

/-- Decode the instruction at the head of a list of bytes, by base map version 1. -/
noncomputable def decodeBytes : List Byte → Decoded
  | b0 :: b1 :: b2 :: b3 :: _ => decodeWord (wordOfBytes b0 b1 b2 b3)
  | _ => .err .short

/-- The instruction this decoder reads from the bits `w` of an opcode-table row, laid out as the hardware
stores them. -/
noncomputable def decodeTableWord (_nbits w : Nat) : Option Instr :=
  match decodeBytes (bytesOfWord w) with
  | .ok i => some i
  | .err _ => none

end Sys2Proof
end

