-- ==== Sys2Proof/WellFormed.lean ====
section
/-! DEFINITION. Which instructions are well formed: those whose fields the decoder accepts (R96, R102). The
check itself stands in Decode.lean, beside the encodings it reads. -/

namespace Sys2Proof

/-- Every field holds a value the instruction accepts at decode. -/
def Instr.wf (i : Instr) : Bool := fieldsLegal i

/-- The instruction has a word of its own: it is no event. -/
def Instr.encodable (i : Instr) : Bool := opcodeOf i != 0

end Sys2Proof
end

