-- ==== Sys2Proof/Machine/State.lean ====
section
/-! DEFINITION. The state of one LQ-7 device as plain data: its harts, cores, contexts, power regions, tables and
memory, and what its engines and controllers have in hand. Fields marked MODEL are the model's own (log 3, 4). -/

namespace Sys2Proof.Machine

/-- Why the machine stops. -/
inductive Fault where
  /-- A scalar access to a device register that the manual does not describe (R233). Raised by the memory
  operations. Safe: nothing is claimed of such a register. -/
  | deviceRegister (loc : Nat)
deriving DecidableEq, Repr

/-- Why an instruction has no meaning. -/
inductive Refusal where
  /-- An instruction with no meaning in this model yet. Raised by `exec`. Safe: the machine stops. -/
  | notModelled (mnemonic : String)
deriving DecidableEq, Repr

/-- A scalar link: address, width and the 64-byte granule of the location (R132). -/
structure Link where
  ea : W
  width : Nat
  granule : Nat
deriving DecidableEq, Repr

/-- One link of the vector link set, at one element position (R263). -/
structure VLink where
  elem : Nat
  ea : W
  width : Nat
  granule : Nat
deriving DecidableEq, Repr

/-- A vector command in the command queue or the saved queue (R171, R403, R419). -/
structure Cmd where
  /-- The internal operation it was decoded to (R105) and the word it was decoded from. -/
  ins : Instr
  word : IWord
  /-- The g values and format word read at decode (R179), and whether each was poisoned (R409). -/
  gv : List W
  gp : List Bool
  fw : W
  fwp : Bool
  /-- The privilege level at which it was decoded, and ATP then (R234). -/
  priv : BitVec 2
  atp : W
  started : Bool
  /-- Stopped at a group boundary behind a faulting producer (R401 step 2). -/
  stopped : Bool
  /-- The resume point (R403), the done mask, and the shape and VL of the first dispatch. -/
  resume : Nat
  done : MReg
  /-- Its conflict lies before any effect, and its replay starts again whole, whatever RIX reports (R315, R316). -/
  anew : Bool
  /-- A VSTX whose faulting execution recorded, and so was of the prefix class (R252, R311). -/
  inOrder : Bool
  /-- A VWAIT: the positions whose reads so far met poison (R268, R409). -/
  tainted : MReg
  first : Option (BitVec 3 × BitVec 2 × Nat)
  /-- The ticket of a SHACQ or SHWAIT (R370). -/
  ticket : Option W
  /-- TIME at the start of a VWAIT (R268); the number of the slot that a BWAIT watches, and whether a phase of it has
  ended since (R380). -/
  t0 : Option W
  watch : Option (Nat × Bool)
  /-- A deposit that this command still owes to a full drawer (R346). -/
  owes : Bool
  /-- A transfer that waits for its token: the location of its barrier slot, fixed at its first dispatch (R374). -/
  credit : Option (Option Nat)
  /-- The lowest element so far whose store was suppressed, and its address (R411). -/
  supp : Option (Nat × W)
deriving DecidableEq, Repr

/-- A vector cause detected and not yet taken (R400, R164, R411). -/
structure VFault where
  /-- VFSTAT.KIND: 0 fault, 1 grant loss, 2 poison record (R402). -/
  kind : Nat
  cause : Nat
  tval : W
  rix : Nat
  /-- The place of the faulting command in the queue, 127 when none is reported (R402). -/
  pos : Nat
  /-- Addresses of further faulting pages (R404). -/
  hints : List W
deriving DecidableEq, Repr

/-- An asynchronous event pending at a hart (R398). -/
structure AsyncEvent where
  code : Nat
  tval : W
deriving DecidableEq, Repr

/-- What a hart is doing. -/
inductive Run where
  /-- Parked from reset (R66). -/
  | reset
  | running
  /-- Parked by PARK: destination, TIME at its start, its ticks, and the first wake event that has come since: its code
  and the CYCLE at which it came (R139). -/
  | parked (gd : Nat) (t0 ticks : W) (first : Option (Nat × W))
  /-- Running no task: it has left its task, or was pre-empted (R384, R416). -/
  | idle
  /-- Stopped until package reset (R63). -/
  | halted
deriving DecidableEq, Repr

/-- A pre-emption asked of a hart (R415). -/
structure Preempt where
  immediate : Bool
  since : W
deriving DecidableEq, Repr

/-- The trap and identity registers of a hart (R48). -/
structure TrapRegs where
  stat : W
  tbase : W
  epc : W
  cause : W
  tval : W
  kscr : W
  ftbase : W
  fepc : W
  fcause : W
  ftval : W
  fscr : W
  hraddr : W
deriving DecidableEq, Repr

/-- The vector registers of a loop context and their lanes (R147 to R170, R408, R410). -/
structure VecRegs where
  sewc : BitVec 3
  gc : BitVec 2
  vl : Nat
  /-- GRANT.LANES and GRANT.PHYS. -/
  lanes : Nat
  phys : Nat
  gstat : W
  gloss : W
  gctl : W
  scnt : BitVec 32
  folds : Tab W
  gsctl : W
  gscript : Tab W
  vsave : W
  /-- v0 to v31, the poison bits of their lane words, and which lanes of each have been written (R154). -/
  v : Tab VReg
  vpois : Tab Lanes
  vwr : Tab Lanes
  m0 : MReg
  m1 : MReg
  pm : MReg
  /-- The need of the most recent grant step (R156). -/
  need : Nat
  /-- Commands completed in this strip; when its first hard shrink took effect, the count then (R162). -/
  stripDone : Nat
  stripHard : Option Nat
  /-- Commands completed since a hard-shrink entry came to head (R169). -/
  scriptDone : Nat
  /-- VAMAX updates not yet drained: register and magnitude (R219, R220). -/
  drain : List (Nat × BitVec 32)
  vlinks : List VLink
deriving DecidableEq, Repr

/-- The fault and replay registers of a hart (R402, R410, R412). -/
structure FaultRegs where
  vfstat : W
  rix : W
  vqpos : W
  rep : Bool
  lerr : W
  fhint : Tab W
  /-- The saved queue, oldest first (R401). -/
  saved : List Cmd
  /-- The vector cause that the next scalar boundary takes. -/
  pending : Option VFault
  /-- The poison record of a scalar or vector store, taken after it (R411). -/
  record : Option VFault
  /-- Asynchronous events pending, oldest first (R62). -/
  events : List AsyncEvent
deriving DecidableEq, Repr

/-- One hart and the loop context it runs (R41, R146). -/
structure Hart where
  run : Run
  pc : W
  /-- g1 to g31; a number that is not listed holds zero. -/
  g : Tab W
  gpois : BitVec 32
  /-- g registers that a transfer in flight will write (R339). -/
  gwait : List Nat
  fflags : BitVec 6
  trap : TrapRegs
  link : Option Link
  vec : VecRegs
  flt : FaultRegs
  /-- The command queue, oldest first (R171). -/
  queue : List Cmd
  /-- DMSTAT.MODE, TAPEPTR, TAPELIM and TAPEBASE (R304, R307). -/
  mode : BitVec 2
  tapeptr : W
  tapelim : W
  tapebase : W
  lwin : W
  /-- The twelve token drawers, by 4 × producer + consumer (R346, R348). -/
  drawers : Tab Nat
  /-- The context the hart runs, its task slot and rank, and its farm: the origin's index and its own (R357). -/
  ctx : Nat
  task : Option (Nat × Nat)
  farm : Option (Nat × Nat)
  /-- A wake of the hardware scheduler not yet taken by a PARK (R364). -/
  wake : Bool
  preempt : Option Preempt
  /-- MODEL: the word that the instruction in hand was fetched as, and how many words of `State.stale` the hart's last
  IFLUSH put behind it (R142). -/
  ir : IWord
  iseen : Nat
deriving DecidableEq, Repr

/-- How far a wake of lane clusters has come (R433): it waits for its neighbours' currents; its pace in steps is fixed and
it waits for its turn; or so many steps of staging are left. -/
inductive WakePhase where
  | current
  | turn (steps : Nat)
  | staging (left : Nat)
deriving DecidableEq, Repr

/-- A wake of lane clusters: the request, TIME when it was made, and the 1.4 GHz cycles since then (R433). -/
structure Wake where
  clusters : BitVec 16
  since : W
  age : Nat
  phase : WakePhase
deriving DecidableEq, Repr

/-- One core (R155 to R157, R227, R433). -/
structure CoreSt where
  cycle : W
  bench : W
  /-- MODEL: for each seat that is held, which loop context of the hart holds it, 4 bits each (R176). -/
  loops : W
  lanedis : BitVec 16
  lbudget : Nat
  pbreg : Nat
  scrSize : Nat
  lent : Nat
  cacSize : Nat
  rsz : Bool
  /-- The lane clusters that are powered, and the wakes in progress, oldest first. -/
  powered : BitVec 16
  wakes : List Wake
  /-- The last thermal figure of R435. -/
  thermal : Nat
  retired : Bool
deriving DecidableEq, Repr

/-- The state of a task slot (R354). -/
inductive SlotState where
  | free | defined | eligible | ready | running
deriving DecidableEq, Repr

/-- A task slot (R354). `left` holds the ranks of a running task that have neither ended it nor been saved; `saved`
those whose images wait in the save table (R416). -/
structure TaskSlot where
  state : SlotState
  entry : W
  args : W
  /-- SHAPE bits 28:0, in the layout of R383. -/
  shape : BitVec 29
  counter : BitVec 32
  left : List Nat
  saved : List Nat
  /-- The placement list of the doorbell that defined it (R360). -/
  places : Option (List Nat)
  /-- TIME at which it became READY (R363). -/
  since : W
deriving DecidableEq, Repr

/-- A residency handle (R243, R273): virtual base, descriptor, and the blocks it is bound to. -/
structure Handle where
  base : W
  desc : W
  blocks : List Nat
deriving DecidableEq, Repr

/-- What a key-cache slot is bound to (R322): the locations of the 4 KiB pages of its key and rime ranges. -/
structure KeyBind where
  keys : List Nat
  rimes : List Nat
  /-- The encryption of those pages, key pages then rime pages. -/
  keyEnc : List (Option (BitVec 10))
  rimeEnc : List (Option (BitVec 10))
deriving DecidableEq, Repr

/-- One context (R108, R234, R302, R321, R354, R361, R416, R462). -/
structure Context where
  resident : Bool
  atp : W
  /-- The decode table; none: base map version 1. -/
  dt : Option (List (BitVec 16))
  dtver : BitVec 16
  drbase : Tab W
  dradj : Tab W
  drsize : Tab W
  kcbase : Tab W
  kcrime : Tab W
  kcgeom : Tab W
  kcbind : Tab (Option KeyBind)
  amax : Tab (BitVec 32)
  handles : Tab (Option Handle)
  slots : Tab TaskSlot
  tktab : W
  csave : W
  equota : W
  erefill : W
  eperiod : W
  sweight : W
  callot : W
  /-- The copy of the allotment bitmap that the device holds (R362). -/
  allot : BitVec 2048
  debt : Nat
  /-- TIME at which the energy period began, and whether a refill has left tasks that are to be placed together (R364). -/
  period : W
  together : Bool
  /-- ENTRY, ARGS and SHAPE of the control page and bits 4:1 of its STATUS (R358). -/
  pageEntry : W
  pageArgs : W
  pageShape : W
  pageStatus : BitVec 5
  /-- The measurement of R459. -/
  measured : Option (BitVec 512)
deriving DecidableEq, Repr

/-- What a TLB or walk cache holds (R240, R242): with `leaf` the leaf entry that the walk of `va` found, at the location
`base`; without, the table at `base` in which that walk reads at level `lev`. -/
structure TlbEntry where
  asid : BitVec 12
  gen : BitVec 8
  va : W
  lev : Nat
  base : Nat
  leaf : Option W
deriving DecidableEq, Repr

/-- The forms of a transfer (R373, R330). -/
inductive XKind where
  | gather | scatter | scatterStream | copy
deriving DecidableEq, Repr

/-- A transfer that an engine has in hand (R336, R373, R374). -/
structure Xfer where
  id : Nat
  hart : Nat
  ctx : Nat
  priv : BitVec 2
  atp : W
  kind : XKind
  mem : W
  win : W
  rb : Nat
  sstr : W
  dstr : W
  pitch : Nat
  /-- Row forms: the row numbers by unit, and the units whose row number was poisoned. -/
  rows : List W
  bad : List Nat
  /-- Stream forms: records and records in a chunk. -/
  count : Nat
  chl : Nat
  /-- Chunks not yet ended: of the row forms all of them, of a stream those whose bytes have been moved; a stream's
  chunks from `next` on have not been reached (R341). -/
  left : List Nat
  /-- Row forms: rows among these whose bytes have been moved, their chunks not yet completed (R345). -/
  moved : List Nat
  next : Nat
  total : Nat
  cm : Option Bool
  slot : Option Nat
  gd : Option Nat
  /-- The queue whose token it deposits at retirement (R347). -/
  push : Option Nat
  task : Option Nat
  /-- Retired, with a deposit that waits for room (R346). -/
  owing : Bool
  /-- A KGAT transfer (R330). -/
  kgat : Bool
  /-- The translations of its memory side so far, one for each page that it has reached (R242, R337, R341). -/
  pages : List TlbEntry
  done : Nat
  frow : Nat
  cause : Nat
  addr : W
deriving DecidableEq, Repr

/-- A strip farm, by its origin's package index (R365, R366). -/
structure Farm where
  trip : Nat
  most : Nat
  die : Bool
  next : Nat
  count : Nat
  members : List Nat
  /-- The fold state of ended recruits, by index, until the join (R177, R367). -/
  ended : List (Nat × VecRegs)
  /-- A pre-emption ends the farm early (R417). -/
  stop : Bool
  /-- The mode of the origin at SFSTART (R306). -/
  mode : BitVec 2
  pcStart : W
  gStart : Tab W
  gpStart : BitVec 32
deriving DecidableEq, Repr

/-- A live barrier slot (R351): its location and encryption, the die it counts against, and its own number. -/
structure LiveSlot where
  loc : Nat
  key : Option (BitVec 10)
  die : Nat
  id : Nat
deriving DecidableEq, Repr

/-- A stash line: the location of the mapped line, the permissions of its translation and its key (R231). -/
structure StashLine where
  loc : Nat
  read : Bool
  write : Bool
  key : Option (BitVec 10)
deriving DecidableEq, Repr

/-- One sensor of a power region (R438). -/
structure Sensor where
  temp : Int
  amps : Int
  same : Nat
  good : Nat
  untrusted : Bool
  retired : Bool
deriving DecidableEq, Repr

/-- One power region (R429, R432, R437). -/
structure Region where
  /-- Phases out that may return, each with the TIME of its trip, and phases retired (R430). -/
  tripped : Tab W
  lost : List Nat
  droop : Bool
  dark : Bool
  temp : Nat
  igov : Nat
  sensors : Tab Sensor
deriving DecidableEq, Repr

/-- A move of one 64 KiB block between backing slots (R245, R246), and the slot of a further move that follows it (R243). -/
structure Move where
  block : Nat
  slot : Nat
  /-- Write protection, for a host-shared block. -/
  wp : Bool
  ptr : Nat
  copied : List Nat
  next : Option Nat
deriving DecidableEq, Repr

/-- Owner and host key of a run of blocks, as BLKOWN writes it (R451). -/
structure OwnRun where
  first : Nat
  count : Nat
  word : BitVec 27
deriving DecidableEq, Repr

/-- A byte that a stash line of a core has dirty: the key index that the line is tagged with, and what memory itself still holds
there, as that key reads it (R231, R292, R453). -/
structure DirtyByte where
  core : Nat
  loc : Nat
  key : Option (BitVec 10)
  held : Byte
deriving DecidableEq, Repr

/-- A request sent to a remote device and not yet acknowledged (R444). -/
structure OutReq where
  id : Nat
  device : Nat
  port : Nat
deriving DecidableEq, Repr

/-- An answer of the device to an SPDM request (R460). -/
inductive SpdmAnswer where
  | body (code : Nat) (bytes : List (BitVec 8))
  | signed (code : Nat) (bytes sig : List (BitVec 8))
  | unsupported
deriving DecidableEq, Repr

/-- A word of memory that a store has replaced: its location and what it held (R56, R142). -/
structure OldWord where
  loc : Nat
  word : IWord
deriving DecidableEq, Repr

/-- MODEL: how an access translates, where the manual allows several ways: by a new walk, which may take the entry
`run` of a run in place of its own (R236), or from an entry held earlier (R239, R240). -/
inductive TlbUse where
  | walk (run : Option Nat)
  | held (n : Nat)
deriving DecidableEq, Repr

/-- MODEL: one move of the machine: a hart's own next step, or an event from outside, at that hart; and what the host and
remote devices have written in their own memory before it, by location (R445, R449). -/
structure Slot where
  hart : Nat
  event : Option Instr
  outer : List (Nat × Byte)
deriving DecidableEq, Repr

/-- The device. -/
structure State where
  harts : Tab Hart
  cores : Tab CoreSt
  contexts : Tab Context
  /-- TIME (R53, R54) and the current generation of each ASID (R241). -/
  time : W
  gens : Tab (BitVec 8)
  /-- Memory by location: device memory of any device by physical address, the host's memory and the scratchpads
  above it (`Loc` in Ops.lean); poison marks by location ÷ 4 (R408); and the key each line was written under. -/
  mem : List Host.Cell
  marks : List Nat
  lineKeys : Tab (Option (BitVec 512))
  /-- What TLBs and walk caches hold, and the replaced words that a fetch may still see, both newest first (R56, R142,
  R239, R240). -/
  tlb : List TlbEntry
  stale : List OldWord
  stash : Tab StashLine
  dirty : List DirtyByte
  live : List LiveSlot
  farms : Tab Farm
  xfers : List Xfer
  /-- The block map (R244, R451): backing slots that are not the reset ones, moves in progress, owners. -/
  backing : Tab Nat
  moves : List Move
  owners : List OwnRun
  /-- Pseudo-channels retired, the runs of 2,048 backing slots lost with them (R232), and corrected-error times of each unit,
  by 65,536 × kind + index (R413). -/
  channels : List Nat
  lostRuns : List Nat
  errors : Tab (List W)
  retired : List (Nat × Nat)
  clusterErrors : Tab (List W)
  regions : Tab Region
  netStep : Tab Nat
  prsel : BitVec 10
  svchart : BitVec 11
  blksel : W
  devid : BitVec 10
  devlock : Bool
  hdmsize : Nat
  hdmNext : Nat
  hwbase : W
  /-- RTSEL, and RTPORTS.LOCAL as the last write of RTSEL or DEVCFG left it (R446). -/
  rtsel : BitVec 10
  rtlocal : Bool
  routes : Tab (BitVec 16)
  ports : BitVec 16
  outbox : List OutReq
  keysel : BitVec 10
  keydat : Tab W
  keys : Tab (Option (BitVec 512))
  cxsel : BitVec 12
  cxaddr : W
  cxstatus : BitVec 2
  linkUp : Bool
  /-- The checkpoint fields of the device control page, and the blocks already streamed (R455, R456). -/
  ckState : BitVec 2
  ckError : Bool
  ckAddr : W
  ckPeer : W
  ckDone : Nat
  ckBlocks : List Nat
  ckNext : Nat
  /-- Whether the firmware image was verified, its trap entry address, and measurement 2 (R50, R457, R458). -/
  booted : Bool
  trapEntry : W
  measured2 : Option (BitVec 512)
  negotiated : Bool
  spdm : Option SpdmAnswer
  /-- The last answer to the host or a remote device: the bytes read, or none for an error (R445, R448). Requests of
  remote devices already performed, by device and number (R444). -/
  hostAnswer : Option (List (BitVec 8))
  served : List (Nat × Nat)
  /-- The scheduler's round: the context it visits and the placements it has made there (R361). -/
  visit : Nat
  visited : Nat
  /-- MODEL: the hart that moves, the moves to come, the choices the manual leaves to the device (none listed: the
  first), and the number that the next transfer, barrier slot or remote request gets. -/
  cur : Nat
  schedule : List Slot
  choices : List Nat
  fresh : Nat
  /-- MODEL: how the next translated accesses use the TLBs (none listed: a new walk by the page's own entry), and which
  replaced word each next fetch sees (0, or none listed: the word that stands in memory). -/
  uses : List TlbUse
  /-- MODEL: while a vector access or a transfer that translates once for each page runs, the translations it has made
  (R242). -/
  pin : Option (List TlbEntry)
  olds : List Nat
deriving DecidableEq, Repr

/-- The trap registers at reset (R49 to R51, R66, R67). -/
def TrapRegs.reset : TrapRegs :=
  { stat := 2, tbase := 0, epc := 0, cause := 0, tval := 0, kscr := 0, ftbase := Config.firmwareTrap, fepc := 0,
    fcause := 0, ftval := 0, fscr := 0, hraddr := 0 }

/-- The vector registers at reset (R149, R158, R162, R166 to R168). -/
def VecRegs.reset : VecRegs :=
  { sewc := 3, gc := 0, vl := 0, lanes := 0, phys := 0, gstat := 0, gloss := 0, gctl := 0, scnt := 0, folds := [],
    gsctl := 0, gscript := [], vsave := 0, v := [], vpois := [], vwr := [], m0 := 0, m1 := 0, pm := 0, need := 0,
    stripDone := 0, stripHard := none, scriptDone := 0, drain := [], vlinks := [] }

/-- The fault registers at reset (R402, R410, R412). -/
def FaultRegs.reset : FaultRegs :=
  { vfstat := 0, rix := 0, vqpos := 0, rep := false, lerr := 0, fhint := [], saved := [], pending := none,
    record := none, events := [] }

/-- A hart parked from reset (R66). -/
def Hart.reset : Hart :=
  { run := .reset, pc := Config.firmwareEntry, g := [], gpois := 0, gwait := [], fflags := 0, trap := TrapRegs.reset,
    link := none, vec := VecRegs.reset, flt := FaultRegs.reset, queue := [], mode := 0, tapeptr := 0, tapelim := 0,
    tapebase := 0, lwin := 0, drawers := [], ctx := 0, task := none, farm := none, wake := false, preempt := none,
    ir := 0, iseen := 0 }

/-- A core at reset, after the first budget refresh (R155 to R157, R227). -/
def CoreSt.reset : CoreSt :=
  { cycle := 0, bench := 0, loops := 0, lanedis := Config.retiredClusters, lbudget := Config.firstBudget, pbreg := 8,
    scrSize := 8, lent := 0, cacSize := 16, rsz := false, powered := 0, wakes := [], thermal := 512,
    retired := false }

/-- A task slot at reset (R354). -/
def TaskSlot.reset : TaskSlot :=
  { state := .free, entry := 0, args := 0, shape := 0, counter := 0, left := [], saved := [], places := none,
    since := 0 }

/-- A context that is not resident, every register at its reset value (R234, R302, R321, R358, R361, R381). -/
def Context.reset : Context :=
  { resident := false, atp := 0, dt := none, dtver := 1, drbase := [], dradj := [], drsize := [], kcbase := [],
    kcrime := [], kcgeom := [], kcbind := [], amax := [], handles := [], slots := [], tktab := 0, csave := 0,
    equota := BitVec.allOnes 64, erefill := BitVec.allOnes 64, eperiod := 1000, sweight := 1, callot := 0, allot := 0,
    debt := 0, period := 0, together := false, pageEntry := 0, pageArgs := 0, pageShape := 0, pageStatus := 0, measured := none }

/-- A sensor at reset (R432). Its readings are live; log 1 names the first. -/
def Sensor.reset : Sensor :=
  { temp := 0, amps := 0, same := 0, good := 0, untrusted := false, retired := false }

/-- A region at reset (R432). -/
def Region.reset : Region :=
  { tripped := [], lost := [], droop := false, dark := false, temp := 0, igov := 0, sensors := [] }

/-- The device right after reset: hart 0 of core 0 of die 0 at its first instruction, every other hart parked from
reset, no memory listed (R66). -/
def State.reset : State :=
  { harts := [(0, { Hart.reset with run := .running })], cores := [], contexts := [(0, { Context.reset with resident := true })],
    time := 0, gens := [], mem := [], marks := [], lineKeys := [], tlb := [], stale := [], stash := [], dirty := [], live := [], farms := [], xfers := [],
    backing := [], moves := [], owners := [], channels := [], lostRuns := [], errors := [], retired := [], clusterErrors := [],
    regions := [], netStep := [], prsel := 0, svchart := 0, blksel := 0, devid := 0, devlock := false, hdmsize := 0,
    hdmNext := 0, hwbase := 0, rtsel := 0, rtlocal := false, routes := [], ports := BitVec.allOnes 16, outbox := [], keysel := 0,
    keydat := [], keys := [], cxsel := 0, cxaddr := 0, cxstatus := 0, linkUp := false, ckState := 0, ckError := false,
    ckAddr := 0, ckPeer := 0, ckDone := 0, ckBlocks := [], ckNext := 0, booted := true, trapEntry := Config.firmwareTrap, measured2 := none,
    negotiated := false, spdm := none, hostAnswer := none, served := [], visit := 0, visited := 0, cur := 0, schedule := [],
    choices := [], fresh := 0, uses := [], pin := none, olds := [] }

end Sys2Proof.Machine
end

