-- ==== Sys2Proof/Machine/Ops.lean ====
section
/-! DEFINITION. The named operations over harts, registers and memory that every meaning is written with:
translation (R230 to R241), loads and stores with what hangs on them (R133, R324, R353, R408, R452, R453), and
taking a trap (R61 to R63). -/

namespace Sys2Proof.Machine

/-- What a step answers. -/
abbrev Out := Host.Outcome State Fault Refusal

/-! ### Harts, cores, contexts -/

def State.hart (s : State) (n : Nat) : Hart := s.harts.get Hart.reset n

def State.setHart (s : State) (n : Nat) (h : Hart) : State := { s with harts := s.harts.set n h }

/-- A hart as it starts: one parked from reset takes the FTBASE of the firmware image (R50, R66). -/
def State.waking (s : State) (n : Nat) : Hart :=
  let h := s.hart n
  if h.run = .reset then { h with trap := { h.trap with ftbase := s.trapEntry } } else h

/-- The hart that moves. -/
def State.me (s : State) : Hart := s.hart s.cur

def State.setMe (s : State) (h : Hart) : State := s.setHart s.cur h

def State.core (s : State) (n : Nat) : CoreSt := s.cores.get CoreSt.reset n

def State.setCore (s : State) (n : Nat) (c : CoreSt) : State := { s with cores := s.cores.set n c }

def State.ctx (s : State) (n : Nat) : Context := s.contexts.get Context.reset n

def State.setCtx (s : State) (n : Nat) (c : Context) : State := { s with contexts := s.contexts.set n c }

/-- The context that the moving hart runs. -/
def State.myCtx (s : State) : Context := s.ctx s.me.ctx

/-- The package index of the hart of a loop context: loop context `k` of hart `h`, which `h` itself is for 0 and a recruit of a
divided hart for 1 to 15 (R176), has the index `h + 2048 * k`; log 34. -/
def hartOf (n : Nat) : Nat := n % 2048

/-- The core of a hart, 0 to 255, and the die of a core (R53). -/
def coreOf (hart : Nat) : Nat := hartOf hart / 8
def dieOfCore (core : Nat) : Nat := core / 64

/-- A value below `n` that the manual leaves to the device: the next choice, or 0 when none is listed (log 4). -/
def State.pick (s : State) (n : Nat) : Nat × State :=
  match s.choices with
  | [] => (0, s)
  | c :: r => (if n = 0 then 0 else c % n, { s with choices := r })

/-! ### Registers of a hart -/

/-- g[r]; g0 reads zero (R41). -/
def Hart.rd (h : Hart) (r : Nat) : W := if r = 0 then 0 else h.g.get 0 r

/-- Whether g[r] is poisoned (R408). -/
def Hart.rdP (h : Hart) (r : Nat) : Bool := r != 0 && h.gpois.getLsbD r

/-- g[r] := x, with its poison bit; a write of g0 is discarded (R41, R408). -/
def Hart.wrP (h : Hart) (r : Nat) (x : W) (p : Bool) : Hart :=
  if r = 0 then h
  else { h with g := h.g.set r x,
                gpois := if p then h.gpois ||| BitVec.ofNat 32 (2 ^ r) else h.gpois &&& ~~~(BitVec.ofNat 32 (2 ^ r)) }

/-- g[r] := x, not poisoned. -/
def Hart.wr (h : Hart) (r : Nat) (x : W) : Hart := h.wrP r x false

/-- STAT.PRIV (R49). -/
def Hart.priv (h : Hart) : Nat := fld h.trap.stat 0 2

def Hart.addFlags (h : Hart) (f : Flags) : Hart := { h with fflags := h.fflags ||| f }

/-- PC advanced by 4: a 56-bit address, sign-extended from bit 55 (R43). -/
def nextPc (pc : W) : W := ((pc + 4).setWidth 56).signExtend 64

/-- PC := PC + 4 (R43). -/
def Hart.adv (h : Hart) : Hart := { h with pc := nextPc h.pc }

/-! ### Locations -/

/-- The first location of each space: below 2^42 the local device by offset, then remote devices by physical
address, the scratchpads, the boot flash, and above them all the host's memory, by host physical address. -/
def remoteBase : Nat := 2 ^ 52
def padBase : Nat := 2 ^ 53
def flashBase : Nat := 2 ^ 54
def hostBase : Nat := 2 ^ 55

def devMemEnd : Nat := 0x28000000000
def hostWin : Nat := 0x30000000000
def devRegs : Nat := 0x3C000000000

/-- The location of scratchpad byte `b` of a core. -/
def padLoc (core b : Nat) : Nat := padBase + core * 2 ^ 22 + b

/-- Whether a location is a device register of the local device (R233). -/
def isDevReg (loc : Nat) : Bool := decide (devRegs ≤ loc ∧ loc < 2 ^ 42)

/-- Whether a location is device memory of the local device. -/
def isLocalMem (loc : Nat) : Bool := decide (loc < devMemEnd)

/-! ### Bytes of memory -/

/-- What a byte that nothing has written reads as (log 5). -/
def defaultByte : Byte := 0

/-- The byte at a location. -/
def memGet : List Host.Cell → Nat → Byte
  | [], _ => defaultByte
  | (a, b) :: r, k => if k = a then b else memGet r k

/-- Insert a cell in ascending address, replacing the one that is there. -/
def memIns : List Host.Cell → Nat → Byte → List Host.Cell
  | [], k, v => [(k, v)]
  | (a, b) :: r, k, v =>
    if k < a then (k, v) :: (a, b) :: r else if k = a then (k, v) :: r else (a, b) :: memIns r k v

/-- The memory with one byte written: the default byte is not listed. -/
def memPut (m : List Host.Cell) (k : Nat) (v : Byte) : List Host.Cell :=
  if v = defaultByte then m.filter (fun c => c.1 != k) else memIns m k v

/-- Addresses strictly rising, and no entry that holds the default byte. -/
def memWf : List Host.Cell → Bool
  | [] => true
  | [(_, b)] => b != defaultByte
  | (a, b) :: (a', b') :: r => b != defaultByte && decide (a < a') && memWf ((a', b') :: r)

/-- Consecutive bytes written. -/
def memPuts (m : List Host.Cell) (k : Nat) : List Byte → List Host.Cell
  | [] => m
  | b :: r => memPuts (memPut m k b) (k + 1) r

/-- `n` bytes from a location, little-endian, as stored. -/
def rawGet (s : State) (loc n : Nat) : Nat := leNat ((upTo loc n).map (memGet s.mem))

/-- The memory with bytes replaced as stored, with no other effect. -/
def rawPut (s : State) (loc : Nat) (bytes : List Byte) : State := { s with mem := memPuts s.mem loc bytes }

/-! ### Blocks: owners, backing and dark dies (R244, R442, R451) -/

/-- BLKOWN of a block: the newest run that holds it, else SH = 1 (R451). -/
def ownWord (s : State) (block : Nat) : BitVec 27 :=
  match s.owners.find? (fun r => decide (r.first ≤ block ∧ block < r.first + r.count)) with
  | some r => r.word
  | none => 0x1000#27

/-- Whether a context at user or kernel level may access a location by its block's owner (R452). -/
def ownerOk (s : State) (ctx priv loc : Nat) : Bool :=
  priv == 2 || !isLocalMem loc ||
    (let w := ownWord s (loc / 65536); w.getLsbD 12 || w.toNat % 4096 == ctx)

/-- The backing slot of a block; at reset its own number (R233, R244). -/
def slotOf (s : State) (block : Nat) : Nat := s.backing.get block block

/-- The first slot number of the LPDDR tier; a stack holds 2^20 slots, two stacks a die (R5, R442). -/
def lpddrSlot : Nat := 2 ^ 23

def region (s : State) (r : Nat) : Region := s.regions.get Region.reset r

def setRegion (s : State) (r : Nat) (x : Region) : State := { s with regions := s.regions.set r x }

/-- A compute die is dark when a region 192 to 207 of it is (R431). -/
def dieDark (s : State) (die : Nat) : Bool := (upTo 192 16).any fun r => (region s (208 * die + r)).dark

/-- Whether a backing slot lies in the stacks of a dark die (R442). -/
def slotDark (s : State) (slot : Nat) : Bool := !s.regions.isEmpty && decide (slot < lpddrSlot) && dieDark s (slot / 2 ^ 21)

/-- The slot that serves a location: while its block moves by redirection, the new one for the lines already copied
(R245). -/
def servingSlot (s : State) (loc : Nat) : Nat :=
  let b := loc / 65536
  match s.moves.find? (fun m => m.block == b && !m.wp) with
  | some m => if loc % 65536 / 64 < m.ptr then m.slot else slotOf s b
  | none => slotOf s b

/-- Whether the location is backed by a dark die's stacks (R442). -/
def blockDark (s : State) (loc : Nat) : Bool := isLocalMem loc && !s.regions.isEmpty && slotDark s (servingSlot s loc)

/-! ### Encryption (R453) -/

/-- A physical access: its location, memory type, encryption key index, and the core whose stash line serves it (R231). -/
structure Phys where
  loc : Nat
  mt : Nat
  key : Option (BitVec 10)
  via : Option Nat
deriving DecidableEq, Repr

/-- The key material that a key index names at the location's home device. -/
def keyFor (s : State) (loc : Nat) (k : BitVec 10) : Option (BitVec 512) :=
  if remoteBase ≤ loc ∧ loc < padBase then Config.remoteKey ((loc - remoteBase) / 2 ^ 42) k.toNat
  else s.keys.get none k.toNat

/-- The key material of an access; none: plaintext. The host's memory and the scratchpads hold plaintext. -/
def keyOf (s : State) (p : Phys) : Option (BitVec 512) :=
  if p.loc < padBase then p.key.bind (keyFor s p.loc) else none

/-- The tweak of a line: bits 51:6 of its physical address, of which the top ten name the home device (R453). -/
def tweakOf (s : State) (line : Nat) : Nat :=
  if line < 2 ^ 36 then s.devid.toNat * 2 ^ 36 + line else line - remoteBase / 64

/-- The 64 bytes of a line as an access under `k` reads them. -/
def lineUnder (s : State) (line : Nat) (k : Option (BitVec 512)) : Nat :=
  let raw := rawGet s (64 * line) 64
  let w := s.lineKeys.get none line
  if w = k then raw else (recrypt w k (tweakOf s line) (BitVec.ofNat 512 raw)).toNat

/-- `n` bytes at a location as an access under the key reads them. -/
def readKey (s : State) (loc n : Nat) (k : Option (BitVec 512)) : Nat :=
  if s.lineKeys.isEmpty && k.isNone then rawGet s loc n
  else leNat ((upTo loc n).map fun a => BitVec.ofNat 8 (lineUnder s (a / 64) k / 256 ^ (a % 64)))

/-- The line made one that holds what an access under `k` reads, so that it may be written under `k`. -/
def rekeyLine (s : State) (k : Option (BitVec 512)) (line : Nat) : State :=
  if s.lineKeys.get none line = k then s
  else
    let x := lineUnder s line k
    { rawPut s (64 * line) (leBytes 64 x) with lineKeys := s.lineKeys.set line k }

/-- The device's memory as it is stored: the lines that were written under a key hold their encrypted bytes (R453). What comes to be
read under another DEVID has another tweak, and so finds those. -/
def asStored (s : State) : State :=
  (s.lineKeys.filter fun e => e.2.isSome && decide (e.1 < 2 ^ 36)).foldl (fun s e => rekeyLine s none e.1) s

/-! ### Dirty stash bytes (R231, R292) -/

/-- An access to `n` bytes by anyone but the stash of core `via` under the key index `key`: the directory recalls their lines
from the other stash lines, and from those of the core that are tagged otherwise; their dirty bytes reach memory (R231, R453). -/
def recallLines (s : State) (via : Option Nat) (key : Option (BitVec 10)) (loc n : Nat) : State :=
  let hit (e : DirtyByte) : Bool := decide (loc / 64 ≤ e.loc / 64 ∧ e.loc / 64 ≤ (loc + n - 1) / 64)
  if s.dirty.isEmpty then s
  else { s with dirty := s.dirty.filter fun e => (via == some e.core && e.key == key) || !hit e }

/-- What memory holds under `n` bytes that a store through a stash line is about to write, kept until they are written
back. -/
def soil (s : State) (via : Option Nat) (key : Option (BitVec 10)) (loc n : Nat) : State :=
  match via with
  | none => s
  | some c =>
    { s with dirty := ((upTo loc n).filter fun a => !s.dirty.any fun e => e.loc == a).map (fun a => ⟨c, a, key, memGet s.mem a⟩) ++ s.dirty }

/-- The dirty bytes of a core's stash lines written back (R231). -/
def cleanStash (s : State) (core : Nat) : State := { s with dirty := s.dirty.filter fun e => e.core != core }

/-- The dirty bytes of some cores among `n` locations written back. -/
def cleanStashAt (s : State) (cores : Nat → Bool) (loc n : Nat) : State :=
  { s with dirty := s.dirty.filter fun e => !(cores e.core && decide (loc ≤ e.loc ∧ e.loc < loc + n)) }

/-- A release by the moving hart, which at sys scope writes back every dirty stash byte of its core before it takes effect
(R292). -/
def releaseTo (s : State) (sys : Bool) : State := if sys then cleanStash s (coreOf s.cur) else s

/-- The dirty bytes of the stash lines of one key index written back (R454). -/
def cleanStashKey (s : State) (k : BitVec 10) : State :=
  { s with dirty := s.dirty.filter fun e => e.key != some k }

/-- Memory as it stands behind the caches: without what stash lines have dirty (R292). -/
def behind (s : State) : State := { s with mem := s.dirty.foldl (fun m e => memPut m e.loc e.held) s.mem }

/-! ### What hangs on a write to memory -/

/-- The links of every hart on the granules of `n` bytes at `loc` cleared (R133, R263). `keep`: the hart whose own
vector link set stands, for a VSCC. A hart's own atomic clears as a store does; DESIGN CHOICE, log 59. -/
def clearLinks (s : State) (loc n : Nat) (keep : Option Nat) : State :=
  let hit := fun g => decide (loc / 64 ≤ g ∧ g ≤ (loc + n - 1) / 64)
  { s with harts := s.harts.map fun (i, h) =>
      (i, { h with
        link := match h.link with
          | some l => if hit l.granule then none else some l
          | none => none,
        vec := if keep = some i then h.vec
               else { h.vec with vlinks := h.vec.vlinks.filter fun l => !hit l.granule } }) }

/-- Poison marks after a write of `n` bytes at `loc`: a whole word of good data clears its mark (R408). -/
def clearMarks (s : State) (loc n : Nat) : State :=
  if s.marks.isEmpty then s
  else { s with marks := s.marks.filter fun w => !decide (loc ≤ 4 * w ∧ 4 * w + 4 ≤ loc + n) }

/-- The words that hold `n` bytes at `loc` marked as poison (R408). -/
def poisonRange (s : State) (loc n : Nat) : State :=
  { s with marks := (upTo (loc / 4) ((loc + n + 3) / 4 - loc / 4)).foldl (fun m w => insertNat w m) s.marks }

/-- Whether any of `n` bytes at `loc` lies in a marked word, or in a block that a dark die backed (R408, R442). -/
def marked (s : State) (loc n : Nat) : Bool :=
  s.marks.any (fun w => decide (4 * w < loc + n ∧ loc < 4 * w + 4)) || blockDark s loc

/-- The cells of a range of one memory put at another base of a second, replacing what was there. -/
def copyFrom (old m : List Host.Cell) (src dst n : Nat) : List Host.Cell :=
  let keep := m.filter fun c => !decide (dst ≤ c.1 ∧ c.1 < dst + n)
  (old.filter fun c => decide (src ≤ c.1 ∧ c.1 < src + n)).foldl (fun acc c => memIns acc (dst + (c.1 - src)) c.2) keep

/-- The cells of a range copied to another base. -/
def copyRange (m : List Host.Cell) (src dst n : Nat) : List Host.Cell := copyFrom m m src dst n

/-- Blocks of device memory: 2.5 TiB ÷ 64 KiB (R451). -/
def blockCount : Nat := devMemEnd / 65536

/-- Of `n` lines from a host physical address on, those before the first that the host completes with an error: what of them
the stream writes before it ends. That it writes them in ascending order is a DESIGN CHOICE, log 37 (R456). -/
def linesTaken (a n : Nat) : Nat := (findUp (fun l => Config.hostError (a + 64 * l)) 0 n).getD n

/-- `m` of `n` lines streamed to the host address `a`: a line that it completes with an error ends the stream (R456). -/
def streamed (s : State) (a m n : Nat) (bytes : Nat) : State :=
  let t := clearLinks { s with ckDone := s.ckDone + bytes } (hostBase + a) bytes none
  if m < n then { t with ckState := 3, ckError := true } else t

/-- The block map streamed after the last block, with which the stream is done. Its bytes are `Config.blockMap`, log 37 (R456). -/
def streamMap (s : State) : State :=
  let all := Config.blockMap s.backing s.hdmsize (s.owners.map fun r => (r.first, r.count, r.word))
  let a := s.ckAddr.toNat + devMemEnd
  let n := cdiv all.length 64
  let m := linesTaken a n
  let bytes := all.take (64 * m)
  streamed { rawPut s (hostBase + a) bytes with ckState := 3 } a m n bytes.length

/-- The first block not yet streamed moved on past those that have been; with none left the block map follows, and the
stream is done (R455, R456). -/
def advanceCk : Nat → State → State
  | 0, s => s
  | n + 1, s =>
    if s.ckBlocks.contains s.ckNext then
      advanceCk n { s with ckNext := s.ckNext + 1, ckBlocks := s.ckBlocks.filter (· != s.ckNext) }
    else if blockCount ≤ s.ckNext then streamMap s else s

/-- The stored bytes of the first `n` lines of a block at another base: a line that was written under a key stands encrypted (R453,
R456). -/
def copyStored (s : State) (block dst n : Nat) : State :=
  let t := { s with mem := copyFrom (behind s).mem s.mem (block * 65536) dst (64 * n) }
  let coded := s.lineKeys.filter fun e => e.2.isSome && decide (block * 1024 ≤ e.1 ∧ e.1 < block * 1024 + n)
  coded.foldl (fun t e => rawPut t (dst + 64 * (e.1 - block * 1024)) (leBytes 64 (lineUnder (behind s) e.1 none))) t

/-- One block streamed by the checkpoint to the host, as stored (R456). -/
def streamBlock (s : State) (block : Nat) : State :=
  if s.ckState = 2 ∧ block < blockCount ∧ ¬ s.ckBlocks.contains block ∧ s.ckNext ≤ block then
    let a := s.ckAddr.toNat + block * 65536
    let m := linesTaken a 1024
    let s := streamed (copyStored s block (hostBase + a) m) a m 1024 (64 * m)
    if m < 1024 then s
    else
      let s := { s with ckBlocks := block :: s.ckBlocks }
      advanceCk (s.ckBlocks.length + 1) s
  else s

/-- Copy before write: the blocks that a write touches are streamed first (R456). -/
def beforeWrite (s : State) (loc n : Nat) : State :=
  if s.ckState = 2 ∧ isLocalMem loc then streamBlock (streamBlock s (loc / 65536)) ((loc + n - 1) / 65536) else s

/-- Bytes that hardware stores under a key: copied before write, its lines recalled and decrypted, links cleared (R133);
nothing is written to a block of a dark die (R442). -/
def putUnder (s : State) (loc : Nat) (k : Option (BitVec 512)) (bytes : List Byte) : State :=
  let n := bytes.length
  if blockDark s loc then s
  else clearLinks (rawPut (rekeyLine (beforeWrite (recallLines s none none loc n) loc n) k (loc / 64)) loc bytes) loc n none

/-- The location of a virtual address inside a bound range, given the locations of its 4 KiB pages (R322). -/
def boundLoc (base : Nat) (pages : List Nat) (va : Nat) : Option Nat :=
  match pages[va / 4096 - base / 4096]? with
  | some p => some (p + va % 4096)
  | none => none

/-- Geometry of a key-cache slot (R320, R321). -/
def kcP (g : W) : Nat := fld g 0 13
def kcD (g : W) : Nat := fld g 16 9
def kcNP (g : W) : Nat := fld g 32 20
def kcFmt (g : W) : Nat := fld g 52 4
def kcKw (g : W) : Nat := if kcFmt g = 8 then 2 else 1
def kcPB (g : W) : Nat := kcP g * kcD g * kcKw g
def kcRS (g : W) : Nat := cdiv (8 * kcD g) 64 * 64

/-- A record channel after one key value (R324): the new minimum and maximum, FP32. -/
def rimeWiden (mn mx k : Nat) (fmt : Nat) : Nat × Nat :=
  let v := readNum fmt k
  if v = .nan ∨ (mn = 0x7FC00000 ∧ mx = 0x7FC00000) then (0x7FC00000, 0x7FC00000)
  else
    ((writeFlt 10 0 false (minNum (readFlt 10 mn) v)).1, (writeFlt 10 0 false (maxNum (readFlt 10 mx) v)).1)

/-- One key element's record updated after a write to it (R324). `e` is the element's number in the key range. -/
def rimeElem (s : State) (kb rb geo : W) (b : KeyBind) (e : Nat) : State :=
  let D := kcD geo
  let kw := kcKw geo
  let c := e % D
  let r := rb.toNat + e / D / kcP geo * kcRS geo + 4 * c
  let va := kb.toNat + e * kw
  match boundLoc kb.toNat b.keys va, boundLoc rb.toNat b.rimes r, boundLoc rb.toNat b.rimes (r + 4 * D) with
  | some kl, some lo, some hi =>
    let kk := (b.keyEnc[va / 4096 - kb.toNat / 4096]?).getD none
    let rk (a : Nat) := (b.rimeEnc[a / 4096 - rb.toNat / 4096]?).getD none
    let k := readKey s kl kw (keyOf s ⟨kl, 0, kk, none⟩)
    let k1 := keyOf s ⟨lo, 0, rk r, none⟩
    let k2 := keyOf s ⟨hi, 0, rk (r + 4 * D), none⟩
    let (mn, mx) := rimeWiden (readKey s lo 4 k1) (readKey s hi 4 k2) k (kcFmt geo)
    putUnder (putUnder s lo k1 (leBytes 4 mn)) hi k2 (leBytes 4 mx)
  | _, _, _ => s

/-- The key elements of a bound range that `n` bytes at `loc` touch (R324). -/
def rimeTouched (kb geo : W) (b : KeyBind) (loc n : Nat) : List Nat :=
  let total := kcNP geo * kcP geo * kcD geo
  let kw := kcKw geo
  let offs := (upTo loc n).flatMap fun a =>
    (upTo 0 b.keys.length).filterMap fun i =>
      if b.keys[i]? = some (a / 4096 * 4096) then
        let va := (kb.toNat / 4096 + i) * 4096 + a % 4096
        if kb.toNat ≤ va ∧ va < kb.toNat + total * kw then some ((va - kb.toNat) / kw) else none
      else none
  dedup offs

/-- The bound key-cache slots of every context: base, rime base, geometry and binding (R320, R322). -/
def boundSlots (s : State) : List (W × W × W × KeyBind) :=
  s.contexts.flatMap fun (_, c) =>
    (upTo 0 4).filterMap fun n =>
      match c.kcbind.get none n with
      | some b => if kcNP (c.kcgeom.get 0 n) = 0 then none else some (c.kcbase.get 0 n, c.kcrime.get 0 n, c.kcgeom.get 0 n, b)
      | none => none

/-- Every rime record that a write of `n` bytes at `loc` widens (R324). -/
def rimeUpdate (s : State) (loc n : Nat) : State :=
  (boundSlots s).foldl (fun s (kb, rb, geo, b) =>
    (rimeTouched kb geo b loc n).foldl (fun s e => rimeElem s kb rb geo b e) s) s

/-- Whether `n` bytes at `loc` touch a bound rime range (R326). -/
def inRime (s : State) (loc n : Nat) : Bool :=
  (boundSlots s).any fun (_, rb, geo, b) =>
    (upTo loc n).any fun a =>
      (upTo 0 b.rimes.length).any fun i =>
        b.rimes[i]? == some (a / 4096 * 4096) &&
          (let va := (rb.toNat / 4096 + i) * 4096 + a % 4096
           decide (rb.toNat ≤ va ∧ va < rb.toNat + kcNP geo * kcRS geo))

/-- Whether `n` bytes at `loc` touch a live barrier slot (R353). -/
def inLive (s : State) (loc n : Nat) : Bool :=
  s.live.any (fun l => decide (l.loc < loc + n ∧ loc < l.loc + 16)) ||
    (decide (remoteBase ≤ loc ∧ loc < padBase) && Config.remoteLive loc)

/-- A request to a remote home device kept until it is acknowledged (R444). -/
def sendRemote (s : State) (loc : Nat) : State :=
  if remoteBase ≤ loc ∧ loc < padBase then
    let d := (loc - remoteBase) / 2 ^ 42
    let up := s.routes.get 0 d &&& s.ports
    { s with outbox := s.outbox ++ [⟨s.fresh, d, ctz 16 up.toNat⟩], fresh := s.fresh + 1 }
  else s

/-- `bytes` stored at a place: recalled stash lines, copied before write, decrypted lines, links, marks and rime records.
Nothing is written to a block of a dark die (R442), nor to one that moves from a dark die's slot by write protection: such a
write is lost and not held for the new slot (R246); DESIGN CHOICE, log 18. -/
def storeAt (s : State) (p : Phys) (bytes : List Byte) (keep : Option Nat) : State :=
  let n := bytes.length
  if n = 0 ∨ blockDark s p.loc then s
  else
    let s := beforeWrite (recallLines s p.via p.key p.loc n) p.loc n
    let k := keyOf s p
    let s := if s.lineKeys.isEmpty && k.isNone then s
             else rekeyLine (rekeyLine s k (p.loc / 64)) k ((p.loc + n - 1) / 64)
    let s := rawPut (soil s p.via p.key p.loc n) p.loc bytes
    let s := clearMarks (clearLinks s p.loc n keep) p.loc n
    sendRemote (rimeUpdate s p.loc n) p.loc

/-- Bytes copied with their poison: where they are poisoned the words that they go to are marked (R408). -/
def copyAt (s : State) (p : Phys) (bytes : List Byte) (poisoned : Bool) : State :=
  let t := storeAt s p bytes none
  if poisoned && !blockDark s p.loc then poisonRange t p.loc bytes.length else t

/-- The number that `n` bytes at a place hold. -/
def loadAt (s : State) (p : Phys) (n : Nat) : Nat := readKey s p.loc n (keyOf s p)

/-- Bytes written by a walker, as plaintext (R453). -/
def hwWrite (s : State) (loc : Nat) (bytes : List Byte) : State := putUnder s loc none bytes

/-! ### Translation -/

/-- A cause of an access or an instruction: its code and its TVAL (R59, R398). -/
structure Cause where
  code : Nat
  tval : W
deriving DecidableEq, Repr

/-- The kind of an access (R237). -/
inductive Kind where
  | fetch | load | store
  /-- An atomic: a store that also needs R. -/
  | amo
deriving DecidableEq, Repr

/-- Whether an access writes, and whether it needs R (R237). -/
def Kind.isStore : Kind → Bool
  | .store => true
  | .amo => true
  | _ => false

/-- Who accesses: the moving loop context's scalar side, its vector side, or an engine for it. -/
inductive Party where
  | scalar | vector | engine
  /-- A binding (R322): it translates, and looks at what it finds only once every page is translated. -/
  | binding
deriving DecidableEq, Repr

/-- The page-fault code of a kind (R237). -/
def pageFault : Kind → Nat
  | .fetch => 0x0C
  | .load => 0x0D
  | .store => 0x0E
  | .amo => 0x0E

/-- The index of a virtual address at a level (R236). -/
def vaIndex (va : W) : Nat → Nat
  | 0 => fld va 48 8
  | 1 => fld va 39 9
  | 2 => fld va 30 9
  | 3 => fld va 21 9
  | _ => fld va 12 9

/-- The level of the leaf of a SIZE, and the page size (R236). -/
def leafLevel : Nat → Nat
  | 0 => 4 | 1 => 4 | 2 => 4 | 3 => 3 | 4 => 3 | 5 => 2 | _ => 2
def pageSize : Nat → Nat
  | 0 => 2 ^ 12 | 1 => 2 ^ 14 | 2 => 2 ^ 16 | 3 => 2 ^ 21 | 4 => 2 ^ 25 | 5 => 2 ^ 30 | _ => 2 ^ 34

/-- A leaf found by a walk: the location of its entry, the entry, and the tables read on the way, by level. -/
structure Leaf where
  at_ : Nat
  pte : W
  path : List (Nat × Nat)
deriving DecidableEq, Repr

/-- Entries of a run, by the SIZE of its leaf (R236). -/
def runLength : Nat → Nat
  | 1 => 4
  | 2 => 16
  | 4 => 16
  | 6 => 16
  | _ => 1

/-- The entry that a walk reads at index `i` of the table at `t`, with its location: its own, or where the run holds a
leaf in its entry `run`, that one (R236). A walker reads as plaintext whatever key the line was written under (R453), and an
entry in a poisoned word or a dark block counts with the value held; DESIGN CHOICE, log 18. -/
def walkEntry (s : State) (lev t i : Nat) (run : Option Nat) : Nat × W :=
  let own := (t + 8 * i) % 2 ^ 42
  let read (off : Nat) : W := BitVec.ofNat 64 (readKey s off 8 none)
  match run with
  | none => (own, read own)
  | some j =>
    let n := i / 16 * 16 + j % 16
    let off := (t + 8 * n) % 2 ^ 42
    let e := read off
    let size := fld e 9 3
    if bit e 0 && fld e 1 3 != 0 && leafLevel size == lev && size != 7 && n / runLength size == i / runLength size then (off, e)
    else (own, read own)

/-- The walk from level `lev` with table base `t` (R237), with `fuel` levels left. A walk through an entry inside a live barrier slot
is not refused: R353 lists loads, stores, atomics, STMAP and transfers, and no walker; DESIGN CHOICE, log 59. -/
def walk (s : State) (ctx priv : Nat) (k : Kind) (va : W) (run : Option Nat) : Nat → Nat → Nat → Except Nat Leaf
  | 0, _, _ => .error (pageFault k)
  | fuel + 1, lev, t =>
    let a := t + 8 * vaIndex va lev
    if a / 2 ^ 42 ≠ s.devid.toNat ∨ devMemEnd ≤ a % 2 ^ 42 then .error (pageFault k)
    else if !ownerOk s ctx priv (a % 2 ^ 42) then .error 0x0F
    else
      let (off, e) := walkEntry s lev t (vaIndex va lev) run
      if !bit e 0 then .error (pageFault k)
      else if fld e 1 3 = 0 then
        if lev = 4 ∨ setFld (setFld e 12 40 0) 0 1 0 ≠ 0 then .error (pageFault k)
        else
          match walk s ctx priv k va run fuel (lev + 1) (fld e 12 40 * 4096) with
          | .error c => .error c
          | .ok l => .ok { l with path := (lev + 1, fld e 12 40 * 4096) :: l.path }
      else
        let size := fld e 9 3
        if size = 7 ∨ leafLevel size ≠ lev ∨ fld e 52 2 = 3 ∨ (bit e 2 && !bit e 1) ∨
            fld e 12 40 * 4096 % pageSize size ≠ 0 then .error (pageFault k)
        else .ok ⟨off, e, []⟩

/-- The lowest bit of the index that chooses a table of level `lev` (R236). -/
def tableShift : Nat → Nat
  | 1 => 48
  | 2 => 39
  | 3 => 30
  | _ => 21

/-- Whether a held entry covers an address: the page of its leaf does, or the walk of the address reads its table. -/
def TlbEntry.covers (e : TlbEntry) (va : W) : Bool :=
  match e.leaf with
  | some pte => va.toNat / pageSize (fld pte 9 3) == e.va.toNat / pageSize (fld pte 9 3)
  | none => va.toNat / 2 ^ tableShift e.lev == e.va.toNat / 2 ^ tableShift e.lev

/-- Whether a held entry serves an access to `va` under an ATP: a global leaf serves every address space, any other
entry those of its own tags, and none a hart whose generation is not current (R240). -/
def TlbEntry.serves (s : State) (atp : W) (e : TlbEntry) (va : W) : Bool :=
  e.covers va && (s.gens.get 0 (fld atp 0 12)).toNat == fld atp 55 8 &&
    ((e.leaf.any fun pte => bit pte 5) || (e.asid.toNat == fld atp 0 12 && e.gen.toNat == fld atp 55 8))

/-- Whether a leaf refuses the access (R237). -/
def leafRefuses (priv : Nat) (k : Kind) (e : W) : Bool :=
  (priv == 0 && !bit e 4) ||
    (match k with
     | .fetch => !bit e 3 || (bit e 4 && priv == 1)
     | .load => !bit e 1
     | .store => !bit e 2
     | .amo => !bit e 2 || !bit e 1)

/-- The leaf after the walker has set A, and D for a store (R239). -/
def walkerMarks (k : Kind) (e : W) : W :=
  let e := setBit e 6 true
  if k.isStore then setBit e 7 true else e

/-- How an access finds its leaf: by a new walk, from a held entry that serves it, or from the translation that its own
instruction or transfer has made of the page (R242). A leaf that is held has A set, and serves a store only with D set
(R239). -/
inductive Found where
  | held (l : Leaf)
  | walked (l : Leaf)
  | pinned (l : Leaf)

/-- The translation of an address that the access in hand has already made (R242). -/
def pinnedLeaf (s : State) (k : Kind) (va : W) : Option Leaf :=
  (s.pin.getD []).findSome? fun e =>
    match e.leaf with
    | some pte => if e.covers va && (!k.isStore || bit pte 7) then some ⟨e.base, pte, []⟩ else none
    | none => none

/-- The leaf of an access under an ATP that enables translation (R237, R239, R240). -/
def findLeaf (s : State) (ctx priv : Nat) (k : Kind) (va atp : W) : Except Nat Found :=
  let fresh (run : Option Nat) (fuel lev t : Nat) : Except Nat Found :=
    match walk s ctx priv k va run fuel lev t with
    | .error c => .error c
    | .ok l => .ok (.walked l)
  let root := fld atp 12 40 * 4096
  match pinnedLeaf s k va with
  | some l => .ok (.pinned l)
  | none =>
  match s.uses.head? with
  | some (.held n) =>
    (match s.tlb[n]? with
     | some e =>
       if e.serves s atp va then
         match e.leaf with
         | some pte => if k.isStore && !bit pte 7 then fresh none 5 0 root else .ok (.held ⟨e.base, pte, []⟩)
         | none => fresh none (5 - e.lev) e.lev e.base
       else fresh none 5 0 root
     | none => fresh none 5 0 root)
  | some (.walk run) => fresh run 5 0 root
  | none => fresh none 5 0 root

def Found.leaf : Found → Leaf
  | .held l => l
  | .walked l => l
  | .pinned l => l

/-- An entry kept, unless it is there. -/
def addTlb (t : List TlbEntry) (e : TlbEntry) : List TlbEntry := if t.contains e then t else e :: t

/-- An entry of a walk of `va` under an ATP. -/
def tlbEntry (va atp : W) (lev base : Nat) (leaf : Option W) : TlbEntry :=
  ⟨BitVec.ofNat 12 (fld atp 0 12), BitVec.ofNat 8 (fld atp 55 8), va, lev, base, leaf⟩

/-- What a walk leaves in TLBs and walk caches: the leaf as the walker marked it, and the tables on the way (R240). -/
def holdWalk (s : State) (va atp : W) (l : Leaf) (pte : W) : State :=
  let t := l.path.foldl (fun t (lev, base) => addTlb t (tlbEntry va atp lev base none)) s.tlb
  { s with tlb := addTlb t (tlbEntry va atp 0 l.at_ (some pte)) }

/-- A translation kept for the rest of an access that translates once for each page (R242). -/
def pinLeaf (s : State) (va atp : W) (base : Nat) (pte : W) : State :=
  match s.pin with
  | none => s
  | some l => { s with pin := some (tlbEntry va atp 0 base (some pte) :: l) }

/-- The state after an access used a leaf: the walker's marks are set where a walk found them clear, and what was
walked is held. -/
def useLeaf (s : State) (k : Kind) (va atp : W) (f : Found) : State :=
  match f with
  | .pinned _ => s
  | .held l => pinLeaf { s with uses := s.uses.tail } va atp l.at_ l.pte
  | .walked l =>
    let s := { s with uses := s.uses.tail }
    let e := walkerMarks k l.pte
    pinLeaf (holdWalk (if e = l.pte then s else hwWrite s l.at_ (leBytes 8 e.toNat)) va atp l e) va atp l.at_ e

/-- Parties that no memory type stops, nor the device registers (R233, R237). -/
def Party.anyType (p : Party) : Bool := p == .scalar || p == .binding

/-- Where a physical address leads, or the code of its cause (R233, R444, R445, R449). -/
def paPlace (s : State) (party : Party) (priv : Nat) (pa : Nat) : Except Nat Nat :=
  let off := pa % 2 ^ 42
  if pa / 2 ^ 42 = s.devid.toNat then
    if off < devMemEnd then .ok off
    else if off < hostWin then .error 0x0B
    else if off < devRegs then
      let a := fld s.hwbase 30 22 * 2 ^ 30 + (off - hostWin)
      if party ≠ .binding ∧ Config.hostError a = true then .error 0x0F else .ok (hostBase + a)
    else if party.anyType then .ok off else .error 0x0F
  else if party = .binding then .ok (remoteBase + pa)
  else if devMemEnd ≤ off then .error 0x0B
  else if s.routes.get 0 (pa / 2 ^ 42) &&& s.ports = 0 then .error 0x0B
  else if priv ≠ 2 ∧ !Config.remoteShared (pa / 65536) then .error 0x0F
  else .ok (remoteBase + pa)

/-- Whether `va` lies in the local window (R230). -/
def inWindow (va : W) : Bool := fld va 24 40 == 2 ^ 40 - 1

/-- The scratchpad bytes of a core (R229). -/
def padSize (c : CoreSt) : Nat := (c.scrSize + c.lent) * 131072

/-- An access of `w` bytes through the local window of a hart (R230, R231). -/
def windowPlace (s : State) (hart : Nat) (k : Kind) (va : W) (w : Nat) : Except Nat Phys :=
  let lwin := (s.hart hart).lwin
  let off := fld va 0 24
  if fld lwin 16 10 * 4096 < off + w then .error 0x0F
  else
    let b := fld lwin 0 10 * 4096 + off
    let core := coreOf hart
    if padSize (s.core core) < b + w then .error 0x0B
    else match s.stash.find? (fun e => e.1 == core * 2 ^ 16 + b / 64) with
      | none => .ok ⟨padLoc core b, 0, none, none⟩
      | some (_, l) =>
        if (if k.isStore then !l.write || (k == .amo && !l.read) else !l.read) then .error 0x0F
        else .ok ⟨l.loc + b % 64, 0, l.key, some core⟩

/-- The checks that follow translation: a loaded key for every place, and in memory owner, live barrier slot and rime range (R326,
R353, R452, R453). A binding meets them in the memory of its own device alone. -/
def placeOk (s : State) (ctx priv : Nat) (party : Party) (k : Kind) (p : Phys) (w : Nat) : Bool :=
  (party == .binding && !isLocalMem p.loc) ||
    ((match p.key with
      | none => true
      | some i => (keyFor s p.loc i).isSome) &&
     (isDevReg p.loc || (ownerOk s ctx priv p.loc && !inLive s p.loc w && !(k.isStore && inRime s p.loc w))))

/-- The state with another ATP in a context, for an access that is made under it (R234). -/
def withAtp (s : State) (ctx : Nat) (atp : W) : State :=
  let k := s.ctx ctx
  if k.atp = atp then s else s.setCtx ctx { k with atp := atp }

/-- The result of translation: the place, and the state after the walker's marks. -/
structure Placed where
  phys : Phys
  st : State

/-- An access of `w` bytes to `va` by a party of a hart that runs context `ctx` at level `priv` (R237). -/
def xlate (s : State) (hart ctx priv : Nat) (party : Party) (k : Kind) (va : W) (w : Nat) : Except Cause Placed :=
  let bad (c : Nat) : Except Cause Placed := .error ⟨c, va⟩
  if !canonical va then bad 0x0B
  else if inWindow va then
    match windowPlace s hart k va w with
    | .error c => bad c
    | .ok p => if placeOk s ctx priv party k p w then .ok ⟨p, recallLines s p.via p.key p.loc w⟩ else bad 0x0F
  else
    let atp := (s.ctx ctx).atp
    if priv = 2 ∨ !bit atp 63 then
      if fld va 52 12 ≠ 0 then bad 0x0B
      else match paPlace s party priv va.toNat with
        | .error c => bad c
        | .ok loc =>
          let p : Phys := ⟨loc, if isDevReg loc then 2 else 0, none, none⟩
          if placeOk s ctx priv party k p w then .ok ⟨p, recallLines s none none loc w⟩ else bad 0x0F
    else match findLeaf s ctx priv k va atp with
      | .error c => bad c
      | .ok f =>
        let l := f.leaf
        if leafRefuses priv k l.pte then bad 0x0F
        else
          let size := pageSize (fld l.pte 9 3)
          match paPlace s party priv (fld l.pte 12 40 * 4096 + va.toNat % size) with
          | .error c => bad c
          | .ok loc =>
            let mt := fld l.pte 52 2
            let p : Phys := ⟨loc, mt, if bit l.pte 8 then some (BitVec.ofNat 10 (fld l.pte 54 10)) else none, none⟩
            if (party.anyType = false ∧ mt = 2) ∨ !placeOk s ctx priv party k p w then bad 0x0F
            else .ok ⟨p, recallLines (useLeaf s k va atp f) none none loc w⟩

/-- An access by the moving hart at its own level. -/
def xlateMe (s : State) (party : Party) (k : Kind) (va : W) (w : Nat) : Except Cause Placed :=
  xlate s s.cur s.me.ctx s.me.priv party k va w

/-! ### Asynchronous events -/

/-- Whether the timeout of a PARK has passed (R139). -/
def parkLate (s : State) (t0 ticks : W) : Bool := ticks != 0 && decide (ticks.toNat ≤ (s.time - t0).toNat)

/-- A parked hart after a wake event: it keeps the first to come, and of two in one cycle the lower code (R139). -/
def noteWake (s : State) (hart : Nat) (h : Hart) (code : Nat) : Hart :=
  match h.run with
  | .parked gd t0 ticks first =>
    let now := (s.core (coreOf hart)).cycle
    let e := match first with
      | none => (if parkLate s t0 ticks then 0 else code, now)
      | some (c, y) => (if y = now then min c code else c, y)
    { h with run := .parked gd t0 ticks (some e) }
  | _ => h

/-- An event made pending at a hart (R62). A wake of a parked hart follows from it (R139). -/
def post (s : State) (hart : Nat) (code : Nat) (tval : W) : State :=
  let h := s.hart hart
  s.setHart hart (noteWake s hart { h with flt := { h.flt with events := h.flt.events ++ [⟨code, tval⟩] } } 1)

/-- A hart that runs; one parked by PARK runs on at its wake and counts as well (R139); DEDUCED, log 33. -/
def runsNow : Run → Bool
  | .running | .parked _ _ _ _ => true
  | .reset | .idle | .halted => false

/-- The hart that takes causes 0x12 and 0x13: when SVCHART names a halted hart, the running hart of lowest index
(R402). -/
def serviceHart (s : State) : Nat :=
  let n := s.svchart.toNat
  if (s.hart n).run = .halted then
    match s.harts.find? (fun e => decide (e.1 < 2048) && runsNow e.2.run) with
    | some e => e.1
    | none => n
  else n

/-- A unit report, cause 0x12 (R398). -/
def unitReport (s : State) (retired : Bool) (kind index : Nat) : State :=
  post s (serviceHart s) 0x12 (BitVec.ofNat 64 ((if retired then 65536 else 0) + kind % 16 * 4096 + index % 4096))

/-- A hart halt or a lost context, cause 0x13 (R398, R414). -/
def haltReport (s : State) (hart : Nat) (lost : Bool) : State :=
  post s (serviceHart s) 0x13 (BitVec.ofNat 64 (hartOf hart + if lost then 2048 else 0))

/-- A loop context that executes nothing more until package reset (R63). -/
def Hart.halt (h : Hart) : Hart := { h with run := .halted, queue := [] }

/-- The other loop contexts of a divided hart stopped with it (R63, R176). -/
def stopLoops (s : State) (hart : Nat) : State :=
  { s with harts := s.harts.map fun (m, x) => (m, if m ≠ hart ∧ hartOf m = hartOf hart then x.halt else x) }

/-- A hart stopped until package reset (R63), with the report of R414. -/
def stopHart (s : State) (hart : Nat) (lost : Bool) : State :=
  haltReport (stopLoops (s.setHart hart (s.hart hart).halt) hart) hart lost

/-! ### Taking a trap -/

/-- The vector side stopped and its registers recorded (R401, R402): the queue becomes the saved queue. With
nothing queued and nothing to report, no register changes. -/
def stopVector (h : Hart) (f : Option VFault) : Hart :=
  match f, h.queue with
  | none, [] => h
  | _, q =>
    let (kind, pos, rix, hints) := match f with
      | none => (1, 127, 0, [])
      | some v => (v.kind, v.pos, v.rix, v.hints.take 15)
    { h with
      queue := [],
      flt := { h.flt with
        saved := q,
        vfstat := BitVec.ofNat 64 (hints.length * 4096 + kind * 256 + if q.isEmpty then 0 else 1),
        rix := BitVec.ofNat 64 (rix % 2 ^ 32),
        vqpos := BitVec.ofNat 64 (pos * 256 + q.length),
        fhint := (upTo 0 hints.length).zip hints } }

/-- CAUSE or FCAUSE (R51). -/
def causeWord (async dbl : Bool) (code : Nat) : W :=
  BitVec.ofNat 64 ((if async then 2 ^ 63 else 0) + (if dbl then 2 ^ 62 else 0) + code)

/-- Kernel trap entry (R61). -/
def enterKernel (h : Hart) (async : Bool) (code : Nat) (epc tval : W) : Hart :=
  let st := h.trap.stat
  let st' := setFld (setBit (setBit (setBit (setFld st 2 2 (fld st 0 2)) 5 (bit st 4)) 4 false) 7 true) 0 2 1
  { h with trap := { h.trap with epc := epc, cause := causeWord async false code, tval := tval, stat := st' },
           pc := h.trap.tbase }

/-- Firmware trap entry (R62). -/
def enterFirmware (h : Hart) (async dbl : Bool) (code : Nat) (epc tval : W) : Hart :=
  let st := h.trap.stat
  let st' := setFld (setBit (setBit (setBit (setFld st 12 2 (fld st 0 2)) 14 (bit st 4)) 4 false) 15 true) 0 2 2
  { h with trap := { h.trap with fepc := epc, fcause := causeWord async dbl (if dbl then 1 else code),
                                 ftval := tval, stat := st' },
           pc := h.trap.ftbase }

/-- The moving hart takes a trap or an event (R61 to R63, R133, R263, R401): its vector side stops, its links are
cleared, and it enters the kernel, or firmware, or stops. -/
def takeTrap (s : State) (async : Bool) (code : Nat) (epc tval : W) (f : Option VFault) : State :=
  let h := stopVector s.me f
  let h := { h with link := none, vec := { h.vec with vlinks := [] } }
  if h.priv = 2 then
    if !async && bit h.trap.stat 15 then stopHart (s.setMe h) s.cur false
    else s.setMe (enterFirmware h async false code epc tval)
  else if !async && bit h.trap.stat 7 then s.setMe (enterFirmware h false true code epc tval)
  else s.setMe (enterKernel h async code epc tval)

/-- A precise synchronous trap of the instruction at PC (R59). -/
def trapAt (s : State) (c : Cause) : State := takeTrap s false c.code s.me.pc c.tval none

/-- Illegal instruction: TVAL holds the instruction word (R59). -/
def illegalAt (s : State) : State := trapAt s ⟨0x02, s.me.ir.setWidth 64⟩

/-- Whether a pending asynchronous event may be taken at this boundary (R62). -/
def eventOpen (h : Hart) : Bool :=
  bit h.trap.stat 4 && (if h.priv = 2 then !bit h.trap.stat 15 else !bit h.trap.stat 7)

/-- Return from a trap (R64); none at user level. -/
def eretRegs (h : Hart) : Option Hart :=
  let st := h.trap.stat
  if h.priv = 2 then
    some { h with pc := h.trap.fepc,
                  trap := { h.trap with stat := setBit (setBit (setFld st 0 2 (fld st 12 2)) 4 (bit st 14)) 15 false } }
  else if h.priv = 1 then
    some { h with pc := h.trap.epc,
                  trap := { h.trap with stat := setBit (setBit (setFld st 0 2 (fld st 2 2)) 4 (bit st 5)) 7 false } }
  else none

end Sys2Proof.Machine
end

