-- ==== Sys2Proof/Machine/Operands.lean ====
section
/-! DEFINITION. How a scalar instruction issues (R59, R172, R409): it waits for g registers that commands or
transfers still have to write, then completes, or takes its trap with no effect. -/

namespace Sys2Proof.Machine

/-- How the effect of an instruction ends. -/
inductive Res where
  | ok (s : State)
  | trap (c : Cause)
  /-- The instruction has to wait: nothing happens yet. -/
  | wait
  | stop (f : Fault)

/-- Registers `lo` to `lo + n - 1`. -/
def gSpan (lo : BitVec 5) (n : Nat) : List Nat := upTo lo.toNat n

/-- The last register of a transfer's descriptor is D4 when BAR or TSK is 1, else D3 (R371). -/
def descRegs (f : FE) : List Nat :=
  gSpan f.c (if f.imm.getLsbD 2 = true ∨ f.imm.getLsbD 3 = true then 5 else 4)

/-- The g registers that a vector command writes when it completes, apart from a transfer's completion word
(R172, R375, R386). -/
def gWrites : Instr → List Nat
  | .setvl f => [f.a.toNat]
  | .setvlk f => [f.a.toNat]
  | .shape f => [f.a.toNat]
  | .tres f | .tevict f | .tdemote f | .shinit f | .shcom f | .shrel f | .bset f | .barv f | .bwait f | .bexp f
  | .bret f | .tkdef f | .tkdep f | .tksig f | .tkspawn f | .tkfree f | .sfstart f | .sfend f => [f.a.toNat]
  | .stmap f | .dtape f => [f.a.toNat]
  | .cways f | .dmode f | .dmark f | .drest f => [f.a.toNat]
  | .shacq f | .shwait f => gSpan f.a 2
  | .sfnext f => [f.b.toNat, f.a.toNat]
  | .ksel f => [f.c.toNat + 2]
  | .bxg f | .bxc f | .bxsRow f | .bxsStream f => [f.a.toNat]
  | _ => []

/-- Commands that acquire: no later access of their hart comes before theirs (R261, R283, R284, R377, R380). -/
def acquires : Instr → Bool
  | .vamoswap f | .vamoadd f | .vamoand f | .vamoor f | .vamoxor f | .vamomin f | .vamomax f | .vamominu f | .vamomaxu f
  | .vamofadd f | .vgll f | .vscc f => f.aq == 1
  | .shacq _ | .shwait _ | .bwait _ => true
  | _ => false

/-- The queued commands of which something is still to come beside the deposit of a token: one that only owes that has made its
accesses and written its results, and nothing of another unit queue waits for it (R335, R346). -/
def Hart.undone (h : Hart) : List Cmd := h.queue.filter (!·.owes)

/-- A queued acquire of the hart is still to come: its later scalar accesses wait (R284, R286). -/
def acquiring (h : Hart) : Bool := h.queue.any fun c => acquires c.ins

/-- Whether an atomic releases at sys scope (R283, R292). -/
def sysRelease (f : FA) : Bool := f.rl == 1 && f.scope == 4

/-- The g registers whose values are still to come: from queued commands and from transfers in flight. -/
def gBusy (h : Hart) : List Nat := h.gwait ++ h.undone.flatMap fun c => gWrites c.ins

/-- Whether an instruction that reads and writes these g registers must wait (R172). -/
def mustWait (h : Hart) (regs : List Nat) : Bool := (gBusy h).any fun r => r != 0 && regs.contains r

/-- The next hart that runs after hart `n`, in ascending number and round; `n` itself if there is no other. -/
def nextRunning (s : State) (n : Nat) : Nat :=
  let on := (s.harts.filter fun e => e.2.run == .running).map (·.1)
  match on.find? (fun m => decide (n < m)) with
  | some m => m
  | none => on.headD n

/-- An instruction that has to wait: the turn passes to the next running hart (log 3). -/
def stall (s : State) : State := { s with cur := nextRunning s s.cur }

/-- The end of a scalar instruction (R59): a trap leaves every register and byte as it was. -/
def Res.out (s : State) : Res → Out
  | .ok t => .next t
  | .trap c => .next (trapAt s c)
  | .wait => .next (stall s)
  | .stop f => .fault f

/-- A scalar instruction that touches the given g registers. -/
def scalar (s : State) (regs : List Nat) (body : Res) : Out :=
  if mustWait s.me regs then .next (stall s) else body.out s

/-- The illegal-instruction cause of the instruction in hand (R59). -/
def illegalCause (s : State) : Cause := ⟨0x02, s.me.ir.setWidth 64⟩

/-- The poison cause of the scalar instruction in hand (R409). -/
def poisonCause (s : State) : Cause := ⟨0x1A, s.me.ir.setWidth 64⟩

/-- Inside a strip farm, g24 to g31 are read-only (R176). -/
def farmBars (h : Hart) (d : BitVec 5) : Bool := h.farm.isSome && decide (24 ≤ d.toNat)

/-- g[d] := x with the poison of the sources, and PC advances (R41, R43, R176, R409). -/
def writeBack (s : State) (d : BitVec 5) (x : W) (p : Bool) : Res :=
  if farmBars s.me d then .trap (illegalCause s) else .ok (s.setMe ((s.me.wrP d.toNat x p).adv))

end Sys2Proof.Machine
end

