-- ==== Sys2Proof/Machine/Branch.lean ====
section
/-! DEFINITION. Branches and jumps (R125 to R127). A poisoned condition or target is a poison cause (R409). -/

namespace Sys2Proof.Machine

/-- PC + sext(offset) × 4 (R95). -/
def branchTarget (pc : W) {n : Nat} (off : BitVec n) : W := pc + (off.signExtend 64) <<< 2

/-- A branch on a condition of g[a] and g[b] (R125). -/
def branch (cond : W → W → Bool) (f : FI) (s : State) : Out :=
  let h := s.me
  scalar s [f.a.toNat, f.b.toNat]
    (if h.rdP f.a.toNat || h.rdP f.b.toNat then .trap (poisonCause s)
     else .ok (s.setMe
       (if cond (h.rd f.a.toNat) (h.rd f.b.toNat) then { h with pc := branchTarget h.pc f.imm } else h.adv)))

def execBeq (f : FI) (s : State) : Out := branch (fun a b => a == b) f s
def execBne (f : FI) (s : State) : Out := branch (fun a b => a != b) f s
def execBlt (f : FI) (s : State) : Out := branch (fun a b => decide (a.toInt < b.toInt)) f s
def execBge (f : FI) (s : State) : Out := branch (fun a b => decide (b.toInt ≤ a.toInt)) f s
def execBltu (f : FI) (s : State) : Out := branch (fun a b => decide (a.toNat < b.toNat)) f s
def execBgeu (f : FI) (s : State) : Out := branch (fun a b => decide (b.toNat ≤ a.toNat)) f s

/-- g[a] := PC + 4; PC := PC + sext(off17) × 4 (R126). -/
def execJl (f : FU) (s : State) : Out :=
  let h := s.me
  scalar s [f.a.toNat]
    (if farmBars h f.a then .trap (illegalCause s)
     else .ok (s.setMe { h.wr f.a.toNat (h.pc + 4) with pc := branchTarget h.pc f.imm }))

/-- g[a] := PC + 4; PC := g[b] + sext(imm12), which must be a multiple of 4 (R58, R127). Of a g[b] that is poisoned and gives
a misaligned target the poison comes first (R58, R409); DESIGN CHOICE, log 58. -/
def execJlr (f : FI) (s : State) : Out :=
  let h := s.me
  let t := h.rd f.b.toNat + simm f.imm
  scalar s [f.a.toNat, f.b.toNat]
    (if farmBars h f.a then .trap (illegalCause s)
     else if h.rdP f.b.toNat then .trap (poisonCause s)
     else if fld t 0 2 ≠ 0 then .trap ⟨0x04, t⟩
     else .ok (s.setMe { h.wr f.a.toNat (h.pc + 4) with pc := t }))

end Sys2Proof.Machine
end

