-- ==== Sys2Proof/Machine/DevRead.lean ====
section
/-! DEFINITION. What the device registers read (R233, R238): the context control pages (R358) and the device control page
(R455). -/

namespace Sys2Proof.Machine

/-- A task slot of a context (R354). -/
def Context.slot (k : Context) (n : Nat) : TaskSlot := k.slots.get TaskSlot.reset n

def devPage : Nat := 0x3C000000000
def ctxPages : Nat := 0x3C100000000

/-- STATUS of a context control page. -/
def pageStatusWord (k : Context) : W :=
  let st := (k.slot 0).state
  let busy := st == .eligible || st == .ready || st == .running
  BitVec.ofNat 64 ((if busy then 1 else 0) + (k.pageStatus &&& 0x1A#5).toNat + if k.equota = 0 then 4 else 0)

/-- A dword of a context control page. -/
def readCtxPage (k : Context) (o : Nat) : W :=
  match o with
  | 0x008 => pageStatusWord k
  | 0x010 => k.pageEntry
  | 0x018 => k.pageArgs
  | 0x020 => k.pageShape
  | 0x028 => k.sweight
  | 0x030 => k.equota
  | 0x038 => k.erefill
  | 0x040 => k.eperiod
  | 0x048 => k.callot
  | _ => 0

/-- A dword of the device control page. -/
def readDevPage (s : State) (o : Nat) : W :=
  if !s.booted then 0
  else match o with
    | 0x008 => BitVec.ofNat 64 (s.ckState.toNat + if s.ckError then 4 else 0)
    | 0x010 => s.ckAddr
    | 0x018 => s.ckPeer
    | 0x020 => BitVec.ofNat 64 s.ckDone
    | _ => 0

/-- The dword of a device register at an aligned offset; none: no register that the manual describes. -/
def readReg (s : State) (off : Nat) : Option W :=
  if devPage ≤ off ∧ off < devPage + 4096 then some (readDevPage s (off - devPage))
  else if ctxPages ≤ off ∧ off < ctxPages + 4096 * 4096 then
    some (readCtxPage (s.ctx ((off - ctxPages) / 4096)) ((off - ctxPages) % 4096))
  else none

/-- A read of `w` bytes within one dword. -/
def devLoad (s : State) (off w : Nat) : Option Nat := (readReg s (off / 8 * 8)).map fun x => fld x (8 * (off % 8)) (8 * w)

/-- The bytes at a place: memory, or a device register. -/
def placeLoad (s : State) (p : Phys) (w : Nat) : Option Nat :=
  if isDevReg p.loc then devLoad s p.loc w else some (loadAt s p w)

end Sys2Proof.Machine
end

