-- ==== Sys2Proof/Machine/Lanes.lean ====
section
/-! DEFINITION. Elements in lanes (R149 to R154), mask bits (R151), active elements (R178) and the poison of lane
words (R408, R409). -/

namespace Sys2Proof.Machine

/-- The layout of an operand: its element width and its group multiplier (R151, R180). -/
structure Lay where
  sew : Nat
  g : Nat
deriving DecidableEq, Repr

/-- SEW and G of the codes of VSHAPE (R149). -/
def sewOf (c : BitVec 3) : Nat := 4 * 2 ^ c.toNat
def gOf (c : BitVec 2) : Nat := 2 ^ c.toNat

/-- The layout of a group of the current shape. -/
def VecRegs.lay (v : VecRegs) : Lay := ⟨sewOf v.sewc, gOf v.gc⟩

/-- P = 1/2 (R150). -/
def Lay.half (a : Lay) : Bool := a.sew == 64 && a.g == 1

/-- P, when it is at least 1 (R150). -/
def Lay.p (a : Lay) : Nat := 32 * a.g / a.sew

/-- The capacity of a grant (R150). -/
def Lay.cap (a : Lay) (lanes : Nat) : Nat := if a.half then lanes / 2 else lanes * a.p

/-- The capacity of the loop context in its shape. -/
def VecRegs.cap (v : VecRegs) : Nat := v.lay.cap v.lanes

/-- The 32-bit word of a register in a lane. -/
def laneWord (v : VecRegs) (r l : Nat) : Nat := nfld (v.v.get 0 r).toNat (32 * l) 32

/-- The lane words that element `i` of an operand at `b` lies in, low half first (R151). -/
def elemWords (a : Lay) (b i : Nat) : List (Nat × Nat) :=
  if a.half then [(b, 2 * i), (b, 2 * i + 1)]
  else
    let l := i / a.p
    let j := i % a.p
    if a.sew = 64 then [(b + 2 * j, l), (b + 2 * j + 1, l)] else [(b + j / (32 / a.sew), l)]

/-- The lowest bit of an element within its lane word. -/
def elemBit (a : Lay) (i : Nat) : Nat := if a.sew = 64 then 0 else a.sew * (i % a.p % (32 / a.sew))

/-- Element `i` of an operand at register `b` (R151). -/
def elemGet (v : VecRegs) (a : Lay) (b i : Nat) : Nat :=
  match elemWords a b i with
  | [(r, l)] => nfld (laneWord v r l) (elemBit a i) a.sew
  | [(r, l), (r', l')] => laneWord v r l + 2 ^ 32 * laneWord v r' l'
  | _ => 0

/-- Whether element `i` is poisoned (R408). -/
def elemPoison (v : VecRegs) (a : Lay) (b i : Nat) : Bool :=
  !v.vpois.isEmpty && (elemWords a b i).any fun (r, l) => (v.vpois.get 0 r).getLsbD l

/-- `n` bits at bit `lo` of one lane word written, and the lane marked as written (R154). A lane outside the grant
holds nothing (R152). -/
def wordPut (v : VecRegs) (r l lo n x : Nat) : VecRegs :=
  if v.lanes ≤ l then v
  else { v with v := v.v.set r (BitVec.ofNat 16384 (nset (v.v.get 0 r).toNat (32 * l + lo) n x)),
                vwr := v.vwr.set r (v.vwr.get 0 r ||| BitVec.ofNat 512 (2 ^ l)) }

/-- Element `i` written, its poison left aside (R151, R153). -/
def elemPut (v : VecRegs) (a : Lay) (b i x : Nat) : VecRegs :=
  match elemWords a b i with
  | [(r, l)] => wordPut v r l (elemBit a i) a.sew x
  | [(r, l), (r', l')] => wordPut (wordPut v r l 0 32 x) r' l' 0 32 (x / 2 ^ 32)
  | _ => v

/-- The poison bit of a lane word replaced. -/
def poisonPut (v : VecRegs) (r l : Nat) (p : Bool) : VecRegs :=
  let w := v.vpois.get 0 r
  let m := BitVec.ofNat 512 (2 ^ l)
  { v with vpois := v.vpois.set r (if p then w ||| m else w &&& ~~~m) }

/-- An element to be written: its number, its value, and whether that is poisoned. -/
structure EWr where
  i : Nat
  x : Nat
  p : Bool
deriving DecidableEq, Repr

/-- The poison of a lane word after an instruction's writes: a word written whole takes the poison of what was
written; one written in part also keeps its own (R408). DEDUCED from the rule for memory words, log 6. -/
def wordPoison (v : VecRegs) (a : Lay) (b : Nat) (ws : List EWr) (r l : Nat) : Bool :=
  let mine := ws.filter fun e => (elemWords a b e.i).contains (r, l)
  mine.any (·.p) || (decide (a.sew < 32) && decide (mine.length < 32 / a.sew) && (v.vpois.get 0 r).getLsbD l)

/-- The elements of one instruction written (R153, R154, R408). -/
def writeElems (v : VecRegs) (a : Lay) (b : Nat) (ws : List EWr) : VecRegs :=
  let w := ws.foldl (fun w e => elemPut w a b e.i e.x) v
  if v.vpois.isEmpty && !ws.any (·.p) then w
  else
    ((ws.flatMap fun e => elemWords a b e.i).eraseDups).foldl
      (fun w (r, l) => poisonPut w r l (wordPoison v a b ws r l)) w

/-! ### Masks -/

/-- The place of the mask bit of element `i` (R151): slot `i mod P` of its lane; for P = 1/2, slot 0 of lane 2i.
DEDUCED, log 7. -/
def maskPos (a : Lay) (i : Nat) : Nat := if a.half then 128 * i else 64 * (i / a.p) + i % a.p

def maskBit (m : MReg) (a : Lay) (i : Nat) : Bool := m.getLsbD (maskPos a i)

def maskSet (m : MReg) (a : Lay) (i : Nat) (b : Bool) : MReg :=
  let k := BitVec.ofNat 32768 (2 ^ maskPos a i)
  if b then m ||| k else m &&& ~~~k

/-- Mask register 0 or 1. -/
def VecRegs.mask (v : VecRegs) (n : Nat) : MReg := if n = 0 then v.m0 else v.m1

def VecRegs.setMask (v : VecRegs) (n : Nat) (m : MReg) : VecRegs := if n = 0 then { v with m0 := m } else { v with m1 := m }

/-- Bits of a mask register written, element number and bit; positions outside the capacity hold nothing (R152). -/
def writeMask (v : VecRegs) (n : Nat) (bs : List (Nat × Bool)) : VecRegs :=
  v.setMask n ((bs.filter fun e => decide (e.1 < v.cap)).foldl (fun m (i, b) => maskSet m v.lay i b) (v.mask n))

/-- Positions set in the poison-position mask (R410). -/
def setPM (v : VecRegs) (is : List Nat) : VecRegs :=
  { v with pm := (is.filter fun i => decide (i < v.cap)).foldl (fun m i => maskSet m v.lay i true) v.pm }

/-- Whether mask code `mk` permits element `i` (R178). -/
def mkPermits (v : VecRegs) (mk : BitVec 2) (i : Nat) : Bool :=
  match mk.toNat with
  | 0 => true
  | 1 => maskBit v.m0 v.lay i
  | 2 => maskBit v.m1 v.lay i
  | _ => !maskBit v.m0 v.lay i

/-- The active elements, ascending (R178). -/
def VecRegs.actives (v : VecRegs) (mk : BitVec 2) : List Nat := (upTo 0 v.vl).filter (mkPermits v mk)

/-! ### Lanes that leave and enter -/

/-- What is left when the lanes from `n` up have left the grant (R152, R154). -/
def dropLanes (v : VecRegs) (n : Nat) : VecRegs :=
  let cut (w : Nat) (x : BitVec w) (k : Nat) : BitVec w := BitVec.ofNat w (x.toNat % 2 ^ k)
  { v with v := v.v.map fun e => (e.1, cut 16384 e.2 (32 * n)),
           vpois := v.vpois.map fun e => (e.1, cut 512 e.2 n),
           vwr := v.vwr.map fun e => (e.1, cut 512 e.2 n),
           m0 := cut 32768 v.m0 (64 * n), m1 := cut 32768 v.m1 (64 * n), pm := cut 32768 v.pm (64 * n) }

end Sys2Proof.Machine
end

