-- ==== Sys2Proof/Machine/Regions.lean ====
section
/-! DEFINITION. Power regions, their limits and neighbours (R427 to R429), and the waking of lane clusters
(R433). -/

namespace Sys2Proof.Machine

/-- Nominal current limit of region `r` of a die, in 1/64 A (R427). -/
def nominal (r : Nat) : Nat :=
  if r < 192 then (match r % 3 with | 0 => 128 | 1 => 736 | _ => 96) else 352

/-- PH: the phases of a region that run (R429). -/
def Region.phases (x : Region) : Nat := 12 - (x.tripped.length + x.lost.length)

/-- ILIM of a region of the device, by 208 × die + region (R429). -/
def ilim (s : State) (i : Nat) : Nat :=
  let x := region s i
  let l := nominal (i % 208) * x.phases / 12
  if x.droop then l / 2 else l

/-- The neighbours of a region of the device (R428). -/
def neighbours (i : Nat) : List Nat :=
  let d := i / 208 * 208
  let r := i % 208
  let rest (lo n : Nat) : List Nat := (upTo lo n).filter (· != r)
  let near :=
    if r < 192 then
      let c := r / 3
      if r % 3 = 1 then
        [3 * c, 3 * c + 2] ++
          ((if 8 ≤ c then [c - 8] else []) ++ (if c % 8 ≠ 0 then [c - 1] else []) ++
            (if c % 8 ≠ 7 then [c + 1] else []) ++ (if c + 8 < 64 then [c + 8] else [])).map (3 * · + 1)
      else rest (3 * c) 3
    else if r < 200 then rest 192 8
    else if r < 204 then rest 200 4
    else rest 204 4
  near.map (d + ·)

/-- The lane region of a core of the device. -/
def laneRegion (core : Nat) : Nat := 208 * (core / 64) + 3 * (core % 64) + 1

/-- The core of a lane region of the device. -/
def coreOfRegion (i : Nat) : Nat := i / 208 * 64 + i % 208 / 3

/-- Every neighbour of a core's lane region has IGOV ≤ 0.85 × ILIM (R433). -/
def neighboursCool (s : State) (core : Nat) : Bool :=
  (neighbours (laneRegion core)).all fun i => decide (100 * (region s i).igov ≤ 85 * ilim s i)

/-- The lane regions among a core's neighbours, by their cores. -/
def neighbourCores (core : Nat) : List Nat :=
  ((neighbours (laneRegion core)).filter fun i => decide (i % 208 < 192 ∧ i % 208 % 3 = 1)).map coreOfRegion

/-- Of two requests of two regions the one that goes first: the earlier, and of two in one cycle that of the lower region
(R433). -/
def wakeFirst (x : Wake) (core : Nat) (y : Wake) (core' : Nat) : Bool :=
  decide (y.age < x.age) || (x.age == y.age && decide (core < core'))

/-- Whether the oldest wake of a core is next: no neighbour has an earlier request that has not finished, and none stages
(R433). -/
def wakeTurn (s : State) (core : Nat) (w : Wake) : Bool :=
  (neighbourCores core).all fun n =>
    (s.core n).wakes.all fun y =>
      (match y.phase with
       | .staging _ => false
       | _ => true) && !wakeFirst y n w core

/-- The oldest wake of a core replaced. -/
def setWake (s : State) (core : Nat) (w : Wake) : State :=
  let c := s.core core
  s.setCore core { c with wakes := w :: c.wakes.tail }

/-- The oldest wake of a core begins to stage if its pace is fixed and it is its turn (R433). -/
def tryStage (s : State) (core : Nat) : State :=
  match (s.core core).wakes with
  | w :: _ =>
    (match w.phase with
     | .turn n => if wakeTurn s core w then setWake s core { w with phase := .staging n } else s
     | _ => s)
  | [] => s

/-- Clusters that a wake in progress will power. -/
def wakingOf (c : CoreSt) : BitVec 16 := c.wakes.foldl (fun a w => a ||| w.clusters) 0

/-- A neighbour of a higher region that asked in this cycle, and has made no step of staging yet, waits again: of requests made
in one cycle the lower region goes first (R433); DEDUCED, log 50. -/
def yieldTo (s : State) (core : Nat) : State :=
  ((neighbourCores core).filter (core < ·)).foldl (fun s n =>
    match (s.core n).wakes with
    | w :: _ => if w.phase = .staging 4 ∧ w.age = 0 then setWake s n { w with phase := .turn 4 } else s
    | [] => s) s

/-- A wake of lane clusters requested (R433): its pace is fixed at once when every neighbour's current allows it. A core's
requests are served in order. -/
def requestWake (s : State) (core : Nat) (clusters : BitVec 16) : State :=
  let c := s.core core
  let new := clusters &&& ~~~c.powered &&& ~~~c.lanedis &&& ~~~(wakingOf c)
  if new = 0 then s
  else
    let w : Wake := ⟨new, s.time, 0, if neighboursCool s core then .turn 4 else .current⟩
    tryStage (yieldTo (s.setCore core { c with wakes := c.wakes ++ [w] }) core) core

/-- The wait for the neighbours' currents is over for those wakes of a core that it is due for: their pace is fixed, and the
oldest may stage (R433). -/
def fixPace (s : State) (core steps : Nat) (due : Wake → Bool) : State :=
  let c := s.core core
  let fix (w : Wake) : Wake := if w.phase = .current ∧ due w = true then { w with phase := .turn steps } else w
  if c.wakes.isEmpty then s else tryStage (s.setCore core { c with wakes := c.wakes.map fix }) core

/-- Whether 20 µs have passed since a wake was requested (R433). -/
def wakeLate (s : State) (w : Wake) : Bool := decide (2000 ≤ (s.time - w.since).toNat)

/-- One staging step of 1 µs; after the last the clusters are powered, and the wakes that waited for this one may stage
(R433). -/
def stageStep (s : State) (core : Nat) : State :=
  let c := s.core core
  match c.wakes with
  | w :: r =>
    (match w.phase with
     | .staging n =>
       if n ≤ 1 then
         let s := s.setCore core { c with wakes := r, powered := c.powered ||| (w.clusters &&& ~~~c.lanedis) }
         (core :: neighbourCores core).foldl tryStage s
       else setWake s core { w with phase := .staging (n - 1) }
     | _ => s)
  | [] => s

/-- Lanes that a core's phases can power at full load (R429). -/
def phaseLanes (s : State) (core : Nat) : Nat := 512 * (region s (laneRegion core)).phases / 12

end Sys2Proof.Machine
end

