-- ==== Sys2Proof/Machine/Grant.lean ====
section
/-! DEFINITION. Fold registers (R160, R161, R188), the bench table and the controller's offer (R155 to R157, R434),
hard shrinks (R163, R164), the grant script (R167 to R170), and the grant step (R159). -/

namespace Sys2Proof.Machine

/-! ### Folds -/

/-- A fold slot: V, REG, OP and the captured format word (R161). -/
def slotV (x : W) : Bool := bit x 15
def slotReg (x : W) : Nat := fld x 8 5
def slotOp (x : W) : Nat := fld x 0 3
def slotFw (x : W) : W := BitVec.ofNat 64 (fld x 32 32)

def VecRegs.fold (v : VecRegs) (n : Nat) : W := v.folds.get 0 n

/-- Storage width of a format in a vector register (R180). -/
def storageWidth (code : Nat) : Nat := if code = 12 then 8 else fmtWidth code

/-- A slot takes part in a fold in the given shape (R188). -/
def slotFolds (a : Lay) (x : W) : Bool :=
  slotV x && slotReg x % a.g == 0 && (slotOp x != 4 || storageWidth (FW.of (slotFw x)).dst == a.sew)

/-- A fold operation on two elements (R160). -/
def foldOp (sew op : Nat) (fw : W) (a b : Nat) : Nat × Flags :=
  match op with
  | 0 => ((a + b) % 2 ^ sew, 0)
  | 1 => (if sInt sew a < sInt sew b then b else a, 0)
  | 2 => (if sInt sew b < sInt sew a then b else a, 0)
  | 3 => (a ||| b, 0)
  | _ =>
    let f := FW.of fw
    let (x, fl) := addNum f.rm (readFlt f.dst a) (readFlt f.dst b)
    let (r, fl') := writeFlt f.dst f.rm f.ovf x
    (r, fl ||| fl')

/-- x[i mod n] := op(x[i mod n], x[i]) for i from `i` on, `k` of them, ascending (R159, R189). -/
def foldRange (a : Lay) (slot : W) (n i k : Nat) (v : VecRegs) : VecRegs × Flags :=
  let b := slotReg slot
  (upTo i k).foldl (fun (v, fl) i =>
    let j := i % n
    let p := elemPoison v a b j || elemPoison v a b i
    let (x, f) := foldOp a.sew (slotOp slot) (slotFw slot) (elemGet v a b j) (elemGet v a b i)
    (writeElems v a b [⟨j, x, p⟩], if p then fl else fl ||| f)) (v, 0)

/-- Every slot that takes part folded from `cold` to `cnew` positions, in ascending slot (R159). -/
def foldAll (v : VecRegs) (cold cnew : Nat) : VecRegs × Flags :=
  (upTo 0 4).foldl (fun (v, fl) n =>
    if slotFolds v.lay (v.fold n) then
      let (w, f) := foldRange v.lay (v.fold n) cnew cnew (cold - cnew) v
      (w, fl ||| f)
    else (v, fl)) (v, 0)

/-- Whether a register belongs to a fold register that takes part (R159, R188). -/
def isFoldReg (v : VecRegs) (r : Nat) : Bool :=
  (upTo 0 4).any fun n =>
    slotFolds v.lay (v.fold n) && decide (slotReg (v.fold n) ≤ r ∧ r < slotReg (v.fold n) + v.lay.g)

/-- GLOSS.MAP: other registers that were written in a lane from `l` to `lp - 1` (R154, R159). -/
def lossMap (v : VecRegs) (l lp : Nat) : Nat :=
  ((upTo 0 32).map fun r =>
    if !isFoldReg v r && (v.vwr.get 0 r).toNat % 2 ^ lp / 2 ^ l != 0 then 2 ^ r else 0).sum

/-- A GLOSS record (R162). -/
def glossWord (map : Nat) (hard : Option Nat) (new old : Nat) : W :=
  BitVec.ofNat 64 (map * 2 ^ 32 + (if hard.isSome then 2 ^ 31 else 0) + min (hard.getD 0) 2047 * 2 ^ 20 + new * 2 ^ 10 + old)

/-! ### The bench table -/

/-- GCAP.LANES (R157). -/
def gcap (c : CoreSt) : Nat := 512 - 32 * popc 16 c.lanedis.toNat

/-- The clusters that a loop context `h` of a core holds, ascending (R155, R176). -/
def heldBy (c : CoreSt) (h : Nat) : List Nat :=
  (upTo 0 16).filter fun k => fld c.bench (4 * k) 4 == 8 + h % 8 && fld c.loops (4 * k) 4 == h / 2048

/-- The loop context that holds a cluster of a core, when one does. -/
def holderOf (c : CoreSt) (core k : Nat) : Nat := 8 * core + fld c.bench (4 * k) 3 + 2048 * fld c.loops (4 * k) 4

/-- The loop contexts of a core: its eight harts, and those that a divided hart has had beside its own (R176). -/
def loopsOf (s : State) (core : Nat) : List Nat :=
  upTo (8 * core) 8 ++ (s.harts.map (·.1)).filter fun n => decide (2048 ≤ n) && coreOf n == core

/-- The free clusters that are not retired. -/
def freeClusters (c : CoreSt) : List Nat :=
  (upTo 0 16).filter fun k => !bit c.bench (4 * k + 3) && !c.lanedis.getLsbD k

/-- One entry of the bench table. A cluster that is taken is powered by a wake of its own (R433). -/
def seatPut (c : CoreSt) (k : Nat) (h : Option Nat) : CoreSt :=
  { c with bench := setFld c.bench (4 * k) 4 (match h with | some n => 8 + n % 8 | none => 0),
           loops := setFld c.loops (4 * k) 4 (match h with | some n => n / 2048 | none => 0),
           powered := match h with
             | some _ => c.powered
             | none => c.powered &&& ~~~(BitVec.ofNat 16 (2 ^ k)) }

/-- The clusters that a hart takes to hold `n` clusters more, of those that are free: powered ones first (R155). -/
def takeOrder (c : CoreSt) : List Nat :=
  (freeClusters c).filter (c.powered.getLsbD ·) ++ (freeClusters c).filter (!c.powered.getLsbD ·)

/-- A list turned left by `k` places. -/
def turn {α : Type} (k : Nat) (l : List α) : List α := l.drop k ++ l.take k

/-- The free clusters a hart may choose among to hold `n` more: the powered ones, if they are enough (R155, R434). -/
def takePool (c : CoreSt) (n : Nat) : List Nat :=
  let on := (freeClusters c).filter (c.powered.getLsbD ·)
  if n ≤ on.length then on else takeOrder c

/-- A hart seated on `n` clusters (R155): it keeps those that it holds, or of them the lowest-numbered ones as it needs, which is
a DESIGN CHOICE, log 4; it takes the rest from the head of `pool`. A cluster that is given up is gated (R427). -/
def seat (c : CoreSt) (h n : Nat) (pool : List Nat) : CoreSt :=
  let held := heldBy c h
  if n ≤ held.length then (held.drop n).foldl (fun c j => seatPut c j none) c
  else (pool.take (n - held.length)).foldl (fun c j => seatPut c j (some h)) c

/-- Clusters of a grant of `l` lanes (R155). -/
def clustersOf (l : Nat) : Nat := cdiv l 32

/-- The loop contexts of a core that hold a grant of at least one lane, and the need of each (R156, R176). -/
def grantHolders (s : State) (core : Nat) : List (Nat × Nat) :=
  (loopsOf s core).filterMap fun n => let v := (s.hart n).vec; if v.lanes = 0 then none else some (n, v.need)

/-- The share of each holder of a budget, in proportion to need, rest by rest in ascending number (R156). Where every need
is 0 the whole budget counts as rest; DESIGN CHOICE, log 51. -/
def shares (budget : Nat) (hs : List (Nat × Nat)) : List (Nat × Nat) :=
  let total := (hs.map (·.2)).sum
  let base := hs.map fun (n, d) => (n, if total = 0 then 0 else budget * d / total)
  let rest := budget - (base.map (·.2)).sum
  (base.zip (upTo 0 hs.length)).map fun ((n, x), i) =>
    (n, x + rest / hs.length + if i < rest % hs.length then 1 else 0)

/-- A hart's share of the budget, or what the shares leave (R156). -/
def shareOf (s : State) (hart : Nat) : Nat :=
  let c := s.core (coreOf hart)
  let sh := shares c.lbudget (grantHolders s (coreOf hart))
  match sh.find? (·.1 == hart) with
  | some e => e.2
  | none => c.lbudget - (sh.map (·.2)).sum

/-- The lanes of the clusters that a hart holds which are powered, or which the hart already holds: of an unpowered cluster
those in its grant, whose lanes fill its clusters in ascending order (R434); log 51. -/
def heldLanes (s : State) (hart : Nat) : Nat :=
  let c := s.core (coreOf hart)
  let l := heldBy c hart
  ((l.zip (upTo 0 l.length)).map fun (k, i) =>
    if c.powered.getLsbD k then 32 else min 32 ((s.hart hart).vec.phys - 32 * i)).sum

/-- The controller's offer to a hart (R156, R434): its share, within the lanes that are powered and free or that it
holds, and the unretired lanes. -/
def offer (s : State) (hart : Nat) : Nat :=
  let c := s.core (coreOf hart)
  let ready := ((freeClusters c).filter (c.powered.getLsbD ·)).length
  min (shareOf s hart) (min (32 * ready + heldLanes s hart) (gcap c))

/-! ### Hard shrinks -/

/-- A hard shrink of a hart to `n` lanes, at a command boundary (R163, R164): none when it holds no more. A VWAIT between two of its
rounds, and a command that still owes a token, put it off no longer: they have not completed, and so are not among the commands of
GLOSS.QPOS; DESIGN CHOICE, log 46. -/
def hardShrink (s : State) (hart n : Nat) : State :=
  let h := s.hart hart
  if n = 0 ∨ h.vec.phys ≤ n then s
  else
    let core := coreOf hart
    let s := s.setCore core (seat (s.core core) hart (clustersOf n) [])
    s.setHart hart { h with vec := { h.vec with
      phys := n,
      gstat := setBit (setBit h.vec.gstat 2 true) 1 true,
      stripHard := some (h.vec.stripHard.getD h.vec.stripDone) } }

/-! ### The grant script -/

/-- The entry that heads the script, when it is active (R167, R169). -/
def scriptHead (v : VecRegs) : Option W := if bit v.gsctl 15 then some (v.gscript.get 0 (fld v.gsctl 0 4)) else none

def entryKind (e : W) : Nat := fld e 62 2
def entryCount (e : W) : Nat := fld e 32 16
def entryLanes (e : W) : Nat := fld e 0 10

/-- The head entry consumed: HEAD advances, and the last one clears EN (R169). -/
def scriptConsume (v : VecRegs) : VecRegs :=
  let n := fld v.gsctl 0 4
  { v with gsctl := setBit (setFld v.gsctl 0 4 (n + 1)) 15 (n != 15), scriptDone := 0 }

/-- A loop context `x` with what belongs to its hart, its script, VSAVE, LWIN and tape registers, as another, `h`, has it (R147,
R176, R307). Each loop context counts for itself the commands since an entry came to head (R169), and keeps FFLAGS of its own
(R83, R147); DESIGN CHOICE, log 34. -/
def Hart.sharing (x h : Hart) : Hart :=
  let v := x.vec
  { x with lwin := h.lwin, tapebase := h.tapebase, tapeptr := h.tapeptr, tapelim := h.tapelim,
           vec := { v with gsctl := h.vec.gsctl, gscript := h.vec.gscript, vsave := h.vec.vsave,
                           scriptDone := if v.gsctl = h.vec.gsctl then v.scriptDone else 0 } }

/-- What belongs to a hart, as one of its loop contexts has just left it, at every other that it runs. -/
def spread (s : State) (n : Nat) : State :=
  { s with harts := s.harts.map fun (m, x) => (m, if m ≠ n ∧ hartOf m = hartOf n then x.sharing (s.hart n) else x) }

/-- The hard-shrink entry that heads the script takes effect, `now` or if its count is reached, and is consumed (R168, R169). -/
def headShrink (s : State) (hart : Nat) (now : Bool) : Option State :=
  let h := s.hart hart
  match scriptHead h.vec with
  | some e =>
    if entryKind e = 2 ∧ (now ∨ entryCount e ≤ h.vec.scriptDone) then
      let s := if entryLanes e ≤ 512 then hardShrink s hart (entryLanes e) else s
      let h := s.hart hart
      some (spread (s.setHart hart { h with vec := scriptConsume h.vec }) hart)
    else none
  | none => none

/-- Hard-shrink entries take effect while the count of the one that heads the script is reached, as it is at once where COUNT is
0: at most `n` of them. -/
def headShrinks (hart : Nat) : Nat → State → State
  | 0, s => s
  | n + 1, s =>
    match headShrink s hart false with
    | some t => headShrinks hart n t
    | none => s

/-- The grant script at a command boundary: every hard-shrink entry whose count is reached takes effect in turn (R169); before a
grant step, with `now`, the one that heads the script does, whatever its count (R159). -/
def scriptShrink (s : State) (hart : Nat) (now : Bool) : State :=
  if now then (headShrink s hart true).getD s else headShrinks hart 16 s

/-- A command other than a SETVL has completed (R162, R169). -/
def countCommand (s : State) (hart : Nat) : State :=
  let h := s.hart hart
  let v := h.vec
  let counts := match scriptHead v with
    | some e => entryKind e == 2
    | none => false
  scriptShrink (s.setHart hart { h with vec :=
    { v with stripDone := v.stripDone + 1, scriptDone := v.scriptDone + if counts then 1 else 0 } }) hart false

/-! ### The grant step -/

/-- How a grant step ends: with the lanes granted and whether the logical grant shrank, or waiting for its lanes
to be powered (R434) or for a seat. -/
inductive GRes where
  | granted (s : State) (lost : Bool)
  | waits (s : State)

/-- The offer of the grant step, and whether a grant entry supplied it (R159, R168 to R170). -/
def stepOffer (s : State) (hart : Nat) : Nat × Bool × VecRegs :=
  let v := (s.hart hart).vec
  match scriptHead v with
  | some e =>
    if entryKind e = 2 then (v.phys, false, v)
    else if entryKind e = 1 then
      (if 1 ≤ entryLanes e ∧ entryLanes e ≤ 512 then (entryLanes e, true, scriptConsume v)
       else (offer s hart, false, scriptConsume v))
    else (offer s hart, false, v)
  | none => (offer s hart, false, v)

/-- The lanes a grant step grants before seating (R159). -/
def grantLanes (old new : Lay) (lp avl offer cap : Nat) : Nat × Nat :=
  let need := if new.half then 2 * avl else cdiv avl new.p
  let lmin := if new.half || (old.half && decide (0 < lp)) then 2 else 1
  let l := max lmin (min offer (min need cap))
  (need, if new.half then l - l % 2 else l)

/-- The registers after the grant step's fold, loss and lane changes (R159 step 2 on). -/
def grantRegs (v : VecRegs) (l need avl : Nat) (sewc : BitVec 3) (gc : BitVec 2) (clip : Bool) : VecRegs × Flags :=
  let lp := v.lanes
  let (w, fl) := if l < lp then foldAll v (v.lay.cap lp) (v.lay.cap l) else (v, 0)
  let w := if l < lp then
      dropLanes { w with gloss := glossWord (lossMap v l lp) v.stripHard l lp, gstat := setBit w.gstat 0 true } l
    else w
  let g := setBit w.gstat 2 false
  let new : Lay := ⟨sewOf sewc, gOf gc⟩
  ({ w with lanes := l, phys := l, gstat := if clip then setBit g 3 true else g, sewc := sewc, gc := gc,
            vl := min avl (new.cap l), need := need, stripDone := 0, stripHard := none,
            vlinks := [] }, fl)

/-- What a grant step comes to before the hart is seated: the need, the lanes, what the core could seat, whether a script gives the
lanes and whether they were clipped to what can be seated (R159, R170), and the registers with the script's entry consumed. -/
structure Granting where
  need : Nat
  lanes : Nat
  room : Nat
  scripted : Bool
  clip : Bool
  regs : VecRegs
deriving DecidableEq, Repr

/-- The lanes of a grant step under the new shape, once a hard-shrink entry at the head of the script has taken effect (R159). -/
def granting (s : State) (hart avl : Nat) (new : Lay) : Granting :=
  let c := s.core (coreOf hart)
  let (off, scripted, v) := stepOffer s hart
  let (need, l) := grantLanes v.lay new v.lanes avl off (gcap c)
  let room := 32 * ((heldBy c hart).length + (freeClusters c).length)
  let clip := scripted && decide (room < l)
  ⟨need, if clip then (if new.half then room - room % 2 else room) else l, room, scripted, clip, v⟩

/-- Clusters as a bit for each. -/
def clusterBits (ks : List Nat) : BitVec 16 := BitVec.ofNat 16 ((ks.map (2 ^ ·)).sum)

/-- A wake requested for the clusters that a hart holds and that are not powered, with further ones, as one request (R433). -/
def wakeHeld (s : State) (hart : Nat) (more : List Nat) : State :=
  requestWake s (coreOf hart) (clusterBits (heldBy (s.core (coreOf hart)) hart) ||| clusterBits more)

/-- The grant step of a hart (R159). On a core with no cluster that the hart could hold it waits for one; DESIGN CHOICE,
log 51. A hard-shrink entry that heads the script takes effect before the step, and so stands when the step then waits (R159,
R434). -/
def grantStep (s0 : State) (hart avl : Nat) (sewc : BitVec 3) (gc : BitVec 2) : GRes :=
  let s1 := scriptShrink s0 hart true
  let s := s1
  let core := coreOf hart
  let c := s.core core
  let x := granting s hart avl ⟨sewOf sewc, gOf gc⟩
  let held := (heldBy c hart).length
  let n := clustersOf x.lanes
  let pool := takePool c (n - held)
  let (k, s) := if held < n then s.pick pool.length else (0, s)
  let take := (turn k pool).take (n - held)
  if x.room = 0 ∨ x.room < x.lanes then .waits s1
  else if x.scripted && ((heldBy c hart).take n ++ take).any (!c.powered.getLsbD ·) then
    .waits (requestWake s1 core (clusterBits ((heldBy c hart).take n) ||| clusterBits take))
  else
    let c := seat c hart n take
    -- a grant below what the loop needs asks for the clusters it lacks (R433, R434)
    let want := (freeClusters c).take (clustersOf (min x.need (min (shareOf s hart) (gcap c))) - n)
    let s := wakeHeld (s.setCore core c) hart want
    let (w, fl) := grantRegs x.regs x.lanes x.need avl sewc gc x.clip
    let used := decide (x.regs.gsctl ≠ (s.hart hart).vec.gsctl)
    let t := s.setHart hart { (s.hart hart) with vec := w, fflags := (s.hart hart).fflags ||| fl }
    .granted (if used then spread t hart else t) (decide (x.lanes < x.regs.lanes))

end Sys2Proof.Machine
end

