-- ==== Sys2Proof/Machine/Operand.lean ====
section
/-! DEFINITION. The operands of each vector command: the registers and masks it reads and writes, with their extents
(R99, R100, R180, R205, R212, R215), its unit queue (R335), and what it waits for. -/

namespace Sys2Proof.Machine

/-- A register operand: first register, extent, whether it is read and written, and whether the format word fixes
its extent or place (R101). -/
structure Opnd where
  reg : Nat
  ext : Nat
  rd : Bool
  wr : Bool
  late : Bool
  /-- The first register must be a multiple of the extent (R99). -/
  aligned : Bool
deriving DecidableEq, Repr

/-- The operands of a command. -/
structure Desc where
  ops : List Opnd
  /-- The destination may share no register with a source, a rule stronger than R100. -/
  strict : Bool
  /-- Mask operands of R99, and masks read and written. -/
  msks : List Nat
  mrd : List Nat
  mwr : List Nat
deriving DecidableEq, Repr

def src (r : BitVec 5) (ext : Nat) : Opnd := ⟨r.toNat, ext, true, false, false, true⟩
def dst (r : BitVec 5) (ext : Nat) : Opnd := ⟨r.toNat, ext, false, true, false, true⟩
def both (r : BitVec 5) (ext : Nat) : Opnd := ⟨r.toNat, ext, true, true, false, true⟩
def srcLate (r : BitVec 5) (ext : Nat) : Opnd := ⟨r.toNat, ext, true, false, true, true⟩
def dstLate (r : BitVec 5) (ext : Nat) : Opnd := ⟨r.toNat, ext, false, true, true, true⟩
def bothLate (r : BitVec 5) (ext : Nat) : Opnd := ⟨r.toNat, ext, true, true, true, true⟩

/-- A scale register, read whole (R85, R205). -/
def scaleReg (r : Nat) : Opnd := ⟨r, 1, true, false, false, false⟩

/-- The extent of an operand of storage width `w` (R180); 0 where R180 has a format fault. -/
def extent (a : Lay) (w : Nat) : Nat := if w = a.sew then a.g else if w = 2 * a.sew then 2 * a.g else 0

/-- The layout of an operand of storage width `w` (R180). -/
def layOf (a : Lay) (w : Nat) : Lay := if w = a.sew then a else ⟨2 * a.sew, 2 * a.g⟩

/-- The mask that a mask operand reads (R178). -/
def mkReads (mk : BitVec 2) : List Nat :=
  match mk.toNat with
  | 0 => []
  | 2 => [1]
  | _ => [0]

/-- Plain operands and the mask operand. -/
def desc (ops : List Opnd) (mk : BitVec 2) : Desc := ⟨ops, false, [], mkReads mk, []⟩
def descStrict (ops : List Opnd) (mk : BitVec 2) : Desc := ⟨ops, true, [], mkReads mk, []⟩

/-- The extent E of a wide source of VSCALE, VQUANT and VAMAX (R215); 0 when it is none of 1, 2, 4 and 8. -/
def wideExtent (a : Lay) (w : Nat) : Nat :=
  let e := a.g * w / a.sew
  if a.g * w % a.sew = 0 ∧ (e = 1 ∨ e = 2 ∨ e = 4 ∨ e = 8) then e else 0

/-- The registers of the metadata of VMMAS (R212). -/
def metaExtent (a : Lay) : Nat := max 1 (32 / a.sew / 2)

/-- The operands of a command in a shape, under its format word. The scale register of VFCVT and VLGCVT counts as a source under
R100, as R206 says of the matrix instructions; DESIGN CHOICE, log 57. -/
def descOf (i : Instr) (a : Lay) (fw : W) : Desc :=
  let g := a.g
  let f' := FW.of fw
  let e1 := extent a (storageWidth f'.src1)
  let ed := extent a (storageWidth f'.dst)
  match i with
  | .vfold f => desc [both f.a g] 0
  | .vfoldto f => desc [⟨f.a.toNat, g, true, true, false, false⟩] 0
  | .vadd f | .vsub f | .vrsub f | .vmul f | .vmulh f | .vmulhu f | .vdiv f | .vmod f | .vand f | .vor f | .vxor f
  | .vshl f | .vshr f | .vsar f | .vmin f | .vmax f | .vminu f | .vmaxu f | .vadds f | .vsubs f =>
    desc [dst f.a g, src f.b g, src f.c g] f.msk
  | .vclz f | .vpope f | .vaddVs f | .vsubVs f | .vrsubVs f | .vmulVs f | .vmulhVs f | .vmulhuVs f | .vdivVs f
  | .vmodVs f | .vandVs f | .vorVs f | .vxorVs f | .vshlVs f | .vshrVs f | .vsarVs f | .vminVs f | .vmaxVs f
  | .vminuVs f | .vmaxuVs f | .vaddsVs f | .vsubsVs f | .vmov f | .vprefix f =>
    desc [dst f.a g, src f.b g] f.msk
  | .vceq f | .vcne f | .vclt f | .vcle f | .vcltu f | .vcleu f =>
    ⟨[src f.b g, src f.c g], false, [f.a.toNat], mkReads f.msk, [f.a.toNat]⟩
  | .vceqVs f | .vcneVs f | .vcltVs f | .vcleVs f | .vcltuVs f | .vcleuVs f =>
    ⟨[src f.b g], false, [f.a.toNat], mkReads f.msk, [f.a.toNat]⟩
  | .vfeq f | .vfne f | .vflt f | .vfle f | .vford f =>
    ⟨[srcLate f.b e1, srcLate f.c e1], false, [f.a.toNat], mkReads f.msk, [f.a.toNat]⟩
  | .vfadd f | .vfsub f | .vfmul f | .vfdiv f | .vfmin f | .vfmax f | .vfsgn f =>
    desc [dstLate f.a ed, srcLate f.b e1, srcLate f.c e1] f.msk
  | .vfma f | .vfms f | .vfnma f => desc [bothLate f.a ed, srcLate f.b e1, srcLate f.c e1] f.msk
  | .vfsqrt f | .vfexp f | .vflog f => desc [dstLate f.a ed, srcLate f.b e1] f.msk
  | .vfcvt f | .vlgcvt f =>
    desc ([dstLate f.a ed, srcLate f.b e1] ++
      (if f'.scl1 then [{ scaleReg (f.b.toNat + e1) with late := true }] else [])) f.msk
  | .vfclass f => desc [dst f.a g, srcLate f.b e1] f.msk
  | .vmerge f => desc [dst f.a g, src f.b g, src f.c g] f.msk
  | .vsplat f | .vfromg f | .vindex f => desc [dst f.a g] f.msk
  | .vslup f | .vsldn f | .vsl1up f | .vsl1dn f | .vpack f => descStrict [dst f.a g, src f.b g] f.msk
  | .vperm f => descStrict [dst f.a g, src f.b g, src f.c g] f.msk
  | .mand f | .mor f | .mxor f | .mandn f =>
    ⟨[], false, [f.a.toNat, f.b.toNat, f.c.toNat], [f.b.toNat, f.c.toNat], [f.a.toNat]⟩
  | .mmov f | .mbefore f | .mthrough f | .monly f => ⟨[], false, [f.a.toNat, f.b.toNat], [f.b.toNat], [f.a.toNat]⟩
  | .mfromv f => ⟨[src f.b g], false, [f.a.toNat], [], [f.a.toNat]⟩
  | .mtov f => ⟨[dst f.a g], false, [f.b.toNat], [f.b.toNat], []⟩
  | .vtog f | .vext f => desc [src f.b g] 0
  | .mpopc f | .mffs f => ⟨[], false, [f.b.toNat], [f.b.toNat], []⟩
  | .vrsum f | .vrmax f | .vrmin f | .vrand f | .vror f | .vrxor f => desc [dst f.a g, src f.b g, src f.c g] f.msk
  | .vwrsum f => desc [dst f.a (2 * g), src f.b g, src f.c (2 * g)] f.msk
  | .vfrsum f | .vfrsumt f | .vfrmax f | .vfrmin f => desc [dstLate f.a ed, srcLate f.b e1, srcLate f.c ed] f.msk
  | .vld f | .vlds f => desc [both f.a g] f.msk
  | .vldff f => desc [dst f.a g] f.msk
  | .vldx f => desc [both f.a g, src f.c g] f.msk
  | .vldm f => ⟨[], false, [f.a.toNat], [], [f.a.toNat]⟩
  | .vst f | .vsts f => desc [both f.a g] f.msk
  | .vstx f | .vstxo f => desc [both f.a g, src f.c g] f.msk
  | .vstm f => ⟨[], false, [f.a.toNat], [f.a.toNat], []⟩
  | .vamoswap f | .vamoadd f | .vamoand f | .vamoor f | .vamoxor f | .vamomin f | .vamomax f | .vamominu f
  | .vamomaxu f | .vamofadd f => descStrict [both f.a g, src f.c g] f.msk
  | .vgll f => desc [dst f.a g, src f.c g] f.msk
  | .vscc f => { desc [src f.a g, src f.c g] f.msk with mwr := [1] }
  | .vwait f =>
    { desc ([src f.c g] ++ (if f.imm.getLsbD 2 = false then [⟨f.c.toNat + g, g, true, false, false, true⟩] else []))
        (f.imm.extractLsb' 3 2) with mwr := [1] }
  | .vsredadd f | .vsredmax f | .vsredmin f | .vsredfadd f => desc [src f.b g, src f.c g] f.msk
  | .vmredadd f | .vmredmax f | .vmredmin f | .vmredfadd f => desc [src f.b g] f.msk
  | .vmmad f | .vmmao f =>
    descStrict ([both f.a 8, src f.b 1, src f.c 8] ++ (if f'.scl1 then [scaleReg (f.b.toNat + 1)] else []) ++
      (if f'.scl2 then [scaleReg (f.c.toNat + 8)] else [])) f.msk
  | .vmmar f =>
    descStrict ([both f.a 8, src f.b 8, src f.c 8] ++ (if f'.scl1 then [scaleReg (f.b.toNat + 8)] else []) ++
      (if f'.scl2 then [scaleReg (f.c.toNat + 8)] else [])) f.msk
  | .vmmas f =>
    descStrict ([both f.a 8, src f.b 1, src f.c 8, ⟨f.c.toNat + 8, metaExtent a, true, false, true, false⟩] ++
      (if f'.scl1 then [scaleReg (f.b.toNat + 1)] else [])) 0
  | .vlgmul f => desc [dst f.a g, src f.b g, src f.c g] f.msk
  | .vlgacc f => descStrict [both f.a 1, src f.b g, src f.c g] f.msk
  | .vscale f => descStrict [dst f.a 1, srcLate f.b (wideExtent a (storageWidth f'.src1))] f.msk
  | .vquant f =>
    descStrict [dst f.a g, srcLate f.b (wideExtent a (storageWidth f'.src1)), scaleReg (f.a.toNat + g)] f.msk
  | .vamax f => desc [srcLate f.b (wideExtent a (storageWidth f'.src1))] f.msk
  | .bxg f | .bxsRow f => desc [src f.b g] 0
  | .ksel f => descStrict [dst f.a g, src f.b g] 0
  | .kgat f => desc [src f.a g] 0
  | _ => desc [] 0

/-- Two operands share a register. -/
def Opnd.meets (x y : Opnd) : Bool := decide (x.reg < y.reg + y.ext ∧ y.reg < x.reg + x.ext)

/-- A destination and a source that R100, or the stronger rule, does not allow together. -/
def Opnd.clash (strict : Bool) (d s : Opnd) : Bool :=
  d.meets s && (strict || !(d.reg == s.reg && d.ext == s.ext))

/-- R99 of one operand: aligned, of an extent from 1 to 8, and not past v31. -/
def Opnd.legal (o : Opnd) : Bool :=
  decide (1 ≤ o.ext ∧ o.ext ≤ 8 ∧ o.reg + o.ext ≤ 32) && (!o.aligned || o.reg % o.ext == 0)

/-- Whether a list of operands holds a clash (R100). Operand places are told apart by their position. -/
def anyClash (strict : Bool) (ops : List Opnd) : Bool :=
  (ops.zip (upTo 0 ops.length)).any fun (d, i) =>
    d.wr && (ops.zip (upTo 0 ops.length)).any fun (s, j) => i != j && s.rd && d.clash strict s

/-- The checks of R99 and R100 on the operands that do not depend on the format word; a scale register past v31 is a
format fault instead (R85, R205). -/
def Desc.earlyOk (d : Desc) : Bool :=
  d.msks.all (decide <| · < 2) &&
    (let e := d.ops.filter (!·.late)
     e.all (fun o => o.legal || (!o.aligned && o.ext == 1)) && !anyClash d.strict e)

/-- The same on all of them, once the format word has been checked. -/
def Desc.lateOk (d : Desc) : Bool := d.ops.all (·.legal) && !anyClash d.strict d.ops

/-- The source registers that an element-by-element command reads through a set chain bit, and through no clear one (R98,
R174). A reduction, whose c1 affects time alone, never counts as begun at its producer's fault (R199, R401); DESIGN CHOICE,
log 47. -/
def chainRegs : Instr → List Nat
  | .vadd f | .vsub f | .vrsub f | .vmul f | .vmulh f | .vmulhu f | .vdiv f | .vmod f | .vand f | .vor f | .vxor f
  | .vshl f | .vshr f | .vsar f | .vmin f | .vmax f | .vminu f | .vmaxu f | .vadds f | .vsubs f
  | .vceq f | .vcne f | .vclt f | .vcle f | .vcltu f | .vcleu f | .vfeq f | .vfne f | .vflt f | .vfle f | .vford f
  | .vfadd f | .vfsub f | .vfmul f | .vfdiv f | .vfmin f | .vfmax f | .vfsgn f | .vfma f | .vfms f | .vfnma f | .vmerge f
  | .vlgmul f =>
    (if f.c1 = 1 ∧ (f.c2 = 1 ∨ f.b ≠ f.c) then [f.b.toNat] else []) ++
      if f.c2 = 1 ∧ (f.c1 = 1 ∨ f.b ≠ f.c) then [f.c.toNat] else []
  | .vclz f | .vpope f | .vaddVs f | .vsubVs f | .vrsubVs f | .vmulVs f | .vmulhVs f | .vmulhuVs f | .vdivVs f
  | .vmodVs f | .vandVs f | .vorVs f | .vxorVs f | .vshlVs f | .vshrVs f | .vsarVs f | .vminVs f | .vmaxVs f
  | .vminuVs f | .vmaxuVs f | .vaddsVs f | .vsubsVs f | .vmov f | .vprefix f | .vslup f | .vsl1up f | .vpack f
  | .vceqVs f | .vcneVs f | .vcltVs f | .vcleVs f | .vcltuVs f | .vcleuVs f
  | .vfsqrt f | .vfexp f | .vflog f | .vfcvt f | .vlgcvt f | .vfclass f | .mfromv f => if f.c1 = 1 then [f.b.toNat] else []
  | _ => []

/-- Loads of the prefix class, which deliver their elements in order (R252, R255, R264). -/
def deliversInOrder : Instr → Bool
  | .vld _ | .vlds _ | .vldx _ | .vgll _ => true
  | _ => false

/-- Vector registers that an operand list reads or writes. -/
def Desc.reads (d : Desc) : List Nat := d.ops.flatMap fun o => if o.rd then upTo o.reg o.ext else []
def Desc.writes (d : Desc) : List Nat := d.ops.flatMap fun o => if o.wr then upTo o.reg o.ext else []

/-! ### Unit queues -/

/-- The unit queue of a command: S 0, V 1, X 2, K 3 (R335, R348, R388). -/
def unitOf : Instr → Nat
  | .bxg _ | .bxc _ | .bxsRow _ | .bxsStream _ => 2
  | .kpage _ | .ksel _ | .kgat _ | .ksync _ => 3
  | .drpush f | .drpop f => f.imm.toNat % 4
  | _ => 1

/-- Commands that wait until every earlier command has completed; a recruit's SFEND does as well (`endsRecruit`). -/
def waitsAll : Instr → Bool
  | .setvl _ | .setvlk _ | .sfnext _ | .shape _ | .cways _ | .drgn _ | .dmode _ | .dtape _ | .drest _ | .kpage _
  | .ksync _ | .tkend _ | .sfstart _ => true
  | _ => false

/-- Commands behind which the front end issues nothing until they complete (R268, R305, R331, R384, R385, R387, R388). -/
def gates : Instr → Bool
  | .vwait _ | .dmode _ | .ksync _ | .tkend _ | .sfstart _ | .sfend _ => true
  | .drpush f | .drpop f => f.imm.toNat % 4 == 0
  | _ => false

/-- Grant steps, which the counts of R162 and R169 leave out. -/
def isGrant : Instr → Bool
  | .setvl _ | .setvlk _ | .sfnext _ => true
  | _ => false

/-- Commands that write VL or VSHAPE. -/
def writesShape : Instr → Bool
  | .setvl _ | .setvlk _ | .sfnext _ | .shape _ | .vldff _ => true
  | _ => false

/-- Commands that read neither VL nor VSHAPE. -/
def shapeless : Instr → Bool
  | .drpush _ | .drpop _ | .bxc _ | .bxsStream _ => true
  | _ => false

/-- Commands that access memory as vector memory commands do (R253, R290). -/
def accesses : Instr → Bool
  | .vld _ | .vlds _ | .vldx _ | .vldff _ | .vldm _ | .vst _ | .vsts _ | .vstx _ | .vstxo _ | .vstm _
  | .vamoswap _ | .vamoadd _ | .vamoand _ | .vamoor _ | .vamoxor _ | .vamomin _ | .vamomax _ | .vamominu _
  | .vamomaxu _ | .vamofadd _ | .vgll _ | .vscc _ | .vwait _
  | .vsredadd _ | .vsredmax _ | .vsredmin _ | .vsredfadd _ | .vmredadd _ | .vmredmax _ | .vmredmin _ | .vmredfadd _
  | .shinit _ | .shacq _ | .shcom _ | .shwait _ | .shrel _ | .bset _ | .barv _ | .bwait _ | .bexp _ | .bret _
  | .tkdef _ | .tksig _ | .tkspawn _ | .tkend _ | .dmark _ | .drest _ | .kpage _ | .ksel _ | .kgat _
  | .bxg _ | .bxc _ | .bxsRow _ | .bxsStream _ => true
  | _ => false

/-- Commands whose accesses are the hart's own: a transfer's are its engine's (R140, R284, R290). -/
def ownAccesses (i : Instr) : Bool :=
  accesses i && unitOf i != 2 && !(match i with
    | .kgat _ => true
    | _ => false)

/-- A command that only stores: outside every differentiable region a plain vector store reads nothing. -/
def onlyStores : Instr → Bool
  | .vst _ | .vsts _ | .vstx _ | .vstxo _ | .vstm _ => true
  | _ => false

/-- A command that only loads, but in a differentiable region in REV (R315). -/
def onlyLoads : Instr → Bool
  | .vld _ | .vlds _ | .vldx _ | .vldff _ | .vldm _ | .vgll _ | .vwait _ | .ksel _ => true
  | _ => false

/-- An earlier command of the hart may still store (R143, R362). -/
def storesQueued (h : Hart) : Bool := h.undone.any fun c => ownAccesses c.ins && (h.mode == 2 || !onlyLoads c.ins)

end Sys2Proof.Machine
end

