-- ==== Sys2Proof/Machine/Queue.lean ====
section
/-! DEFINITION. The command queue: issue (R171, R172, R179, R405), the unit queues (R335), dispatch (R101, R173,
R176), completion, and token drawers (R346). -/

namespace Sys2Proof.Machine

/-- How the run of a vector command ends. -/
inductive CRes where
  | done (s : State)
  /-- It stops at a cause, after the effects of its class (R252): its entry with what it has taken, RIX and hints. -/
  | fault (s : State) (c : Cmd) (ca : Cause) (rix : Nat) (hints : List W)
  /-- It waits; its entry keeps what it has taken. -/
  | wait (s : State) (c : Cmd)

/-- A fault at dispatch: RIX = 0 and no effect (R101). -/
def CRes.refuse (c : Cmd) (s : State) (ca : Cause) : CRes := .fault s c ca 0 []

/-- Illegal instruction at dispatch (R101). -/
def CRes.illegal (c : Cmd) (s : State) : CRes := .refuse c s ⟨0x02, c.word.setWidth 64⟩

/-- A format fault (R78). -/
def CRes.format (c : Cmd) (s : State) : CRes := .refuse c s ⟨0x0A, c.fw⟩

/-- A poisoned operand that must not be (R409); TVAL is the instruction word. DEDUCED, log 8. -/
def CRes.poison (c : Cmd) (s : State) : CRes := .refuse c s ⟨0x1A, c.word.setWidth 64⟩

/-- A poisoned address operand (R409); TVAL is the address, as of an element's. DEDUCED, log 8. -/
def CRes.badAddr (c : Cmd) (s : State) (va : W) : CRes := .refuse c s ⟨0x1A, va⟩

/-- The state in which the run of a command leaves off, changed. -/
def CRes.mapSt (f : State → State) : CRes → CRes
  | .done s => .done (f s)
  | .fault s c ca rix hints => .fault (f s) c ca rix hints
  | .wait s c => .wait (f s) c

/-- An access that translates once for each page that its elements touch (R242). -/
def oncePerPage (run : State → CRes) (s : State) : CRes := (run { s with pin := some [] }).mapSt fun t => { t with pin := none }

/-- A translation that is no part of the access in hand: it neither uses nor joins the translations of that. -/
def apart (s : State) (go : State → Except Cause Placed) : Except Cause Placed :=
  match go { s with pin := none } with
  | .error c => .error c
  | .ok p => .ok { p with st := { p.st with pin := s.pin } }

/-- Checks at dispatch in the order of R101: operands, the format word (none: not read), then operands that it
fixes. Poison of the format word comes before its format fault; DESIGN CHOICE, log 58. -/
def checked (c : Cmd) (s : State) (fmt : Option Bool) (body : CRes) : CRes :=
  let d := descOf c.ins s.me.vec.lay c.fw
  if !d.earlyOk then .illegal c s
  else match fmt with
    | none => body
    | some ok =>
      if c.fwp then .poison c s else if !ok then .format c s else if !d.lateOk then .illegal c s else body

/-- The `k`-th g value of a command, and its poison. -/
def Cmd.g (c : Cmd) (k : Nat) : W := c.gv.getD k 0
def Cmd.gpois (c : Cmd) (k : Nat) : Bool := c.gp.getD k false

/-- The active elements of a command, from its resume point on (R403). -/
def Cmd.acts (c : Cmd) (v : VecRegs) (mk : BitVec 2) : List Nat := (v.actives mk).filter fun i => decide (c.resume ≤ i)

/-- The positions below VL, from the resume point on. -/
def Cmd.belowVl (c : Cmd) (v : VecRegs) : List Nat := (upTo 0 v.vl).filter fun i => decide (c.resume ≤ i)

/-- A result or status written to g[r], poisoned as an operand of the command is (R409). -/
def putG (c : Cmd) (s : State) (r : BitVec 5) (x : W) : State := s.setMe (s.me.wrP r.toNat x (c.gp.any id))

/-! ### Dependences -/

/-- Whether two lists share a member. -/
def shares2 (a b : List Nat) : Bool := a.any b.contains

/-- Whether command `c` must wait for the earlier command `e` of another unit queue (R335, R253, R290). One that only owes a token
has done the rest, and holds up its own queue and the commands that wait for every earlier one to complete (R346). -/
def dependsOn (a : Lay) (c e : Cmd) : Bool :=
  let dc := descOf c.ins a c.fw
  let de := descOf e.ins a e.fw
  waitsAll c.ins || (!e.owes &&
    ((writesShape e.ins && !shapeless c.ins) || (writesShape c.ins && !shapeless e.ins) ||
    shares2 dc.reads de.writes || shares2 dc.writes (de.reads ++ de.writes) ||
    shares2 dc.mrd de.mwr || shares2 dc.mwr (de.mrd ++ de.mwr) ||
    shares2 ((gWrites c.ins).filter (· != 0)) (gWrites e.ins) ||
    (accesses c.ins && ownAccesses e.ins)))

/-- Whether command `c` reads what the earlier command `e` writes through set chain bits alone, and has to wait for nothing
else of it: it may begin on the element groups that `e` has written (R174). -/
def chainsOn (a : Lay) (c e : Cmd) : Bool :=
  let dc := descOf c.ins a c.fw
  let de := descOf e.ins a e.fw
  let w := de.writes
  let meets (o : Opnd) : Bool := shares2 (upTo o.reg o.ext) w
  let chained (o : Opnd) : Bool := (chainRegs c.ins).contains o.reg
  (dc.ops.any fun o => o.rd && chained o && meets o) && (dc.ops.all fun o => !o.rd || chained o || !meets o) &&
    !shares2 dc.writes (de.reads ++ w) && !shares2 dc.mrd de.mwr && !shares2 dc.mwr (de.mrd ++ de.mwr)

/-- A transfer's deposit that waits for room in a drawer holds the queue that requested it (R346). -/
def owesDeposit (s : State) (unit : Nat) : Bool := s.xfers.any fun x => x.owing && x.hart == s.cur && x.push == some unit

/-- The SFEND of a recruit, which waits until every earlier command has completed; the origin's waits for its recruits (R387). -/
def endsRecruit (s : State) (i : Instr) : Bool :=
  match i, s.me.farm with
  | .sfend _, some (o, _) => o != s.cur
  | _, _ => false

/-- Whether a command may start, given the earlier commands that have not completed (R335, R173). -/
def startable (s : State) (c : Cmd) (earlier : List Cmd) : Bool :=
  s.me.flt.pending.isNone && !owesDeposit s (unitOf c.ins) && !shares2 ((gWrites c.ins).filter (· != 0)) s.me.gwait &&
    (!endsRecruit s c.ins || earlier.isEmpty) && earlier.all fun e => unitOf e.ins != unitOf c.ins && !dependsOn s.me.vec.lay c e

/-- A VWAIT of a hart that has begun, and so stands between two of its rounds, reads or writes a mask register. Every other
command runs whole, so that the mask can always be changed between the commands of the V queue (R335, R345). -/
def waitHolds (s : State) (hart m : Nat) : Bool :=
  (s.hart hart).queue.any fun c =>
    let d := descOf c.ins (s.hart hart).vec.lay c.fw
    c.t0.isSome && (d.mrd ++ d.mwr).contains m

/-! ### Dispatch -/

/-- A list with an element put in at a place. -/
def putAt {α : Type} (k : Nat) (x : α) (l : List α) : List α := l.take k ++ x :: l.drop k

def State.setQueue (s : State) (q : List Cmd) : State := s.setMe { s.me with queue := q }

/-- The command has completed (R162, R169). -/
def completed (s : State) (i : Instr) : State :=
  if isGrant i then scriptShrink s s.cur false else countCommand s s.cur

/-- The VL and shape of a command's first dispatch put in force again (R403). -/
def reshape (s : State) (f : Option (BitVec 3 × BitVec 2 × Nat)) : State :=
  match f with
  | some (sewc, gc, vl) => s.setMe { s.me with vec := { s.me.vec with sewc := sewc, gc := gc, vl := vl } }
  | none => s

/-- The hart put at the level of a command that was decoded at another (R237). -/
def atLevel (s : State) (p : Nat) : State :=
  if s.me.priv = p then s
  else s.setMe { s.me with trap := { s.me.trap with stat := setFld s.me.trap.stat 0 2 p } }

/-- A command run at the level at which it was decoded and under ATP as it stood then: a later write of ATP takes effect at the
next instruction (R234). -/
def runAt (run : Cmd → State → CRes) (c : Cmd) (s : State) : CRes :=
  (run c (withAtp (atLevel s c.priv.toNat) s.me.ctx c.atp)).mapSt fun t => atLevel (withAtp t s.me.ctx s.myCtx.atp) s.me.priv

/-- The g registers that a command writes when the moving hart runs it: a recruit's SFEND writes none (R387). -/
def writesHere (s : State) (i : Instr) : List Nat :=
  match i, s.me.farm with
  | .sfend _, some (o, _) => if o = s.cur then gWrites i else []
  | _, _ => gWrites i

/-- A command that stands at place `k`, already taken from the queue, dispatches (R101, R169, R176, R400). Hard-shrink entries
whose counts are reached take effect first: one of COUNT 0 that a register write brought to head while no command ran waits for
this boundary, or for SCRIPT_SHRINK_COUNT; DESIGN CHOICE, log 57. -/
def attempt (s : State) (k : Nat) (c : Cmd) (run : Cmd → State → CRes) : State :=
  let s := reshape (scriptShrink s s.cur false) c.first
  let v := s.me.vec
  let barred := s.me.farm.isSome && (writesHere s c.ins).any (24 ≤ ·)
  match (if barred then .illegal c s else runAt run c s) with
  | .done t => completed t c.ins
  | .wait t c' => t.setQueue (putAt k c' t.me.queue)
  | .fault t c' ca rix hints =>
    let c' := { c' with resume := rix, started := true, first := some (v.sewc, v.gc, v.vl) }
    t.setMe { t.me with queue := putAt k c' t.me.queue,
                        flt := { t.me.flt with pending := some ⟨0, ca.code, ca.tval, rix, k, hints⟩ } }

/-! ### Issue -/

/-- What a command reads at decode beside g registers: KGAT its slot's base, when that is its source (R330). -/
def decodeVals (s : State) : Instr → List W
  | .kgat f => if f.imm.getLsbD 3 then [] else [s.myCtx.kcbase.get 0 (f.imm.toNat % 4)]
  | _ => []

/-- A command as it is decoded (R105, R179). -/
def cmdOf (s : State) (i : Instr) (regs : List Nat) (fs : Option (BitVec 3)) : Cmd :=
  let h := s.me
  let fr := 24 + (fs.getD 0).toNat
  { ins := i, word := h.ir, gv := regs.map h.rd ++ decodeVals s i, gp := regs.map h.rdP,
    fw := if fs.isSome then h.rd fr else 0, fwp := fs.isSome && h.rdP fr, priv := BitVec.ofNat 2 h.priv, atp := s.myCtx.atp,
    started := false, stopped := false, resume := 0, done := 0, anew := false, inOrder := false, tainted := 0, first := none,
    ticket := none, t0 := none,
    watch := none, owes := false, credit := none, supp := none }

/-- A vector command issues (R171, R172, R405): it waits for the g registers it reads and for room in the queue,
then dispatches when it may start at once. The device may also let it stand (R171; log 4). -/
def issue (s : State) (i : Instr) (regs : List Nat) (fs : Option (BitVec 3)) (run : Cmd → State → CRes) : Out :=
  let h := s.me
  let fr := match fs with
    | some n => [24 + n.toNat]
    | none => []
  if bit h.flt.vfstat 0 then .next (illegalAt s)
  else if mustWait h (regs ++ fr) || shares2 ((gWrites i).filter (· != 0)) h.gwait || decide (64 ≤ h.queue.length) then
    .next (stall s)
  else
    let c := cmdOf s i regs fs
    let (later, s) := s.pick 2
    let s := s.setMe s.me.adv
    if later = 0 ∧ startable s c h.queue then .next (attempt s h.queue.length c run)
    else .next (s.setQueue (h.queue ++ [c]))

/-- VTOG, VEXT, MPOPC and MFFS: scalar instructions that wait for every earlier command that writes what they read
(R171, R172, R405), and check their operands precisely (R101). -/
def vecScalar (s : State) (i : Instr) (d : BitVec 5) (regs : List Nat) (value : State → W × Bool) : Out :=
  let h := s.me
  let q := descOf i h.vec.lay 0
  if bit h.flt.vfstat 0 then .next (illegalAt s)
  else if mustWait h (d.toNat :: regs) || h.undone.any (fun e =>
      let de := descOf e.ins h.vec.lay e.fw
      writesShape e.ins || shares2 q.reads de.writes || shares2 q.mrd de.mwr) then .next (stall s)
  else if !q.earlyOk || farmBars h d then .next (illegalAt s)
  else
    let (x, p) := value s
    .next (s.setMe ((s.me.wrP d.toNat x p).adv))

/-! ### Token drawers (R346, R348) -/

/-- The drawer from queue `p` to queue `c`. -/
def drawerNo (p c : Nat) : Nat := 4 * p + c

/-- A token deposited; none when the drawer is full. -/
def deposit (h : Hart) (p c : Nat) : Option Hart :=
  let n := h.drawers.get 0 (drawerNo p c)
  if n < 15 then some { h with drawers := h.drawers.set (drawerNo p c) (n + 1) } else none

/-- A token taken; none when the drawer is empty. -/
def takeToken (h : Hart) (p c : Nat) : Option Hart :=
  let n := h.drawers.get 0 (drawerNo p c)
  if n = 0 then none else some { h with drawers := h.drawers.set (drawerNo p c) (n - 1) }

/-- A command of queue `q` with its pop bit: it takes a token from the drawer V → q, or waits for one (R347). -/
def withPop (f : FE) (q : Nat) (c : Cmd) (s : State) (body : State → CRes) : CRes :=
  if f.pop = 0 then body s
  else match takeToken s.me 1 q with
    | some h => body (s.setMe h)
    | none => .wait s c

/-- The end of a command that owes a token to the drawer `p` → `q`: it waits while that is full (R346). -/
def payToken (p q : Nat) (c : Cmd) (s : State) : CRes :=
  match deposit s.me p q with
  | some h => .done (s.setMe h)
  | none => .wait s { c with started := true, owes := true }

/-! ### Shared bodies of the arithmetic commands -/

/-- The end of a command that computed elements of a group: destination elements and flags (R83, R153, R409). -/
def finish (s : State) (a : Lay) (d : Nat) (ws : List (EWr × Flags)) : CRes :=
  let h := s.me
  let fl := ws.foldl (fun acc (e, f) => if e.p then acc else acc ||| f) 0
  .done (s.setMe { h with vec := writeElems h.vec a d (ws.map (·.1)), fflags := h.fflags ||| fl })

/-- The end of a compare: mask bits as computed, poisoned positions in PM (R192, R409, R410). -/
def finishMask (s : State) (m : Nat) (bs : List (Nat × Bool × Bool)) : CRes :=
  let v := writeMask s.me.vec m (bs.map fun (i, b, _) => (i, b))
  .done (s.setMe { s.me with vec := setPM v ((bs.filter (·.2.2)).map (·.1)) })

end Sys2Proof.Machine
end

