-- ==== Sys2Proof/Machine/VFloat.lean ====
section
/-! DEFINITION. Vector floating point, conversions, 2^a and log2 a (R193 to R195). -/

namespace Sys2Proof.Machine

/-! ### 2^a and log2 a, correctly rounded (R195)

Both are formed in fixed point with 320 fraction bits; the 40 lowest are dropped again, and what is left of an
irrational value is a trifle above it. -/

/-- Fraction bits of the fixed point. -/
def fixP : Nat := 320

/-- ln 2 in units of 2^−320, rounded down. -/
def ln2Fix : Nat := 0xb17217f7d1cf79abc9e3b39803f2f6af40f343267298b62d8a0d175b8baafa2be7b876206debac98

/-- The sum of y^n / n! from the term `t` of number `n` on, `k` terms. -/
def expSum (y : Nat) : Nat → Nat → Nat → Nat
  | 0, _, _ => 0
  | k + 1, n, t => t + expSum y k (n + 1) (t * y / ((n + 1) * 2 ^ fixP))

/-- The sum of u^(2n+1) / (2n+1), where `t` is u^(2n+1) and `q` is u^2, `k` terms. -/
def atanhSum (q : Nat) : Nat → Nat → Nat → Nat
  | 0, _, _ => 0
  | k + 1, n, t => t / (2 * n + 1) + atanhSum q k (n + 1) (t * q / 2 ^ fixP)

/-- 2^a (R195). -/
def exp2Num (a : Num) : Num × Flags :=
  match a with
  | .nan => (.nan, 0)
  | .inf true => (.zero false, 0)
  | .inf false => (.inf false, 0)
  | .zero _ => (.fin false 1 0 false, 0)
  | .fin neg m e _ =>
    -- a in units of 2^−320, rounded toward −∞, and whether that is exact
    let sh := e + fixP
    let mag := if 0 ≤ sh then m * 2 ^ min sh.toNat 20000 else m / 2 ^ min (-sh).toNat 20000
    let exact := decide (0 ≤ sh) || m % 2 ^ (-sh).toNat == 0
    let x : Int := if neg then (if exact then -(mag : Int) else -(mag : Int) - 1) else mag
    let k := x / 2 ^ fixP
    let f := (x % 2 ^ fixP).toNat
    let k := if k < -5000 then -5000 else if 5000 < k then 5000 else k
    if f = 0 ∧ exact = true then (.fin false 1 k false, 0)
    else (.fin false (expSum (f * ln2Fix / 2 ^ fixP) 90 0 (2 ^ fixP) / 2 ^ 40) (k - fixP + 40) true, 0)

/-- log2 a (R195). -/
def log2Num (a : Num) : Num × Flags :=
  match a with
  | .nan => (.nan, 0)
  | .zero _ => (.inf true, fZD)
  | .inf false => (.inf false, 0)
  | .inf true => (.nan, fIV)
  | .fin true _ _ _ => (.nan, fIV)
  | .fin false m e _ =>
    let k : Int := (m.log2 : Int) + e
    if m = 2 ^ m.log2 then (Num.mk (decide (k < 0)) k.natAbs 0, 0)
    else
      let d := 2 ^ m.log2
      let u := (m - d) * 2 ^ fixP / (m + d)
      let l := 2 * atanhSum (u * u / 2 ^ fixP) 110 0 u * 2 ^ fixP / ln2Fix
      let x : Int := k * 2 ^ fixP + l
      (.fin (decide (x < 0)) (x.natAbs / 2 ^ 40) (-(fixP : Int) + 40) true, 0)

/-! ### The instructions of R193 -/

/-- The storage widths of SRC1 and DST are held under R180. -/
def heldOk (a : Lay) (w : W) : Bool :=
  extent a (storageWidth (FW.of w).src1) != 0 && extent a (storageWidth (FW.of w).dst) != 0

/-- vd[i] := op(vs1[i], vs2[i]) for two-source elementwise instructions (R193). -/
def fltVV (op : FW → Nat → Nat → Nat × Flags) (f : FV) (c : Cmd) (s : State) : CRes :=
  let v := s.me.vec
  let a := v.lay
  let f' := FW.of c.fw
  let la := layOf a (storageWidth f'.src1)
  checked c s (some (fwElem c.fw true && heldOk a c.fw))
    (finish s (layOf a (storageWidth f'.dst)) f.a.toNat ((c.acts v f.msk).map fun i =>
      let (x, fl) := op f' (elemGet v la f.b.toNat i) (elemGet v la f.c.toNat i)
      (⟨i, x, elemPoison v la f.b.toNat i || elemPoison v la f.c.toNat i⟩, fl)))

/-- The one-source elementwise instructions. -/
def fltV1 (op : FW → Nat → Nat × Flags) (f : FV) (c : Cmd) (s : State) : CRes :=
  let v := s.me.vec
  let a := v.lay
  let f' := FW.of c.fw
  let la := layOf a (storageWidth f'.src1)
  checked c s (some (fwElem c.fw false && heldOk a c.fw))
    (finish s (layOf a (storageWidth f'.dst)) f.a.toNat ((c.acts v f.msk).map fun i =>
      let (x, fl) := op f' (elemGet v la f.b.toNat i)
      (⟨i, x, elemPoison v la f.b.toNat i⟩, fl)))

/-- The fused instructions: ±(vs1[i] × vs2[i]) ± vd[i] (R193). -/
def fltFused (negp negc : Bool) (f : FV) (c : Cmd) (s : State) : CRes :=
  let v := s.me.vec
  let a := v.lay
  let f' := FW.of c.fw
  let la := layOf a (storageWidth f'.src1)
  let ld := layOf a (storageWidth f'.dst)
  checked c s (some (fwFused c.fw && heldOk a c.fw))
    (finish s ld f.a.toNat ((c.acts v f.msk).map fun i =>
      let (x, fl) := fFma f' negp negc (elemGet v la f.b.toNat i) (elemGet v la f.c.toNat i) (elemGet v ld f.a.toNat i)
      (⟨i, x, elemPoison v la f.b.toNat i || elemPoison v la f.c.toNat i || elemPoison v ld f.a.toNat i⟩, fl)))

/-- |a| with the sign bit of b (R193). -/
def fSgn (f : FW) (a b : Nat) : Nat × Flags :=
  let x := (readFlt f.src1 a).abs
  roundTo f (if nbit b (fmtWidth f.src1 - 1) then x.neg else x, 0)

def fExp (f : FW) (a : Nat) : Nat × Flags := roundTo f (exp2Num (readFlt f.src1 a))
def fLog (f : FW) (a : Nat) : Nat × Flags := roundTo f (log2Num (readFlt f.src1 a))

/-- Byte `j` of a scale register (R85, R205). -/
def scaleByte (v : VecRegs) (r j : Nat) : Nat := elemGet v ⟨8, 1⟩ r j

/-- The block scale of element `i` of a source whose scales lie in register `r` (R85, R86): its exponent, none for
0xFF. -/
def blockScale (v : VecRegs) (r i : Nat) : Option Int :=
  let x := scaleByte v r (i / 32)
  if x = 255 then none else some ((x : Int) - 127)

/-- VFCVT (R92, R93, R194). -/
def runVfcvt (f : FV) (c : Cmd) (s : State) : CRes :=
  let v := s.me.vec
  let a := v.lay
  let f' := FW.of c.fw
  let la := layOf a (storageWidth f'.src1)
  let r := f.b.toNat + extent a (storageWidth f'.src1)
  checked c s (some (fwConv c.fw false && heldOk a c.fw && (!f'.scl1 || decide (r < 32))))
    (finish s (layOf a (storageWidth f'.dst)) f.a.toNat ((c.acts v f.msk).map fun i =>
      let (x, fl) := convert f'.src1 f'.dst f'.rm f'.ovf f'.ts (if f'.scl1 then blockScale v r i else none) f'.scl1
        (elemGet v la f.b.toNat i % 2 ^ fmtWidth f'.src1)
      (⟨i, x, elemPoison v la f.b.toNat i || (f'.scl1 && elemPoison v ⟨8, 1⟩ r (i / 32))⟩, fl)))

/-- VFCLASS (R130, R194). -/
def runVfclass (f : FV) (c : Cmd) (s : State) : CRes :=
  let v := s.me.vec
  let a := v.lay
  let f' := FW.of c.fw
  let la := layOf a (storageWidth f'.src1)
  checked c s (some (fwCmp c.fw false && extent a (storageWidth f'.src1) != 0 && decide (16 ≤ a.sew)))
    (finish s a f.a.toNat ((c.acts v f.msk).map fun i =>
      (⟨i, classOf f'.src1 (elemGet v la f.b.toNat i), elemPoison v la f.b.toNat i⟩, 0)))

def runVfadd (f : FV) (c : Cmd) (s : State) : CRes := fltVV fAdd f c s
def execVfadd (f : FV) (s : State) : Out := issue s (.vfadd f) [] (some f.fs) (runVfadd f)
def runVfsub (f : FV) (c : Cmd) (s : State) : CRes := fltVV fSub f c s
def execVfsub (f : FV) (s : State) : Out := issue s (.vfsub f) [] (some f.fs) (runVfsub f)
def runVfmul (f : FV) (c : Cmd) (s : State) : CRes := fltVV fMul f c s
def execVfmul (f : FV) (s : State) : Out := issue s (.vfmul f) [] (some f.fs) (runVfmul f)
def runVfdiv (f : FV) (c : Cmd) (s : State) : CRes := fltVV fDiv f c s
def execVfdiv (f : FV) (s : State) : Out := issue s (.vfdiv f) [] (some f.fs) (runVfdiv f)
def runVfmin (f : FV) (c : Cmd) (s : State) : CRes := fltVV fMin f c s
def execVfmin (f : FV) (s : State) : Out := issue s (.vfmin f) [] (some f.fs) (runVfmin f)
def runVfmax (f : FV) (c : Cmd) (s : State) : CRes := fltVV fMax f c s
def execVfmax (f : FV) (s : State) : Out := issue s (.vfmax f) [] (some f.fs) (runVfmax f)
def runVfsgn (f : FV) (c : Cmd) (s : State) : CRes := fltVV fSgn f c s
def execVfsgn (f : FV) (s : State) : Out := issue s (.vfsgn f) [] (some f.fs) (runVfsgn f)
def runVfsqrt (f : FV) (c : Cmd) (s : State) : CRes := fltV1 fSqrt f c s
def execVfsqrt (f : FV) (s : State) : Out := issue s (.vfsqrt f) [] (some f.fs) (runVfsqrt f)
def runVfexp (f : FV) (c : Cmd) (s : State) : CRes := fltV1 fExp f c s
def execVfexp (f : FV) (s : State) : Out := issue s (.vfexp f) [] (some f.fs) (runVfexp f)
def runVflog (f : FV) (c : Cmd) (s : State) : CRes := fltV1 fLog f c s
def execVflog (f : FV) (s : State) : Out := issue s (.vflog f) [] (some f.fs) (runVflog f)
def runVfma (f : FV) (c : Cmd) (s : State) : CRes := fltFused false false f c s
def execVfma (f : FV) (s : State) : Out := issue s (.vfma f) [] (some f.fs) (runVfma f)
def runVfms (f : FV) (c : Cmd) (s : State) : CRes := fltFused false true f c s
def execVfms (f : FV) (s : State) : Out := issue s (.vfms f) [] (some f.fs) (runVfms f)
def runVfnma (f : FV) (c : Cmd) (s : State) : CRes := fltFused true false f c s
def execVfnma (f : FV) (s : State) : Out := issue s (.vfnma f) [] (some f.fs) (runVfnma f)
def execVfcvt (f : FV) (s : State) : Out := issue s (.vfcvt f) [] (some f.fs) (runVfcvt f)
def execVfclass (f : FV) (s : State) : Out := issue s (.vfclass f) [] (some f.fs) (runVfclass f)

end Sys2Proof.Machine
end

