-- ==== Sys2Proof/Machine/Scale.lean ====
section
/-! DEFINITION. Scales, quantisation and tensor maxima (R215 to R220). -/

namespace Sys2Proof.Machine

/-- The wide source of R215: its layout. -/
def wideLay (v : VecRegs) (w : W) : Lay := ⟨storageWidth (FW.of w).src1, wideExtent v.lay (storageWidth (FW.of w).src1)⟩

/-- Element `i` of the wide source, scaled by TSCALE, and its poison. -/
def wideElem (v : VecRegs) (w : W) (r : BitVec 5) (i : Nat) : Num × Bool :=
  let a := wideLay v w
  ((readFlt (FW.of w).src1 (elemGet v a r.toNat i)).scale (FW.of w).ts, elemPoison v a r.toNat i)

/-- The fields that VSCALE and VQUANT read (R215). -/
def fwQuant (w : W) : Bool :=
  let f := FW.of w
  fwCommon w && inF f.src1 && decide (5 ≤ f.dst ∧ f.dst ≤ 7) && !f.scl1 && !f.scl2

/-- The greatest magnitude of a list of values that are not NaN; +0 of none. -/
def maxAbs (xs : List Num) : Num := xs.foldl (fun a x => maxNum a x.abs) (.zero false)

/-- emax of a destination of VSCALE (R216). -/
def emaxOf (code : Nat) : Int := if code = 5 then 2 else if code = 6 then 8 else 15

/-- The scale byte of one block's active values (R216). -/
def scaleOf (dst : Nat) (xs : List Num) : Nat × Flags :=
  if xs.any fun x => x == .nan || x == .inf false || x == .inf true then (255, fIV)
  else match maxAbs xs with
    | .fin _ m e _ =>
      let e' : Int := (m.log2 : Int) + e - emaxOf dst + 127
      if e' < 0 then (0, fSAT) else if 254 < e' then (254, fSAT) else (e'.toNat, 0)
    | _ => (127, 0)

/-- VSCALE (R216). -/
def runVscale (f : FV) (c : Cmd) (s : State) : CRes :=
  let v := s.me.vec
  let block (j : Nat) : List (Num × Bool) :=
    ((upTo (32 * j) 32).filter fun i => decide (c.resume ≤ i ∧ i < v.vl) && mkPermits v f.msk i).map (wideElem v c.fw f.b)
  checked c s (some (fwQuant c.fw))
    (finish s ⟨8, 1⟩ f.a.toNat ((upTo 0 (cdiv v.vl 32)).filterMap fun j =>
      match block j with
      | [] => none
      | xs =>
        let (x, fl) := scaleOf (FW.of c.fw).dst (xs.map (·.1))
        some (⟨j, x, xs.any (·.2)⟩, fl)))
noncomputable def execVscale (f : FV) (s : State) : Out := issue s (.vscale f) [] (some f.fs) (runVscale f)

/-- VQUANT (R217). -/
def runVquant (f : FV) (c : Cmd) (s : State) : CRes :=
  let v := s.me.vec
  let f' := FW.of c.fw
  let r := f.a.toNat + v.lay.g
  checked c s (some (fwQuant c.fw && decide (f'.rm ≤ 4) && storageWidth f'.dst == v.lay.sew && decide (r ≤ 31)))
    (finish s v.lay f.a.toNat ((c.acts v f.msk).map fun i =>
      let (y, p) := wideElem v c.fw f.b i
      let y := match blockScale v r i with
        | none => Num.nan
        | some k => y.scale (-k)
      let (x, fl) := writeFlt f'.dst f'.rm f'.ovf y
      (⟨i, x, p || elemPoison v ⟨8, 1⟩ r (i / 32)⟩, fl)))
noncomputable def execVquant (f : FV) (s : State) : Out := issue s (.vquant f) [] (some f.fs) (runVquant f)

/-- The canonical NaN of FP32, and the magnitude that a drain leaves in a register (R219). -/
def nan32 : BitVec 32 := 0x7FC00000#32
def amaxJoin (a u : BitVec 32) : BitVec 32 := if a = nan32 ∨ u = nan32 then nan32 else if a.toNat < u.toNat then u else a

/-- One update applied to the context's register (R219, R220). -/
def applyAmax (s : State) (ctx : Nat) (u : Nat × BitVec 32) : State :=
  let k := s.ctx ctx
  s.setCtx ctx { k with amax := k.amax.set u.1 (amaxJoin (k.amax.get 0 u.1) u.2) }

/-- Every update of a hart's own VAMAX instructions applied (R220). -/
def drainAll (s : State) (hart : Nat) : State :=
  let h := s.hart hart
  (h.vec.drain.foldl (fun s u => applyAmax s h.ctx u) s).setHart hart { h with vec := { h.vec with drain := [] } }

/-- The update of a VAMAX over its active values (R219). -/
def amaxUpdate (f : FW) (xs : List Num) : BitVec 32 × Flags :=
  if xs.contains .nan then (nan32, 0)
  else
    let (x, fl) := writeFlt 10 2 f.ovf (maxAbs xs)
    (BitVec.ofNat 32 x, fl)

/-- VAMAX: one update passed to the drain (R219). A poisoned element takes part with the value it holds and sets no
flag; DESIGN CHOICE, log 12. -/
def runVamax (f : FV) (c : Cmd) (s : State) : CRes :=
  let v := s.me.vec
  let f' := FW.of c.fw
  checked c s (some (fwCommon c.fw && decide (5 ≤ f'.src1 ∧ f'.src1 ≤ 11) && !f'.scl1 && !f'.scl2))
    (match (c.acts v f.msk).map (wideElem v c.fw f.b) with
     | [] => .done s
     | xs =>
       let (u, fl) := amaxUpdate f' (xs.map (·.1))
       .done (s.setMe ({ s.me with vec := { v with drain := v.drain ++ [(f.a.toNat, u)] } }.addFlags
         (if xs.any (·.2) then 0 else fl))))
noncomputable def execVamax (f : FV) (s : State) : Out := issue s (.vamax f) [] (some f.fs) (runVamax f)

end Sys2Proof.Machine
end

