-- ==== Sys2Proof/Machine/DiffMem.lean ====
section
/-! DEFINITION. Differentiable regions, their adjoint cells and the moraine tape (R301 to R317), and what becomes of
a poisoned store (R410, R411): the operations that scalar and vector accesses share. -/

namespace Sys2Proof.Machine

/-- The region slots of a context (R302): primal base, cell base, pw and COUNT. -/
def regionSlot (c : Context) (n : Nat) : Nat × Nat × Nat × Nat :=
  let sz := c.drsize.get 0 n
  ((c.drbase.get 0 n).toNat, (c.dradj.get 0 n).toNat, 2 ^ fld sz 40 2, fld sz 0 40)

/-- The slot whose primal range holds a byte of an access of `w` bytes (R301). -/
def regionAt (c : Context) (ea : W) (w : Nat) : Option Nat :=
  findUp (fun n =>
    let (base, _, pw, cnt) := regionSlot c n
    decide (0 < cnt ∧ ea.toNat < base + cnt * pw ∧ base < ea.toNat + w)) 0 8

/-- Whether any slot is valid, and the mode is not OFF: accesses of the hart are to be tested. -/
def dmOn (s : State) : Bool := s.me.mode != 0 && !s.myCtx.drsize.isEmpty

/-- The region that an access of the moving hart lies in, in FWD or REV (R304). -/
def myRegion (s : State) (ea : W) (w : Nat) : Option Nat := if dmOn s then regionAt s.myCtx ea w else none

/-- The cell of the primal element at an address of slot `n` (R301). -/
def cellOf (c : Context) (n : Nat) (ea : W) : W :=
  let (base, adj, pw, _) := regionSlot c n
  BitVec.ofNat 64 (adj + 4 * ((ea.toNat - base) / pw))

/-- Region conflict (R398). -/
def conflict (ea : W) : Cause := ⟨0x17, ea⟩

/-- FP32 addition with RNE and OVF = 0 (R315). -/
def add32 (a b : Nat) : Nat × Flags :=
  let (x, f) := addNum 0 (readFlt 10 a) (readFlt 10 b)
  let (r, g) := writeFlt 10 0 false x
  (r, f ||| g)

/-! ### The tape -/

/-- The dwords of a record (R309): width code, address and stride of position 0, and the recorded positions with
their old values. -/
def recordWords (wc : Nat) (addr stride : W) (count : Nat) (vals : List (Nat × Nat)) : List W :=
  let w := 2 ^ wc
  let dlen := cdiv (count * w) 16
  let data := vals.foldl (fun acc (j, v) => acc + v % 256 ^ w * 256 ^ (j * w)) 0
  let mask := vals.foldl (fun acc (j, _) => acc + 2 ^ j) 0
  (upTo 0 (2 * dlen)).map (fun i => BitVec.ofNat 64 (data / 2 ^ (64 * i))) ++
    [addr, stride, BitVec.ofNat 64 mask, BitVec.ofNat 64 (wc * 2 ^ 24 + count * 2 ^ 16 + dlen)]

/-- The 4-byte words of a record's data that hold part of a poisoned old value, numbered from its start: they carry the poison
onto the tape; DESIGN CHOICE, log 13. -/
def recordMarks (wc : Nat) (bad : List Nat) : List Nat :=
  bad.flatMap fun j => upTo (j * 2 ^ wc / 4) ((j * 2 ^ wc + 2 ^ wc + 3) / 4 - j * 2 ^ wc / 4)

/-- The dwords of a mark record (R309). -/
def markWords (tag : Nat) : List W := [0, 0, 0, BitVec.ofNat 64 (tag % 4096 * 2 ^ 32 + 2 ^ 31)]

/-- Dwords stored upward from an address at the hart's level, those among `bad` with the poison of one or both of their words;
the first cause leaves everything as it was. -/
def storeWords (s : State) (party : Party) (va : W) (bad : List Nat) : List W → Except Cause State
  | [] => .ok s
  | x :: r =>
    match xlateMe s party .store va 8 with
    | .error c => .error c
    | .ok p =>
      let t := storeAt p.st p.phys (leBytes 8 x.toNat) none
      let t := if blockDark t p.phys.loc then t
               else (bad.filter (· < 2)).foldl (fun t k => poisonRange t (p.phys.loc + 4 * k) 4) t
      storeWords t party (va + 8) ((bad.filter (2 ≤ ·)).map (· - 2)) r

/-- Records appended to the tape (R311 steps 3 and 4): tape full with TVAL the sum, then the causes of the record
writes; TAPEPTR advances past them. `bad`: the 4-byte words among them that are poisoned. -/
def appendTape (s : State) (party : Party) (words : List W) (bad : List Nat) : Except Cause State :=
  let h := s.me
  let top := h.tapeptr.toNat + 8 * words.length
  if h.tapelim.toNat < top then .error ⟨0x16, BitVec.ofNat 64 top⟩
  else match storeWords s party h.tapeptr bad words with
    | .error c => .error c
    | .ok t => .ok (t.setMe { t.me with tapeptr := BitVec.ofNat 64 top })

/-! ### Poisoned stores -/

/-- A scalar store suppressed at `ea` (R410): the first since REP was cleared raises a record, taken after the
store (R411). -/
def suppressScalar (s : State) (ea : W) : State :=
  let h := s.me
  if h.flt.rep then s
  else s.setMe { h with flt := { h.flt with rep := true, record := some ⟨2, 0x1A, ea, 0, 127, []⟩ } }

/-- A vector store suppressed first at element `i`: its record is taken like a fault once the store has completed
(R411). -/
def suppressVector (s : State) (ea : W) (i : Nat) : State :=
  let h := s.me
  if h.flt.rep then s
  else s.setMe { h with flt := { h.flt with rep := true, pending := some ⟨2, 0x1A, ea, i, 127, []⟩ } }

/-! ### Inverted accesses of one element -/

/-- The cell access of the moving hart, which needs both R and W (R315). -/
def cellPlace (s : State) (party : Party) (n : Nat) (ea : W) : Except Cause Placed :=
  xlateMe s party .amo (cellOf s.myCtx n ea) 4

/-- cell := round(cell + x), with flags; a poisoned operand is not stored (R315, R410). The answer says whether the
store was suppressed. -/
def cellAdd (s : State) (p : Phys) (x : Nat) (poisoned : Bool) : State × Bool :=
  if poisoned || marked s p.loc 4 then (s, true)
  else
    let (r, fl) := add32 (loadAt s p 4) x
    let s := storeAt s p (leBytes 4 r) none
    (s.setMe (s.me.addFlags fl), false)

/-- The cell read and set to +0 as one step: its old value and whether it was poisoned (R315). -/
def cellSwap (s : State) (p : Phys) : Nat × Bool × State :=
  (loadAt s p 4, marked s p.loc 4, storeAt s p (leBytes 4 0) none)

end Sys2Proof.Machine
end

