-- ==== Sys2Proof/Machine/Sync.lean ====
section
/-! DEFINITION. Shelves (R349, R350, R375 to R377), barrier slots (R351 to R353, R378 to R380), and the token-drawer
instructions (R388). -/

namespace Sys2Proof.Machine

/-- The place of an access that a command makes for itself (R369). In a differentiable region, a store in FWD or REV
and a load in REV are a region conflict; DEDUCED, log 16. -/
def ownPlace (s : State) (k : Kind) (va : W) (w : Nat) : Except Cause Placed :=
  match xlateMe s .vector k va w with
  | .error c => .error c
  | .ok p => if (k.isStore || s.me.mode == 2) && (myRegion s va w).isSome then .error (conflict va) else .ok p

/-- A dword of a status or a result, poisoned as asked. -/
def putGP (s : State) (r : Nat) (x : W) (p : Bool) : State := s.setMe (s.me.wrP r x p)

/-! ### Shelves -/

/-- A dword of a shelf: in the local window or on a page with MT = 0 (R375). -/
def shelfPlace (s : State) (k : Kind) (va : W) : Except Cause Placed :=
  match ownPlace s k va 8 with
  | .error c => .error c
  | .ok p => if p.phys.mt ≠ 0 ∨ isDevReg p.phys.loc then .error ⟨0x0F, va⟩ else .ok p

/-- SSIZE, NST and SCOPE of the geometry dword, and whether it is one of R349. -/
def shSize (g : W) : Nat := fld g 0 32
def shNst (g : W) : Nat := fld g 32 16
def shSys (g : W) : Bool := fld g 48 3 == 4
def shGeoOk (g : W) : Bool :=
  shSize g % 64 == 0 && decide (64 ≤ shSize g ∧ shSize g ≤ 2 ^ 24) && shNst g != 0 &&
    decide (1 ≤ fld g 48 3 ∧ fld g 48 3 ≤ 4) && fld g 51 13 == 0

/-- The address of SEQ[t mod N]. -/
def seqAddr (gh g t : W) : W := gh + 64 + BitVec.ofNat 64 (8 * (t.toNat % shNst g))

/-- Dwords of a shelf stored upward. -/
def shelfStores (s : State) (va : W) : List W → Except Cause State
  | [] => .ok s
  | x :: r =>
    match shelfPlace s .store va with
    | .error c => .error c
    | .ok p => shelfStores (storeAt p.st p.phys (leBytes 8 x.toNat) none) (va + 8) r

/-- SHINIT (R376): its release covers its own writes. -/
def runShinit (f : FE) (c : Cmd) (s : State) : CRes :=
  let (gh, base, geo) := (c.g 0, c.g 1, c.g 2)
  if c.gpois 0 then .badAddr c s gh
  else if c.gp.any id then .poison c s
  else if gh.toNat % 64 ≠ 0 ∨ base.toNat % 64 ≠ 0 ∨ !shGeoOk geo then .done (putG c s f.a 1)
  else match shelfStores s gh ([0, 0, base, geo, 0, 0, 0, 0] ++ (upTo 0 (shNst geo)).map (BitVec.ofNat 64)) with
    | .error ca => .refuse c s ca
    | .ok t => .done (putG c (releaseTo t (shSys geo)) f.a 0)
noncomputable def execShinit (f : FE) (s : State) : Out :=
  issue s (.shinit f) [f.b.toNat, f.c.toNat, f.c.toNat + 1] none (runShinit f)

/-- BASE and the geometry dword of a header, and whether they are poisoned. -/
def shelfHeader (s : State) (gh : W) : Except Cause (State × W × W × Bool) :=
  match shelfPlace s .load (gh + 16) with
  | .error c => .error c
  | .ok p =>
    match shelfPlace p.st .load (gh + 24) with
    | .error c => .error c
    | .ok q =>
      .ok (q.st, BitVec.ofNat 64 (loadAt q.st p.phys 8), BitVec.ofNat 64 (loadAt q.st q.phys 8),
        marked q.st p.phys.loc 8 || marked q.st q.phys.loc 8)

/-- SHACQ and SHWAIT: a ticket from the counter at `ctr`, then a wait for SEQ[t mod N] = t + `d` (R350, R377). -/
def shelfTake (ctr : W) (d : W) (f : FE) (c : Cmd) (s : State) : CRes :=
  let gh := c.g 0
  let out (t : State) (x y : W) (p : Bool) : CRes :=
    .done (putGP (putGP t f.a.toNat x p) (f.a.toNat + 1) y p)
  if c.gpois 0 then .badAddr c s gh
  else if gh.toNat % 64 ≠ 0 then out s 0 (BitVec.allOnes 64) false
  else match shelfHeader s gh with
    | .error ca => .refuse c s ca
    | .ok (t, base, geo, hp) =>
      if !shGeoOk geo then out t 0 (BitVec.allOnes 64) hp
      else
        -- the ticket that the entry holds, or a new one
        let got : Except Cause (State × W × Bool) := match c.ticket with
          | some k => .ok (t, k, false)
          | none => match shelfPlace t .amo (gh + ctr) with
            | .error ca => .error ca
            | .ok p =>
              let k := BitVec.ofNat 64 (loadAt p.st p.phys 8)
              let q := marked p.st p.phys.loc 8
              .ok (if q then p.st else storeAt p.st p.phys (leBytes 8 (k + 1).toNat) none, k, q)
        match got with
        | .error ca => .refuse c s ca
        | .ok (u, k, kp) =>
          match shelfPlace u .load (seqAddr gh geo k) with
          | .error ca => .refuse c (if c.ticket.isSome then u else s) ca
          | .ok p =>
            if loadAt p.st p.phys 8 = (k + d).toNat then
              out p.st (base + BitVec.ofNat 64 (k.toNat % shNst geo * shSize geo)) k
                (hp || kp || marked p.st p.phys.loc 8)
            else .wait p.st { c with ticket := some k, started := true }

def runShacq (f : FE) (c : Cmd) (s : State) : CRes := shelfTake 0 0 f c s
noncomputable def execShacq (f : FE) (s : State) : Out := issue s (.shacq f) [f.b.toNat] none (runShacq f)
def runShwait (f : FE) (c : Cmd) (s : State) : CRes := shelfTake 8 1 f c s
noncomputable def execShwait (f : FE) (s : State) : Out := issue s (.shwait f) [f.b.toNat] none (runShwait f)

/-- SHCOM and SHREL: SEQ[t mod N] compared with t + `d` and replaced, as one atomic (R377). A poisoned ticket is
store data, and suppressed (R410). -/
def shelfPut (d : W) (new : W → W → W) (f : FE) (c : Cmd) (s : State) : CRes :=
  let gh := c.g 0
  let k := c.g 1
  if c.gpois 0 then .badAddr c s gh
  else if gh.toNat % 64 ≠ 0 then .done (putG c s f.a 2)
  else match shelfHeader s gh with
    | .error ca => .refuse c s ca
    | .ok (t, _, geo, hp) =>
      if !shGeoOk geo then .done (putGP t f.a.toNat 2 hp)
      else match shelfPlace t .amo (seqAddr gh geo k) with
        | .error ca => .refuse c s ca
        | .ok p =>
          let q := hp || c.gpois 1 || marked p.st p.phys.loc 8
          if loadAt p.st p.phys 8 ≠ (k + d).toNat then .done (putGP p.st f.a.toNat 1 q)
          else if c.gpois 1 then .done (suppressVector (putGP p.st f.a.toNat 0 q) (seqAddr gh geo k) 0)
          else
            let n := BitVec.ofNat 64 (shNst geo)
            .done (putGP (storeAt (releaseTo p.st (shSys geo)) p.phys (leBytes 8 (new k n).toNat) none) f.a.toNat 0 q)

def runShcom (f : FE) (c : Cmd) (s : State) : CRes := shelfPut 0 (fun k _ => k + 1) f c s
noncomputable def execShcom (f : FE) (s : State) : Out := issue s (.shcom f) [f.b.toNat, f.c.toNat] none (runShcom f)
def runShrel (f : FE) (c : Cmd) (s : State) : CRes := shelfPut 1 (fun k n => k + n) f c s
noncomputable def execShrel (f : FE) (s : State) : Out := issue s (.shrel f) [f.b.toNat, f.c.toNat] none (runShrel f)

/-! ### Barrier slots -/

/-- The place of a slot, live or not: the checks of R353 do not bar the barrier instructions. -/
def slotPlace (s : State) (k : Kind) (va : W) : Except Cause Placed :=
  match ownPlace { s with live := [] } k va 16 with
  | .error c => .error c
  | .ok p => .ok { p with st := { p.st with live := s.live } }

/-- A place that may hold a slot: the local window, or local device memory with MT = 0 (R351). -/
def slotHome (va : W) (p : Phys) : Bool := inWindow va || (p.mt == 0 && isLocalMem p.loc)

/-- The live slot at a location. -/
def liveAt (s : State) (loc : Nat) : Option LiveSlot := s.live.find? (·.loc == loc)

/-- The contents of a live slot (R351). -/
structure SlotBits where
  count : Nat
  pend : Nat
  phase : Nat
  txb : W
deriving DecidableEq, Repr

def readSlot (s : State) (l : LiveSlot) : SlotBits :=
  let d : W := BitVec.ofNat 64 (loadAt s ⟨l.loc, 0, l.key, none⟩ 8)
  ⟨fld d 48 16, fld d 32 16, fld d 0 1, BitVec.ofNat 64 (loadAt s ⟨l.loc + 8, 0, l.key, none⟩ 8)⟩

def slotBytes (b : SlotBits) : List Byte :=
  leBytes 8 (b.count * 2 ^ 48 + b.pend * 2 ^ 32 + b.phase) ++ leBytes 8 b.txb.toNat

def writeSlot (s : State) (l : LiveSlot) (b : SlotBits) : State := storeAt s ⟨l.loc, 0, l.key, none⟩ (slotBytes b) none

/-- Every BWAIT that watches a slot sees that a phase of it has ended (R380). -/
def wakeWatchers (s : State) (id : Nat) : State :=
  { s with harts := s.harts.map fun (n, h) =>
      (n, { h with queue := h.queue.map fun c =>
        match c.watch with
        | some (i, b) => { c with watch := some (i, b || i == id) }
        | none => c }) }

/-- A change to a live slot with the phase rule, as one write (R352). -/
def changeSlot (s : State) (l : LiveSlot) (b : SlotBits) : State :=
  if b.pend = 0 ∧ b.txb = 0 then wakeWatchers (writeSlot s l { b with phase := 1 - b.phase, pend := b.count }) l.id
  else writeSlot s l b

/-- A chunk's bytes taken from TXB; nothing when the slot is not live (R374). -/
def creditSlot (s : State) (loc bytes : Nat) : State :=
  match liveAt s loc with
  | none => s
  | some l => let b := readSlot s l; changeSlot s l { b with txb := b.txb - BitVec.ofNat 64 bytes }

/-- A barrier instruction on a slot: status 1 when misaligned, 2 when not live (R378). -/
def onSlot (f : FE) (c : Cmd) (s : State) (body : State → LiveSlot → SlotBits → CRes) : CRes :=
  let va := c.g 0
  if c.gpois 0 then .badAddr c s va
  else if va.toNat % 16 ≠ 0 then .done (putG c s f.a 1)
  else match slotPlace s .amo va with
    | .error ca => .refuse c s ca
    | .ok p =>
      match liveAt p.st p.phys.loc with
      | none => .done (putG c p.st f.a 2)
      | some l => body p.st l (readSlot p.st l)

/-- BSET (R379). -/
def runBset (f : FE) (c : Cmd) (s : State) : CRes :=
  let va := c.g 0
  let n := (c.g 1).toNat
  let die := dieOfCore (coreOf s.cur)
  if c.gpois 0 then .badAddr c s va
  else if c.gp.any id then .poison c s
  else if va.toNat % 16 ≠ 0 ∨ n = 0 ∨ 65535 < n then .done (putG c s f.a 1)
  else match slotPlace s .amo va with
    | .error ca => .refuse c s ca
    | .ok p =>
      if !slotHome va p.phys then .refuse c s ⟨0x0F, va⟩
      else if (liveAt p.st p.phys.loc).isSome then .done (putG c p.st f.a 2)
      else if 1024 ≤ (p.st.live.filter (·.die == die)).length then .done (putG c p.st f.a 3)
      else
        let l : LiveSlot := ⟨p.phys.loc, p.phys.key, die, p.st.fresh⟩
        let t := writeSlot { p.st with live := p.st.live ++ [l], fresh := p.st.fresh + 1 } l ⟨n, n, 0, 0⟩
        .done (putG c t f.a 0)
noncomputable def execBset (f : FE) (s : State) : Out := issue s (.bset f) [f.b.toNat, f.c.toNat] none (runBset f)

/-- BARV (R352, R378). -/
def runBarv (f : FE) (c : Cmd) (s : State) : CRes :=
  onSlot f c s fun t l b =>
    if b.pend = 0 then .done (putG c t f.a 3)
    else .done (putG c (changeSlot t l { b with pend := b.pend - 1 }) f.a (BitVec.ofNat 64 b.phase))
noncomputable def execBarv (f : FE) (s : State) : Out := issue s (.barv f) [f.b.toNat] none (runBarv f)

/-- BEXP (R352, R378). A poisoned count is store data, and suppressed (R410). -/
def runBexp (f : FE) (c : Cmd) (s : State) : CRes :=
  onSlot f c s fun t l b =>
    if c.gpois 1 then .done (suppressVector (putG c t f.a 0) (c.g 0) 0)
    else .done (putG c (changeSlot t l { b with txb := b.txb + c.g 1 }) f.a 0)
noncomputable def execBexp (f : FE) (s : State) : Out := issue s (.bexp f) [f.b.toNat, f.c.toNat] none (runBexp f)

/-- BRET (R351, R378). -/
def runBret (f : FE) (c : Cmd) (s : State) : CRes :=
  onSlot f c s fun t l _ =>
    .done (putG c (writeSlot { t with live := t.live.filter (·.id != l.id) } l ⟨0, 0, 0, 0⟩) f.a 0)
noncomputable def execBret (f : FE) (s : State) : Out := issue s (.bret f) [f.b.toNat] none (runBret f)

/-- BWAIT (R380): its entry keeps the slot that it found, and whether a phase has ended since. -/
def runBwait (f : FE) (c : Cmd) (s : State) : CRes :=
  match c.watch with
  | some (_, true) => .done (putG c s f.a 0)
  | some (id, false) =>
    if s.live.any (·.id == id) then .wait s c else .done (putG c s f.a 2)
  | none =>
    onSlot f c s fun t l b =>
      if b.phase ≠ fld (c.g 1) 0 1 then .done (putG c t f.a 0)
      else .wait t { c with watch := some (l.id, false), started := true }
noncomputable def execBwait (f : FE) (s : State) : Out := issue s (.bwait f) [f.b.toNat, f.c.toNat] none (runBwait f)

/-! ### Token drawers (R346, R388) -/

/-- Whether transfers that a queue requested have not retired (R336). -/
def xfersOpen (s : State) (q : Nat) : Bool :=
  s.xfers.any fun x => x.hart == s.cur && ((q == 2 && !x.kgat) || (q == 3 && x.kgat))

/-- DRPUSH: it waits until its queue's transfers have retired, and for room (R388). -/
def runDrpush (f : FE) (c : Cmd) (s : State) : CRes :=
  let own := f.imm.toNat % 4
  if xfersOpen s own then .wait s c else payToken own (f.imm.toNat / 4 % 4) c s
noncomputable def execDrpush (f : FE) (s : State) : Out := issue s (.drpush f) [] none (runDrpush f)

/-- DRPOP (R388). -/
def runDrpop (f : FE) (c : Cmd) (s : State) : CRes :=
  match takeToken s.me (f.imm.toNat / 4 % 4) (f.imm.toNat % 4) with
  | some h => .done (s.setMe h)
  | none => .wait s c
noncomputable def execDrpop (f : FE) (s : State) : Out := issue s (.drpop f) [] none (runDrpop f)

end Sys2Proof.Machine
end

