-- ==== Sys2Proof/Machine/VSet.lean ====
section
/-! DEFINITION. SETVL, SETVLK, SHAPE, VFOLD and VFOLDTO (R183 to R189). -/

namespace Sys2Proof.Machine

/-! ### Grant steps -/

/-- SCNT counts a strip of the moving loop context: a SETVL outside a farm, an SFNEXT inside (R146, R366). -/
def countStrip (s : State) (counts : Bool) : State :=
  if counts then s.setMe { s.me with vec := { s.me.vec with scnt := s.me.vec.scnt + 1 } } else s

/-- A grant step as a command (R159, R164, R166, R184): at user level it needs a valid save area. -/
def runGrant (avl : Nat) (sewc : BitVec 3) (gc : BitVec 2) (gd : BitVec 5) (c : Cmd) (s : State) : CRes :=
  if c.priv = 0 ∧ !bit s.me.vec.vsave 0 then .illegal c s
  else match grantStep s s.cur avl sewc gc with
    | .waits t => .wait t c
    | .granted t lost =>
      let t := countStrip (putG c t gd (BitVec.ofNat 64 t.me.vec.vl)) s.me.farm.isNone
      let h := t.me
      .done (if lost && bit h.vec.gctl 0 && h.flt.pending.isNone then
          t.setMe { h with flt := { h.flt with pending := some ⟨1, 0x14, h.vec.gloss, 0, 127, []⟩ } }
        else t)

/-- The shape operand of R183. -/
def shapeSew (k : BitVec 12) : BitVec 3 := k.extractLsb' 0 3
def shapeG (k : BitVec 12) : BitVec 2 := k.extractLsb' 4 2

/-- SETVL (R184). -/
def runSetvl (f : FI) (c : Cmd) (s : State) : CRes :=
  runGrant (c.g 0).toNat (shapeSew f.imm) (shapeG f.imm) f.a c s
def execSetvl (f : FI) (s : State) : Out := issue s (.setvl f) [f.b.toNat] none (runSetvl f)

/-- SETVLK: SETVL with AVL = imm17 and the shape in force (R185). -/
def runSetvlk (f : FU) (c : Cmd) (s : State) : CRes :=
  runGrant f.imm.toNat s.me.vec.sewc s.me.vec.gc f.a c s
def execSetvlk (f : FU) (s : State) : Out := issue s (.setvlk f) [] none (runSetvlk f)

/-- SHAPE: a new shape and no grant step (R186). -/
def runShape (f : FI) (c : Cmd) (s : State) : CRes :=
  let v := { s.me.vec with sewc := shapeSew f.imm, gc := shapeG f.imm }
  let s := s.setMe { s.me with vec := { v with vl := min v.vl v.cap } }
  .done (putG c s f.a (BitVec.ofNat 64 v.cap))
def execShape (f : FI) (s : State) : Out := issue s (.shape f) [] none (runShape f)

/-! ### Fold registers -/

/-- The slot with V = 1 and REG = `r`. -/
def slotNamed (v : VecRegs) (r : Nat) : Option Nat :=
  findUp (fun n => slotV (v.fold n) && slotReg (v.fold n) == r) 0 4

/-- The slot that a VFOLD of register `r` fills; none: illegal (R187). -/
def slotFor (v : VecRegs) (r : Nat) : Option Nat :=
  match slotNamed v r with
  | some n => some n
  | none =>
    let meets (n : Nat) : Bool :=
      slotV (v.fold n) && decide (slotReg (v.fold n) < r + v.lay.g ∧ r < slotReg (v.fold n) + v.lay.g)
    if (upTo 0 4).any meets then none else findUp (fun n => !slotV (v.fold n)) 0 4

/-- FOLDt as VFOLD fills it (R161). -/
def foldWord (fw reg op : Nat) : W := BitVec.ofNat 64 (fw * 2 ^ 32 + 2 ^ 15 + reg * 2 ^ 8 + op)

/-- VFOLD (R187). The format word is read only for op 4. -/
def runVfold (f : FV) (c : Cmd) (s : State) : CRes :=
  let v := s.me.vec
  let put (t fw : Nat) : CRes :=
    .done (s.setMe { s.me with vec := { v with folds := v.folds.set t (foldWord fw f.a.toNat f.b.toNat) } })
  checked c s none
    (match slotFor v f.a.toNat with
     | none => .illegal c s
     | some t =>
       if f.b.toNat ≠ 4 then put t 0
       else if c.fwp then .poison c s
       else if !(fwElem c.fw false && storageWidth (FW.of c.fw).dst == v.lay.sew) then .format c s
       else put t (fld c.fw 0 32))
def execVfold (f : FV) (s : State) : Out :=
  issue s (.vfold f) [] (if f.b.toNat = 4 then some f.fs else none) (runVfold f)

/-- VFOLDTO: positions from n up fold into those below n, and the slot is released (R189). It states no operand
check of its own: a register that does not meet R188 is only released. A poisoned n counts with its value and poisons no
element; DESIGN CHOICE, log 57. -/
def runVfoldto (f : FV) (c : Cmd) (s : State) : CRes :=
  let v := s.me.vec
  match slotNamed v f.a.toNat with
  | none => .done s
  | some t =>
    let n := (c.g 0).toNat
    let cap := v.cap
    let (w, fl) :=
      if 1 ≤ n ∧ n < cap ∧ slotFolds v.lay (v.fold t) then
        let (w, fl) := foldRange v.lay (v.fold t) n n (cap - n) v
        (writeElems w v.lay f.a.toNat ((upTo n (cap - n)).map fun i => ⟨i, 0, false⟩), fl)
      else (v, 0)
    .done (s.setMe ({ s.me with vec := { w with folds := w.folds.set t 0 } }.addFlags fl))
def execVfoldto (f : FV) (s : State) : Out := issue s (.vfoldto f) [f.b.toNat] none (runVfoldto f)

end Sys2Proof.Machine
end

