-- ==== Sys2Proof/Machine/Tasks.lean ====
section
/-! DEFINITION. Task slots and the task instructions (R354 to R356, R381 to R384), and strip farms (R176, R177, R365 to
R367, R385 to R387). -/

namespace Sys2Proof.Machine

/-! ### Task slots (R354, R355) -/

def setSlot (s : State) (ctx n : Nat) (t : TaskSlot) : State :=
  let k := s.ctx ctx
  s.setCtx ctx { k with slots := k.slots.set n t }

/-- Every hart of a context that is parked by PARK gets a wake of the scheduler (R364). -/
def wakeContext (s : State) (ctx : Nat) : State :=
  { s with harts := s.harts.map fun (n, h) =>
      (n, match h.run with
        | .parked _ _ _ _ => if h.ctx = ctx then noteWake s n { h with wake := true } 2 else h
        | _ => h) }

/-- A slot becomes READY (R355, R363, R364). -/
def makeReady (s : State) (ctx n : Nat) : State :=
  wakeContext (setSlot s ctx n { (s.ctx ctx).slot n with state := .ready, since := s.time }) ctx

/-- A signal, from TKSIG or an engine; none where the state does not accept it (R355). -/
def signalTask (s : State) (ctx n : Nat) : Option State :=
  let t := (s.ctx ctx).slot n
  let c := t.counter - if t.counter = 0 then 0 else 1
  match t.state with
  | .defined => some (setSlot s ctx n { t with counter := c })
  | .eligible =>
    let s := setSlot s ctx n { t with counter := c }
    some (if c = 0 then makeReady s ctx n else s)
  | _ => none

/-- A spawn of a DEFINED slot (R355). -/
def spawnTask (s : State) (ctx n : Nat) : State :=
  let t := (s.ctx ctx).slot n
  if t.counter = 0 then makeReady s ctx n else setSlot s ctx n { t with state := .eligible }

/-- A slot back in DEFINED with its counter at 0 (R355). -/
def toDefined (s : State) (ctx n : Nat) : State :=
  setSlot s ctx n { (s.ctx ctx).slot n with state := .defined, counter := 0, left := [], saved := [], places := none }

/-- SHAPE fields (R383). -/
def shapeHarts (x : BitVec 29) : Nat := if x.toNat % 64 = 0 then 64 else x.toNat % 64
def shapePrio (x : BitVec 29) : Nat := nfld x.toNat 8 2
def shapeReg (x : BitVec 29) : Nat := nfld x.toNat 10 6
def shapeScr (x : BitVec 29) : Nat := nfld x.toNat 16 6
def shapeCac (x : BitVec 29) : Nat := nfld x.toNat 22 6
def shapeRsz (x : BitVec 29) : Bool := nbit x.toNat 28

/-- A carving that R228 accepts. -/
def carveOk (reg scr cac : Nat) : Bool := decide (4 ≤ reg ∧ reg + scr + cac ≤ 32)

/-- The checks of entry and SHAPE bits 28:0 that TKDEF and the doorbell share (R359, R383). -/
def taskOk (entry : W) (shape : Nat) : Bool :=
  entry.toNat % 4 == 0 && nfld shape 6 2 == 0 && carveOk (nfld shape 10 6) (nfld shape 16 6) (nfld shape 22 6)

/-- A slot defined (R355, R383). -/
def defineTask (s : State) (ctx n : Nat) (entry args : W) (shape : BitVec 29) : State :=
  setSlot s ctx n { TaskSlot.reset with state := .defined, entry := entry, args := args, shape := shape }

/-! ### Loop contexts that begin and end -/

/-- A hart with the registers of a loop context that has run nothing: those below control number 0x100 and the
vector state, as at reset; the kernel's registers and LWIN stay (R146, R158, R357). DEDUCED, log 20. -/
def freshLoop (h : Hart) : Hart :=
  let v := h.vec
  { h with g := [], gpois := 0, gwait := [], fflags := 0, link := none,
           vec := { VecRegs.reset with gsctl := v.gsctl, gscript := v.gscript, vsave := v.vsave, scriptDone := v.scriptDone },
           flt := { h.flt with vfstat := 0, rix := 0, vqpos := 0, rep := false, fhint := [], saved := [], pending := none,
                               record := none },
           queue := [], mode := 0, tapeptr := 0, tapelim := 0, tapebase := 0, drawers := [] }

/-- A hart's seats freed. -/
def unseat (s : State) (hart : Nat) : State :=
  s.setCore (coreOf hart) (seat (s.core (coreOf hart)) hart 0 [])

/-- What follows the token of a transfer that retires: its signal, and the event of its cause (R374). -/
def lastActs (s : State) (x : Xfer) : State :=
  let s := match x.task with
    | some n => if x.cause = 0 then (signalTask s x.ctx n).getD s else s
    | none => s
  if x.cause = 0 then s else post s x.hart 0x10 x.addr

/-- The tokens that retired transfers of a hart still owe go with its drawers; what follows them takes place; DESIGN CHOICE,
log 54. -/
def dropOwed (s : State) (hart : Nat) : State :=
  let owed (x : Xfer) : Bool := x.owing && x.hart == hart
  (s.xfers.filter owed).foldl lastActs { s with xfers := s.xfers.filter (!owed ·) }

/-- A hart runs nothing: what its drain holds is applied (R220), its seats are freed and its vector state discarded
(R384). -/
def retireLoop (s : State) (hart : Nat) : State :=
  let s := unseat (dropOwed (drainAll s hart) hart) hart
  s.setHart hart { freshLoop (s.hart hart) with run := .idle, task := none, farm := none, preempt := none }

/-- A rank has left a running task, saved or ended: with the last the slot becomes READY, when images wait for it, or
DEFINED (R355, R384). A task some of whose ranks have ended resumes with those that were saved; DEDUCED, log 25. -/
def rankLeft (s : State) (ctx n rank : Nat) (saved : Bool) : State :=
  let t := (s.ctx ctx).slot n
  if t.state ≠ .running then s
  else
    let t := { t with left := t.left.erase rank, saved := if saved then insertNat rank t.saved else t.saved }
    if t.left.isEmpty then
      (if t.saved.isEmpty then toDefined s ctx n else makeReady (setSlot s ctx n t) ctx n)
    else setSlot s ctx n t

/-! ### Task instructions (R381 to R384) -/

/-- A task instruction on the slot that g[gk] names: status 1 when malformed (R382). -/
def onTask (f : FE) (c : Cmd) (s : State) (body : Nat → TaskSlot → CRes) : CRes :=
  let k := c.g 0
  if c.gp.any id then .poison c s
  else if 256 ≤ k.toNat then .done (putG c s f.a 1)
  else body k.toNat (s.myCtx.slot k.toNat)

/-- A dword that a task command reads for itself. -/
def readOwn (s : State) (va : W) : Except Cause (W × State) :=
  match ownPlace s .load va 8 with
  | .error c => .error c
  | .ok p => .ok (BitVec.ofNat 64 (loadAt p.st p.phys 8), p.st)

/-- The three dwords of a descriptor (R383). -/
def readDesc (s : State) (va : W) : Except Cause (W × W × W × State) :=
  match readOwn s va with
  | .error c => .error c
  | .ok (x, s) =>
    match readOwn s (va + 8) with
    | .error c => .error c
    | .ok (y, s) =>
      match readOwn s (va + 16) with
      | .error c => .error c
      | .ok (z, s) => .ok (x, y, z, s)

/-- TKDEF (R383). Marked words of the descriptor count with the values they hold; DESIGN CHOICE, log 18. -/
def runTkdef (f : FE) (c : Cmd) (s : State) : CRes :=
  onTask f c s fun n t =>
    let va := c.g 1
    if va.toNat % 8 ≠ 0 then .done (putG c s f.a 1)
    else if t.state ≠ .free then .done (putG c s f.a 2)
    else match readDesc s va with
      | .error ca => .refuse c s ca
      | .ok (e, args, sh, u) =>
        let tab := s.myCtx.tktab
        let sel := f.imm.getLsbD 0
        if sel && decide (fld tab 0 12 ≤ e.toNat) then .done (putG c u f.a 3)
        else
          let entry : Except Cause (W × State) :=
            if sel then readOwn u (BitVec.ofNat 64 (fld tab 12 52 * 4096 + 8 * e.toNat)) else .ok (e, u)
          match entry with
          | .error ca => .refuse c s ca
          | .ok (entry, u) =>
            if fld sh 29 35 ≠ 0 ∨ !taskOk entry (fld sh 0 29) then .done (putG c u f.a 1)
            else .done (putG c (defineTask u s.me.ctx n entry args (BitVec.ofNat 29 (fld sh 0 29))) f.a 0)
noncomputable def execTkdef (f : FE) (s : State) : Out := issue s (.tkdef f) [f.b.toNat, f.c.toNat] none (runTkdef f)

/-- TKDEP (R382). -/
def runTkdep (f : FE) (c : Cmd) (s : State) : CRes :=
  onTask f c s fun n t =>
    if fld (c.g 1) 32 32 ≠ 0 then .done (putG c s f.a 1)
    else if t.state ≠ .defined then .done (putG c s f.a 2)
    else .done (putG c (setSlot s s.me.ctx n { t with counter := BitVec.ofNat 32 (c.g 1).toNat }) f.a 0)
noncomputable def execTkdep (f : FE) (s : State) : Out := issue s (.tkdep f) [f.b.toNat, f.c.toNat] none (runTkdep f)

/-- TKSIG (R355, R382). -/
def runTksig (f : FE) (c : Cmd) (s : State) : CRes :=
  onTask f c s fun n _ =>
    match signalTask s s.me.ctx n with
    | some t => .done (putG c t f.a 0)
    | none => .done (putG c s f.a 2)
noncomputable def execTksig (f : FE) (s : State) : Out := issue s (.tksig f) [f.b.toNat] none (runTksig f)

/-- TKSPAWN (R355, R382). -/
def runTkspawn (f : FE) (c : Cmd) (s : State) : CRes :=
  onTask f c s fun n t =>
    if t.state ≠ .defined then .done (putG c s f.a 2) else .done (putG c (spawnTask s s.me.ctx n) f.a 0)
noncomputable def execTkspawn (f : FE) (s : State) : Out := issue s (.tkspawn f) [f.b.toNat] none (runTkspawn f)

/-- TKFREE (R355, R382). -/
def runTkfree (f : FE) (c : Cmd) (s : State) : CRes :=
  onTask f c s fun n t =>
    if t.state ≠ .defined then .done (putG c s f.a 2)
    else .done (putG c (setSlot s s.me.ctx n { t with state := .free, counter := 0 }) f.a 0)
noncomputable def execTkfree (f : FE) (s : State) : Out := issue s (.tkfree f) [f.b.toNat] none (runTkfree f)

/-- Whether transfers of the moving hart have not retired; one that has may still owe a token (R336, R346). -/
def anyXfers (s : State) : Bool := s.xfers.any fun x => x.hart == s.cur && !x.owing

/-- TKEND: once every transfer of the loop context has retired, the hart leaves the task (R384). -/
def runTkend (_ : FE) (c : Cmd) (s : State) : CRes :=
  match s.me.task, s.me.farm with
  | some (n, rank), none =>
    if anyXfers s then .wait s c
    else
      let ctx := s.me.ctx
      .done (rankLeft (retireLoop s s.cur) ctx n rank false)
  | _, _ => .illegal c s
noncomputable def execTkend (f : FE) (s : State) : Out := issue s (.tkend f) [] none (runTkend f)

/-! ### Strip farms -/

def State.farm? (s : State) (origin : Nat) : Option Farm := (s.farms.find? (·.1 == origin)).map (·.2)
def State.setFarm (s : State) (origin : Nat) (f : Farm) : State := { s with farms := s.farms.set origin f }

/-- SFSTART (R365, R385). -/
def runSfstart (f : FE) (c : Cmd) (s : State) : CRes :=
  let t := c.g 0
  let m := (c.g 1).toNat
  if s.me.farm.isSome then .illegal c s
  else if c.gp.any id then .poison c s
  else if fld t 40 24 ≠ 0 ∨ m = 0 ∨ 1024 < m then .done (putG c s f.a 1)
  else
    let s := putG c s f.a 0
    let h := s.me
    let farm : Farm := { trip := t.toNat, most := m, die := f.imm.getLsbD 0, next := 0, count := 1, members := [s.cur],
                         ended := [], stop := false, mode := h.mode, pcStart := h.pc, gStart := h.g, gpStart := h.gpois }
    .done ((s.setMe { h with farm := some (s.cur, 0) }).setFarm s.cur farm)
noncomputable def execSfstart (f : FE) (s : State) : Out :=
  issue s (.sfstart f) [f.b.toNat, f.c.toNat] none (runSfstart f)

/-- The indices that a farm has not handed out, none once a pre-emption ends it (R366, R417). -/
def Farm.left (f : Farm) : Nat := if f.stop then 0 else f.trip - f.next

/-- SFNEXT (R366, R386, R417). -/
def runSfnext (f : FE) (c : Cmd) (s : State) : CRes :=
  match s.me.farm with
  | none => .illegal c s
  | some (o, _) =>
    match s.farm? o with
    | none => .illegal c s
    | some fm =>
      match runGrant fm.left (f.imm.extractLsb' 0 3) (f.imm.extractLsb' 3 2) f.a c s with
      | .done t =>
        let vl := t.me.vec.vl
        let t := countStrip t (vl != 0)
        let t := putG c (putG c t f.b (BitVec.ofNat 64 fm.next)) f.a (BitVec.ofNat 64 vl)
        .done (t.setFarm o { fm with next := fm.next + vl })
      | r => r
noncomputable def execSfnext (f : FE) (s : State) : Out := issue s (.sfnext f) [] none (runSfnext f)

/-- The AVL and the new shape of the grant step that a command of a loop context is (R184, R185, R386). -/
def grantOf (s : State) (hart : Nat) (c : Cmd) : Option (Nat × BitVec 3 × BitVec 2) :=
  let h := s.hart hart
  match c.ins with
  | .setvl f => some ((c.g 0).toNat, shapeSew f.imm, shapeG f.imm)
  | .setvlk f => some (f.imm.toNat, h.vec.sewc, h.vec.gc)
  | .sfnext f =>
    h.farm.bind fun e => (s.farm? e.1).map fun fm => (fm.left, f.imm.extractLsb' 0 3, f.imm.extractLsb' 3 2)
  | _ => none

/-- The clusters of the scripted grant step that heads the queue of a loop context, for which it waits until they are powered
(R434); 0 where none does. -/
def scriptedClusters (s : State) (hart : Nat) : Nat :=
  let h := s.hart hart
  match (if runsNow h.run then h.queue.head?.bind (grantOf s hart) else none) with
  | some (avl, sewc, gc) =>
    let x := granting s hart avl ⟨sewOf sewc, gOf gc⟩
    if x.scripted then clustersOf x.lanes else 0
  | none => 0

/-- One fold slot of a recruit folded into the origin's (R177). Slots that are not both valid, or of unlike element
width, and every slot of an origin whose capacity is 0, for which i mod C has no value, are left alone; DESIGN CHOICE,
log 17. -/
def joinSlot (v w : VecRegs) (n : Nat) : VecRegs × Flags :=
  let a := v.lay
  let b := w.lay
  let x := v.fold n
  let y := w.fold n
  if !slotFolds a x || !slotFolds b y || a.sew != b.sew || v.cap == 0 then (v, 0)
  else
    (upTo 0 w.cap).foldl (fun (v, fl) i =>
      let j := i % v.cap
      let p := elemPoison v a (slotReg x) j || elemPoison w b (slotReg y) i
      let (z, f) := foldOp a.sew (slotOp x) (slotFw x) (elemGet v a (slotReg x) j) (elemGet w b (slotReg y) i)
      (writeElems v a (slotReg x) [⟨j, z, p⟩], if p then fl else fl ||| f)) (v, 0)

/-- Every recruit's fold registers folded into the origin's, in ascending index (R177). -/
def joinAll (v : VecRegs) (ended : List (Nat × VecRegs)) : VecRegs × Flags :=
  (sortBy (fun a b => decide (a.1 ≤ b.1)) ended).foldl (fun (v, fl) (_, w) =>
    (upTo 0 4).foldl (fun (v, fl) n =>
      let (v, f) := joinSlot v w n
      (v, fl ||| f)) (v, fl)) (v, 0)

/-- SFEND (R367, R387). -/
def runSfend (f : FE) (c : Cmd) (s : State) : CRes :=
  match s.me.farm with
  | none => .illegal c s
  | some (o, i) =>
    match s.farm? o with
    | none => .illegal c s
    | some fm =>
      if o ≠ s.cur then
        -- a recruit ends; its seats are freed after the join
        if anyXfers s then .wait s c
        else .done ((s.setMe { s.me with run := .idle }).setFarm o { fm with ended := fm.ended ++ [(i, s.me.vec)] })
      else if fm.ended.length + 1 < fm.count then .wait s c
      else
        let (v, fl) := joinAll s.me.vec fm.ended
        let s := { (s.setMe ({ s.me with vec := v, farm := none }.addFlags fl)) with
                   farms := s.farms.filter (·.1 != o) }
        let s := (fm.members.filter (· != o)).foldl retireLoop s
        .done (putG c s f.a (BitVec.ofNat 64 fm.next))
noncomputable def execSfend (f : FE) (s : State) : Out := issue s (.sfend f) [] none (runSfend f)

end Sys2Proof.Machine
end

