-- ==== Sys2Proof/Machine/DevRegs.lean ====
section
/-! DEFINITION. The device registers that the manual describes (R233): the context control pages with the doorbell (R358 to
R362, R459), and the device control page with the checkpoint (R455, R456). -/

namespace Sys2Proof.Machine

/-! ### The allotment (R362) -/

/-- The bitmap that a CALLOT value of a context names; none of its bits when its bytes have a cause. A marked word is no
cause (R408): it counts with the value it holds; log 18. -/
def readAllot (s : State) (ctx : Nat) (x : W) : BitVec 2048 :=
  let pa := fld x 8 44 * 256
  let off := pa % 2 ^ 42
  if !bit x 0 ∨ pa / 2 ^ 42 ≠ s.devid.toNat ∨ devMemEnd < off + 256 ∨ ownerOk s ctx 1 off = false ∨ inLive s off 256 then 0
  else BitVec.ofNat 2048 (loadAt s ⟨off, 0, none, none⟩ 256)

/-- CALLOT of a context written, and the bitmap read (R362). -/
def setCallot (s : State) (ctx : Nat) (x : W) : State :=
  let x := BitVec.ofNat 64 (fld x 8 44 * 256 + fld x 0 1)
  s.setCtx ctx { s.ctx ctx with callot := x, allot := readAllot s ctx x }

/-! ### The doorbell (R359, R360, R459) -/

/-- Consecutive bytes read under a context's translation at a level; none: a cause. The local window belongs to a
hart, and is none here. -/
def readBytes (ctx priv : Nat) : Nat → State → W → List Byte → Option (List Byte × State)
  | 0, s, _, acc => some (acc.reverse, s)
  | n + 1, s, va, acc =>
    if inWindow va then none
    else match xlate s 0 ctx priv .engine .load va 1 with
      | .error _ => none
      | .ok p => readBytes ctx priv n p.st (va + 1) (BitVec.ofNat 8 (loadAt p.st p.phys 1) :: acc)

/-- The halves of a list of bytes. -/
def halves : List Byte → List Nat
  | a :: b :: r => (a.toNat + 256 * b.toNat) :: halves r
  | _ => []

/-- The placement list of a doorbell; none: refused (R360). -/
def readPlaces (s : State) (ctx n : Nat) (va : W) : Option (List Nat × State) :=
  match readBytes ctx 1 (2 * n) s va [] with
  | none => none
  | some (bs, t) =>
    let hs := halves bs
    if hs.all (fun h => decide (h < 2048) && (s.ctx ctx).allot.getLsbD h) && (dedup hs).length == hs.length then some (hs, t)
    else none

/-- The 56 bytes of a context control page at 0x010 to 0x047. -/
def pageBytes (k : Context) : List Byte :=
  [k.pageEntry, k.pageArgs, k.pageShape, k.sweight, k.equota, k.erefill, k.eperiod].flatMap fun x => leBytes 8 x.toNat

/-- The measurement of a context at a doorbell (R459): its block is read as the translation of ENTRY reads it. With ENTRY untranslatable no block follows; DESIGN CHOICE,
log 22. -/
def measure (s : State) (ctx : Nat) : BitVec 512 :=
  let k := s.ctx ctx
  let block : List Byte := match xlate s 0 ctx 0 .engine .fetch k.pageEntry 4 with
    | .ok p => leBytes 65536 (loadAt p.st { p.phys with loc := p.phys.loc / 65536 * 65536 } 65536)
    | .error _ => []
  sha512 (pageBytes k ++ leBytes 8 k.atp.toNat ++ leBytes 8 k.dtver.toNat ++ block)

/-- The outcome of a doorbell that is ignored: STATUS bit 1 and `more` (R358). -/
def ignoreBell (s : State) (ctx : Nat) (more : BitVec 5) : State :=
  s.setCtx ctx { s.ctx ctx with pageStatus := 2#5 ||| more }

/-- The doorbell of a context (R359, R360). It makes the context resident; DEDUCED, log 22. -/
def ringBell (s : State) (ctx : Nat) : State :=
  let k := s.ctx ctx
  let st := (k.slot 0).state
  let shape := fld k.pageShape 0 29
  let off := fld k.pageShape 32 32
  let begin_ (s : State) (places : Option (List Nat)) : State :=
    let s := s.setCtx ctx { s.ctx ctx with resident := true, pageStatus := 0, measured := some (measure s ctx) }
    let s := defineTask s ctx 0 k.pageEntry k.pageArgs (BitVec.ofNat 29 shape)
    makeReady (setSlot s ctx 0 { (s.ctx ctx).slot 0 with places := places }) ctx 0
  if st ≠ .free ∧ st ≠ .defined then ignoreBell s ctx 0
  else if fld k.pageShape 29 3 ≠ 0 ∨ !taskOk k.pageEntry shape then ignoreBell s ctx 0x10#5
  else if off = 0 then begin_ s none
  else if off % 2 = 1 then ignoreBell s ctx 8#5
  else match readPlaces s ctx (shapeHarts (BitVec.ofNat 29 shape)) (k.pageArgs + BitVec.ofNat 64 off) with
    | none => ignoreBell s ctx 8#5
    | some (hs, t) => begin_ t (some hs)

/-! ### Context control pages (R358) -/

/-- SHAPE of the control page as written: every bit is held, and the doorbell checks them (R358, R359). -/
def writeCtxPage (s : State) (ctx o : Nat) (x : W) : State :=
  let k := s.ctx ctx
  match o with
  | 0x000 => if bit x 0 then ringBell s ctx else s
  | 0x010 => s.setCtx ctx { k with pageEntry := x }
  | 0x018 => s.setCtx ctx { k with pageArgs := x }
  | 0x020 => s.setCtx ctx { k with pageShape := x }
  | 0x028 => s.setCtx ctx { k with sweight := BitVec.ofNat 64 (fld x 0 8) }
  | 0x030 => s.setCtx ctx { k with equota := x }
  | 0x038 => s.setCtx ctx { k with erefill := x }
  | 0x040 => s.setCtx ctx { k with eperiod := BitVec.ofNat 64 (fld x 0 20) }
  | 0x048 => setCallot s ctx x
  | _ => s

/-! ### The device control page (R455) -/

/-- CKRUN: a checkpoint begins unless one is in progress; every task is to be pre-empted at once (R455, R456). -/
def startCheckpoint (s : State) (x : W) : State :=
  if bit x 0 ∧ (s.ckState = 0 ∨ s.ckState = 3) then
    { s with ckState := 1, ckError := false, ckDone := 0, ckBlocks := [], ckNext := 0,
             harts := s.harts.map fun (n, h) =>
               (n, if h.task.isSome then { h with preempt := some ⟨true, s.time⟩ } else h) }
  else s

/-- A write to the device control page (R455). CKADDR is a multiple of 64 KiB: bits 15:0 of what is written to it are dropped, since no
rule says what becomes of another value; DESIGN CHOICE, log 59. -/
def writeDevPage (s : State) (o : Nat) (x : W) : State :=
  match o with
  | 0x000 => startCheckpoint s x
  | 0x010 => { s with ckAddr := setFld x 0 16 0 }
  | 0x018 => { s with ckPeer := BitVec.ofNat 64 (fld x 0 16) }
  | _ => s

/-! ### Accesses -/

/-- The ALLOT field of a context control page, whose write reads the bitmap after the hart's earlier stores (R358, R362). -/
def isAllot (loc : Nat) : Bool :=
  decide (ctxPages ≤ loc ∧ loc < ctxPages + 4096 * 4096) && (loc - ctxPages) % 4096 / 8 == 9

/-- A dword written to a device register at an aligned offset. -/
def writeReg (s : State) (off : Nat) (x : W) : State :=
  if devPage ≤ off ∧ off < devPage + 4096 then writeDevPage s (off - devPage) x
  else if ctxPages ≤ off ∧ off < ctxPages + 4096 * 4096 then
    writeCtxPage s ((off - ctxPages) / 4096) ((off - ctxPages) % 4096) x
  else s

/-- A write of `w` bytes within one dword; narrower than the dword it keeps the field's other bytes as they read.
DEDUCED, log 23. -/
def devStore (s : State) (off w x : Nat) : State :=
  match readReg s (off / 8 * 8) with
  | some old => writeReg s (off / 8 * 8) (setFld old (8 * (off % 8)) (8 * w) x)
  | none => s

end Sys2Proof.Machine
end

