-- ==== Sys2Proof/Machine/Placement.lean ====
section
/-! DEFINITION. Residency handles, stash lines and lent ways (R243, R273 to R279). -/

namespace Sys2Proof.Machine

/-! ### Moves between tiers (R243 to R246) -/

/-- Whether a backing slot belongs to the LPDDR tier. -/
def inLpddr (slot : Nat) : Bool := decide (lpddrSlot ≤ slot)

/-- The host-shared flag of a block (R244, R448). -/
def hostShared (s : State) (block : Nat) : Bool := decide (block < s.hdmsize * 16384)

/-- Free backing slots of a tier. Every slot backs the block of its own number until that block has moved (R233),
so a slot is free when a move has emptied it; DEDUCED, log 14. A slot of a retired pseudo-channel or of a dark die is none
(R232, R442). -/
def freeSlots (s : State) (lpddr : Bool) : List Nat :=
  (s.backing.map (·.1)).filter fun x =>
    inLpddr x == lpddr && !s.lostRuns.contains (x / 2048) && !slotDark s x && slotOf s x != x && !(s.backing.any fun e => e.2 == x) && !(s.moves.any fun m => m.slot == x || m.next == some x)

/-- A move of a block to a slot that begins now (R245, R246). -/
def newMove (s : State) (b x : Nat) : Move := ⟨b, x, hostShared s b, 0, [], none⟩

/-- The tier in which the moves of a block, begun and to follow, leave it. -/
def finalTier (s : State) (b : Nat) : Bool :=
  inLpddr (match s.moves.find? fun m => m.block == b with
    | some m => m.next.getD m.slot
    | none => slotOf s b)

/-- Moves that were to follow, of blocks that must not leave the tier in which the moves under way bring them. -/
def dropNext (s : State) (blocks : List Nat) : State :=
  { s with moves := s.moves.map fun m => if blocks.contains m.block then { m with next := none } else m }

/-- A block sent to a free slot: its move begins, or follows the one that is under way. -/
def sendBlock (s : State) (b x : Nat) : State :=
  if s.moves.any (·.block == b) then { s with moves := s.moves.map fun m => if m.block == b then { m with next := some x } else m }
  else { s with moves := s.moves ++ [newMove s b x] }

/-- The moves that bring blocks to a tier, with the slots reserved for all of them; none: too few are free (R243). A move that is
under way to the other tier is not broken off: another follows it; DESIGN CHOICE, log 14. -/
def startMoves (s : State) (blocks : List Nat) (lpddr : Bool) : Option State :=
  let away (s : State) : List Nat := blocks.filter fun b => finalTier s b != lpddr
  let t := dropNext s (away s)
  let free := freeSlots t lpddr
  if free.length < (away t).length then none
  else some (((away t).zip free).foldl (fun t (b, x) => sendBlock t b x) t)

/-- The block that a backing slot holds. -/
def blockIn (s : State) (slot : Nat) : Option Nat :=
  if slotOf s slot = slot then some slot else (s.backing.find? fun e => e.2 == slot).map (·.1)

/-- The blocks that lie in runs lost with a pseudo-channel move to free slots, as many as there are (R232): within the tier
first. With no slot free a block stays where it is until one is, and a host-shared block moves under write protection (R246),
since the method of R245 leaves it out; DESIGN CHOICE, log 56. -/
def emptyRuns (s : State) : State :=
  let free := freeSlots s false ++ freeSlots s true
  if free.isEmpty || s.lostRuns.isEmpty then s
  else
    let here := (s.lostRuns.flatMap fun r => upTo (2048 * r) 2048).filterMap (blockIn s)
    let todo := here.filter fun b => !s.moves.any fun m => m.block == b
    { s with moves := s.moves ++ (todo.zip free).map fun (b, x) => newMove s b x }

/-- The run of backing slots that a pseudo-channel takes with it, of its stack's that are left (R232); which one is a choice;
DESIGN CHOICE, log 56. -/
def loseRun (s : State) (channel : Nat) : State :=
  let runs := (upTo (channel / 512 * 512) 512).filter fun r => !s.lostRuns.contains r
  let own := turn ((runs.findIdx? (· == channel)).getD 0) runs
  let (k, s) := s.pick own.length
  emptyRuns { s with lostRuns := s.lostRuns ++ (own[k]?).toList }

/-! ### Residency handles (R273 to R276) -/

/-- A descriptor with its reserved bits zero and a tier of 0 to 2 (R273). -/
def descOk (d : W) : Bool := fld d 46 18 == 0 && fld d 38 2 == 0 && fld d 35 1 == 0 && fld d 26 6 == 0 && fld d 36 2 != 3

/-- A translation for a binding: by the moving hart, or of a context at kernel level, which no window serves. -/
def bindAt (s : State) (who : Option Nat) (party : Party) (k : Kind) (va : W) (w : Nat) : Except Cause Placed :=
  match who with
  | none => xlateMe s party k va w
  | some ctx => if inWindow va then .error ⟨0x0F, va⟩ else xlate s s.cur ctx 1 party k va w

/-- The blocks that hold the 4 KiB pages from `va` on, each translated as a load; none: one fails (R275). Only pages
of local device memory lie in blocks. A live barrier slot at a page's first byte and a host error there are causes of that load as well
(R353); DESIGN CHOICE, log 59. -/
def rangeBlocks (who : Option Nat) : Nat → State → W → List Nat → Option (List Nat × State)
  | 0, s, _, acc => some (acc, s)
  | n + 1, s, va, acc =>
    match bindAt s who .vector .load va 1 with
    | .error _ => none
    | .ok p =>
      let b := p.phys.loc / 65536
      rangeBlocks who n p.st (va + 4096) (if isLocalMem p.phys.loc && !acc.contains b then acc ++ [b] else acc)

/-- A handle of a context replaced. -/
def setHandle (s : State) (ctx n : Nat) (h : Option Handle) : State :=
  let k := s.ctx ctx
  s.setCtx ctx { k with handles := k.handles.set n h }

/-- A handle bound, and the move of its preference begun (R243, R275): the status. -/
def bindHandle (s : State) (ctx n : Nat) (h : Handle) : State × W :=
  let s := setHandle s ctx n (some h)
  if fld h.desc 36 2 = 0 then (s, 0)
  else match startMoves s h.blocks (fld h.desc 36 2 == 2) with
    | some t => (t, 0)
    | none => (s, 2)

/-- TRES (R275). A poisoned base is cause 0x1A (R409). -/
def runTres (f : FE) (c : Cmd) (s : State) : CRes :=
  let base := c.g 0
  let d := c.g 1
  let n := fld d 40 6
  if c.gpois 0 then .badAddr c s base
  else if !descOk d ∨ base.toNat % 65536 ≠ 0 then .done (putG c s f.a 1)
  else if fld d 0 26 = 0 then .done (putG c (setHandle s s.me.ctx n none) f.a 0)
  else match rangeBlocks none (16 * fld d 0 26) s base [] with
    | none => .done (putG c s f.a 4)
    | some (bs, t) =>
      let (t, st) := bindHandle t s.me.ctx n ⟨base, d, bs⟩
      .done (putG c t f.a st)
noncomputable def execTres (f : FE) (s : State) : Out := issue s (.tres f) [f.b.toNat, f.c.toNat] none (runTres f)

/-- The handle that TEVICT or TDEMOTE names, or the status (R273, R274). -/
def namedHandle (s : State) (x : W) : Except W (Nat × Handle) :=
  if 64 ≤ x.toNat then .error 1
  else match s.myCtx.handles.get none x.toNat with
    | some h => .ok (x.toNat, h)
    | none => .error 3

/-- TEVICT: the dirty stash bytes of the handle's range are written back; the other caches are coherent and hold nothing that
this model keeps apart from memory (R276). -/
def runTevict (f : FE) (c : Cmd) (s : State) : CRes :=
  match namedHandle s (c.g 0) with
  | .error st => .done (putG c s f.a st)
  | .ok (_, h) =>
    .done (putG c (h.blocks.foldl (fun s b => cleanStashAt s (fun _ => true) (b * 65536) 65536) s) f.a 0)
noncomputable def execTevict (f : FE) (s : State) : Out := issue s (.tevict f) [f.b.toNat] none (runTevict f)

/-- TDEMOTE (R276). -/
def runTdemote (f : FE) (c : Cmd) (s : State) : CRes :=
  match namedHandle s (c.g 0) with
  | .error st => .done (putG c s f.a st)
  | .ok (n, h) =>
    let (t, st) := bindHandle s s.me.ctx n { h with desc := setFld h.desc 36 2 2 }
    .done (putG c t f.a st)
noncomputable def execTdemote (f : FE) (s : State) : Out := issue s (.tdemote f) [f.b.toNat] none (runTdemote f)

/-! ### Stash lines (R231, R277, R278) -/

/-- Memory bytes made to read zero, with no poison, by hardware (R133). -/
def wipe (s : State) (loc n : Nat) : State :=
  clearLinks { s with mem := s.mem.filter fun c => !decide (loc ≤ c.1 ∧ c.1 < loc + n),
                      marks := s.marks.filter fun w => !decide (loc ≤ 4 * w ∧ 4 * w < loc + n) } loc n none

/-- The key of a scratchpad line of a core in the stash table. -/
def stashKey (core line : Nat) : Nat := core * 2 ^ 16 + line

/-- A scratchpad line unmapped: what its core has dirty in it is written back, and it reads zero (R231, R277). -/
def unmapLine (s : State) (core line : Nat) : State :=
  let s := match s.stash.find? (fun e => e.1 == stashKey core line) with
    | some e => cleanStashAt s (· == core) e.2.loc 64
    | none => s
  wipe { s with stash := s.stash.filter fun e => e.1 != stashKey core line } (padLoc core (64 * line)) 64

/-- Every stash line of a core from scratchpad byte `lo` up unmapped (R278). -/
def unmapFrom (s : State) (core lo : Nat) : State :=
  ((s.stash.filter fun e => decide (stashKey core (lo / 64) ≤ e.1 ∧ e.1 < stashKey (core + 1) 0)).map (·.1)).foldl
    (fun s k => unmapLine s core (k - stashKey core 0)) s

/-- The scratchpad line that a window address names; none: outside LWIN or the scratchpad (R230). -/
def windowLine (s : State) (va : W) : Option Nat :=
  let lwin := s.me.lwin
  let off := fld va 0 24
  let b := fld lwin 0 10 * 4096 + off
  if inWindow va && decide (off + 64 ≤ fld lwin 16 10 * 4096) && decide (b + 64 ≤ padSize (s.core (coreOf s.cur)))
  then some (b / 64) else none

/-- The W of the translation of an address: true where there is no leaf (R234). -/
def writableVa (s : State) (va : W) : Bool :=
  let atp := s.myCtx.atp
  if s.me.priv = 2 ∨ !bit atp 63 then true
  else match findLeaf s s.me.ctx s.me.priv .load va atp with
    | .ok f => bit f.leaf.pte 2
    | .error _ => false

/-- STMAP (R277). A poisoned address is cause 0x1A (R409). A live barrier slot in either line is a permission fault (R353). -/
def runStmap (f : FS) (c : Cmd) (s : State) : CRes :=
  let pad := c.g 0
  let va := c.g 1
  let core := coreOf s.cur
  if c.gpois 0 then .badAddr c s pad
  else if c.gpois 1 then .badAddr c s va
  else if pad.toNat % 64 ≠ 0 ∨ (va ≠ 1 ∧ va.toNat % 64 ≠ 0) then .done (putG c s f.a 1)
  else match windowLine s pad with
    | none => .done (putG c s f.a 2)
    | some line =>
      if inLive s (padLoc core (64 * line)) 64 then .refuse c s ⟨0x0F, pad⟩
      else if va = 1 then .done (putG c (unmapLine s core line) f.a 0)
      else match xlateMe { s with live := [] } .vector .load va 64 with
        | .error _ => .done (putG c s f.a 3)
        | .ok p =>
          let p := { p with st := { p.st with live := s.live } }
          if inWindow va || p.phys.mt != 0 || decide (padBase ≤ p.phys.loc) || isDevReg p.phys.loc then
            .done (putG c s f.a 3)
          else if inLive s p.phys.loc 64 then .refuse c s ⟨0x0F, va⟩
          else
            let t := unmapLine p.st core line
            let t := { t with stash := t.stash.set (stashKey core line) ⟨p.phys.loc, true, writableVa s va, p.phys.key⟩ }
            .done (putG c t f.a 0)
noncomputable def execStmap (f : FS) (s : State) : Out := issue s (.stmap f) [f.b.toNat, f.c.toNat] none (runStmap f)

/-- CWAYS (R229, R279). -/
def runCways (f : FI) (c : Cmd) (s : State) : CRes :=
  let core := coreOf s.cur
  let k := s.core core
  let n := (c.g 0 + simm f.imm).toInt
  let old := k.lent
  if !k.rsz then .illegal c s
  else if n < 0 ∨ (k.cacSize : Int) < n ∨ 28 < (k.scrSize : Int) + n then
    .done (putG c s f.a (BitVec.ofNat 64 (1 + old * 256)))
  else
    let n := n.toNat
    let at_ (w : Nat) : Nat := (k.scrSize + w) * 131072
    let s := if old < n then wipe s (padLoc core (at_ old)) (at_ n - at_ old) else unmapFrom s core (at_ n)
    let s := s.setCore core { s.core core with lent := n }
    .done (putG c s f.a (BitVec.ofNat 64 (old * 256)))
noncomputable def execCways (f : FI) (s : State) : Out := issue s (.cways f) [f.b.toNat] none (runCways f)

end Sys2Proof.Machine
end

