-- ==== Sys2Proof/Machine/Rime.lean ====
section
/-! DEFINITION. Key caches, their rime records, page selection, and the gather of pages (R320 to R331). -/

namespace Sys2Proof.Machine

/-! ### KPAGE (R322, R323) -/

/-- The parts of `n` bytes from `va` that lie in each 4 KiB page. -/
def pageParts : Nat → Nat → Nat → List (Nat × Nat)
  | 0, _, _ => []
  | k + 1, va, n => if n = 0 then [] else
    let m := min n (4096 - va % 4096)
    (va, m) :: pageParts k (va + m) (n - m)

/-- The first address of the page that holds an address, as a binding translates it (R236); 4 KiB pages where nothing is
translated. -/
def pageBase (s : State) (who : Option Nat) (k : Kind) (va : W) : W :=
  let (ctx, priv) := match who with
    | none => (s.me.ctx, s.me.priv)
    | some c => (c, 1)
  let atp := (s.ctx ctx).atp
  let size := if inWindow va || priv == 2 || !bit atp 63 then 4096
    else match findLeaf s ctx priv k va atp with
      | .ok f => pageSize (fld f.leaf.pte 9 3)
      | .error _ => 4096
  BitVec.ofNat 64 (va.toNat / size * size)

/-- The first byte of an access that lies in a differentiable region where KPAGE may make none: stores in FWD and REV, loads
in REV (R315); DEDUCED, log 16. -/
def pageConflict (s : State) (k : Kind) (va : W) (n : Nat) : Option W :=
  if (k.isStore || s.me.mode == 2) && (myRegion s va n).isSome then
    (findUp (fun i => (myRegion s (va + BitVec.ofNat 64 i) 1).isSome) 0 n).map fun i => va + BitVec.ofNat 64 i
  else none

/-- The pages of a range translated in order: first address and place of each, or the first cause (R322). What kind of memory a
page is, is looked at after every page has been translated, and so no cause of a memory type, a route or another device comes
before that. -/
def bindPages (who : Option Nat) (k : Kind) : List (Nat × Nat) → State → List (W × Phys) → Except Cause (State × List (W × Phys))
  | [], s, ps => .ok (s, ps)
  | (va, n) :: r, s, ps =>
    let va := BitVec.ofNat 64 va
    match bindAt s who .binding k va n with
    | .error c => .error c
    | .ok p =>
      match (if who.isNone then pageConflict s k va n else none) with
      | some a => .error (conflict a)
      | none => bindPages who k r p.st (ps ++ [(pageBase s who k va, p.phys)])

/-- A page that a key cache may be bound to: device memory of the local device with MT = 0 (R322). -/
def cachePage (p : W × Phys) : Bool := !inWindow p.1 && p.2.mt == 0 && isLocalMem p.2.loc

/-- Both ranges of a key cache bound: every page is translated, then every page checked; none of the slots changes (R322). -/
def bindCache (who : Option Nat) (s : State) (kb rb geo : W) : Except Cause (State × KeyBind) :=
  let kn := kcNP geo * kcPB geo
  let rn := kcNP geo * kcRS geo
  match bindPages who .load (pageParts (kn / 4096 + 2) kb.toNat kn) s [] with
  | .error c => .error c
  | .ok (s, ks) =>
    match bindPages who .store (pageParts (rn / 4096 + 2) rb.toNat rn) s [] with
    | .error c => .error c
    | .ok (s, rs) =>
      match (ks ++ rs).find? (!cachePage ·) with
      | some p => .error ⟨0x0F, p.1⟩
      | none =>
        let locs (ps : List (W × Phys)) : List Nat := ps.map fun p => p.2.loc / 4096 * 4096
        .ok (s, ⟨locs ks, locs rs, ks.map (·.2.key), rs.map (·.2.key)⟩)

/-- A byte range of a bound range: its place. -/
def boundPlace (base : Nat) (pages : List Nat) (encs : List (Option (BitVec 10))) (va : Nat) : Phys :=
  ⟨(boundLoc base pages va).getD 0, 0, (encs[va / 4096 - base / 4096]?).getD none, none⟩

/-- The extremes of a channel that has held nothing (R323). -/
def emptyMin : Nat := 0x7F800000
def emptyMax : Nat := 0xFF800000

/-- Minimum and maximum of channel `c` of page `p` from the keys as they stand (R322, R324). -/
def scanChannel (s : State) (kb geo : W) (b : KeyBind) (p c : Nat) : Nat × Nat :=
  (upTo (p * kcP geo) (kcP geo)).foldl (fun (mn, mx) t =>
    let va := kb.toNat + (t * kcD geo + c) * kcKw geo
    rimeWiden mn mx (loadAt s (boundPlace kb.toNat b.keys b.keyEnc va) (kcKw geo)) (kcFmt geo)) (emptyMin, emptyMax)

/-- The bytes of a record: minima, maxima, and zero to its size (R323). -/
def recordBytes (geo : W) (chans : List (Nat × Nat)) : List Byte :=
  chans.flatMap (fun e => leBytes 4 e.1) ++ chans.flatMap (fun e => leBytes 4 e.2) ++
    List.replicate (kcRS geo - 8 * kcD geo) 0

/-- A record written, line by line. -/
def putRecord (rb : W) (b : KeyBind) : Nat → Nat → List Byte → State → State
  | 0, _, _, s => s
  | n + 1, va, bytes, s =>
    putRecord rb b n (va + 64) (bytes.drop 64)
      (storeAt s (boundPlace rb.toNat b.rimes b.rimeEnc va) (bytes.take 64) none)

/-- The geometry operand is one of R321. -/
def geoOk (geo : W) : Bool :=
  fld geo 56 8 == 0 && fld geo 25 7 == 0 && fld geo 13 3 == 0 && decide (1 ≤ kcP geo ∧ kcP geo ≤ 4096) &&
    decide (1 ≤ kcD geo ∧ kcD geo ≤ 256) && decide (6 ≤ kcFmt geo ∧ kcFmt geo ≤ 8)

/-- The ranges of the valid slots other than `n`. -/
def cacheRanges (k : Context) (n : Nat) : List (Nat × Nat) :=
  (upTo 0 4).flatMap fun j =>
    let g := k.kcgeom.get 0 j
    if j = n ∨ kcNP g = 0 then []
    else [((k.kcbase.get 0 j).toNat, kcNP g * kcPB g), ((k.kcrime.get 0 j).toNat, kcNP g * kcRS g)]

/-- Two byte ranges overlap. -/
def meet (a b : Nat × Nat) : Bool := decide (a.1 < b.1 + b.2 ∧ b.1 < a.1 + a.2)

/-- The operands of KPAGE make a valid slot (R322). -/
def cacheFits (k : Context) (n : Nat) (kb rb geo : W) : Bool :=
  let keys := (kb.toNat, kcNP geo * kcPB geo)
  let rimes := (rb.toNat, kcNP geo * kcRS geo)
  geoOk geo && kb.toNat % 64 == 0 && rb.toNat % 64 == 0 && !meet keys rimes &&
    (cacheRanges k n).all fun r => !meet r keys && !meet r rimes

/-- A key-cache slot of a context set. -/
def setCache (s : State) (ctx n : Nat) (kb rb geo : W) (b : Option KeyBind) : State :=
  let k := s.ctx ctx
  s.setCtx ctx { k with kcbase := k.kcbase.set n kb, kcrime := k.kcrime.set n rb, kcgeom := k.kcgeom.set n geo,
                        kcbind := k.kcbind.set n b }

/-- KPAGE (R322). A marked key counts with the value it holds; DESIGN CHOICE, log 18. -/
def runKpage (f : FE) (c : Cmd) (s : State) : CRes :=
  let n := f.imm.toNat % 4
  let (kb, rb, geo) := (c.g 0, c.g 1, c.g 2)
  let k := s.myCtx
  if c.gp.any id then .poison c s
  else if kcNP geo = 0 then .done (setCache s s.me.ctx n 0 0 0 none)
  else if !cacheFits k n kb rb geo then .illegal c s
  else
    -- the slot's own old rime range does not bar its replacement
    match bindCache none (s.setCtx s.me.ctx { k with kcbind := k.kcbind.set n none }) kb rb geo with
    | .error ca => .refuse c s ca
    | .ok (t, b) =>
      let t := (upTo 0 (kcNP geo)).foldl (fun t p =>
        let chans := (upTo 0 (kcD geo)).map fun ch =>
          if f.imm.getLsbD 2 then (emptyMin, emptyMax) else scanChannel t kb geo b p ch
        putRecord rb b (kcRS geo / 64) (rb.toNat + p * kcRS geo) (recordBytes geo chans) t) t
      .done (setCache t s.me.ctx n kb rb geo (some b))
noncomputable def execKpage (f : FE) (s : State) : Out :=
  issue s (.kpage f) [f.a.toNat, f.b.toNat, f.c.toNat] none (runKpage f)

/-! ### KSEL (R327 to R329) -/

/-- A record as one reading finds it: minimum and maximum of each channel, and whether a word of it is marked. -/
def readRecord (s : State) (rb geo : W) (b : KeyBind) (p : Nat) : List (Nat × Nat) × Bool :=
  let at_ (o : Nat) : Phys := boundPlace rb.toNat b.rimes b.rimeEnc (rb.toNat + p * kcRS geo + o)
  let D := kcD geo
  ((upTo 0 D).map fun c => (loadAt s (at_ (4 * c)) 4, loadAt s (at_ (4 * (D + c))) 4),
   (upTo 0 (2 * D)).any fun c => marked s (at_ (4 * c)).loc 4)

/-- One channel's term (R328): a channel is poisoned when both words hold the canonical NaN (R323). A product that is not a number makes the term NaN; DEDUCED, log 15. -/
def rimeTerm (q : Num) (e : Nat × Nat) : Num :=
  if q = .nan ∨ e = (0x7FC00000, 0x7FC00000) then .nan
  else if q = .zero false ∨ q = .zero true ∨ e = (emptyMin, emptyMax) then .zero false
  else
    let a := (mulNum q (readFlt 10 e.1)).1
    let b := (mulNum q (readFlt 10 e.2)).1
    if a = .nan ∨ b = .nan then .nan else maxNum a b

/-- The bound of a page, FP32; a NaN ranks as +∞ (R328). None: the page is empty. -/
def pageBound (vl : Nat) (q : Nat → Num) (rec : List (Nat × Nat)) : Option Num :=
  if rec.all (· == (emptyMin, emptyMax)) then none
  else if vl < rec.length then some (.inf false)
  else
    let sum := (rec.zip (upTo 0 rec.length)).foldl (fun acc (e, c) => (addNum 2 acc (rimeTerm (q c) e)).1) (.zero false)
    let x := readFlt 10 (writeFlt 10 2 false sum).1
    some (if x = .nan then .inf false else x)

/-- The pages chosen by threshold or by rank (R329), in ascending order. -/
def choosePages (top : Bool) (x : Nat) (bs : List (Nat × Num)) : List Nat :=
  if top then
    sortBy (fun a b => decide (a ≤ b)) (((sortBy (fun a b => leNum b.2 a.2) bs).take x).map (·.1))
  else (bs.filter fun e => leNum (readFlt 10 x) e.2).map (·.1)

/-- KSEL (R327 to R329); list and count are poisoned if any input is (R409). -/
def runKsel (f : FE) (c : Cmd) (s : State) : CRes :=
  let n := f.imm.toNat % 4
  let k := s.myCtx
  let v := s.me.vec
  let geo := k.kcgeom.get 0 n
  let D := kcD geo
  if c.owes then payToken 3 1 c s
  else if v.lay.sew ≠ 32 ∨ kcNP geo = 0 then .illegal c s
  else checked c s none
    (if fld (c.g 0) 40 24 ≠ 0 then .illegal c s
     else withPop f 3 c s fun s =>
       let first := fld (c.g 0) 0 20
       let ps := upTo first (min (first + fld (c.g 0) 20 20) (kcNP geo) - first)
       let recs := match k.kcbind.get none n with
         | some b => ps.map fun p => (p, readRecord s (k.kcrime.get 0 n) geo b p)
         | none => []
       let q (ch : Nat) : Num := readFlt 10 (elemGet v v.lay f.b.toNat ch)
       let bounds := recs.filterMap fun (p, r) => (pageBound v.vl q r.1).map (p, ·)
       let sel := choosePages (f.imm.getLsbD 2) (fld (c.g 1) 0 32) bounds
       let inc := decide (v.vl < D) && !bounds.isEmpty
       let p := c.gp.any id || recs.any (·.2.2) ||
         (decide (D ≤ v.vl) && (upTo 0 D).any (elemPoison v v.lay f.b.toNat))
       let out := (sel.zip (upTo 0 (min sel.length v.vl))).map fun (x, i) => (⟨i, x, p⟩ : EWr)
       let h := { s.me with vec := writeElems v v.lay f.a.toNat out }
       let t := s.setMe (h.wrP (f.c.toNat + 2) (BitVec.ofNat 64 (sel.length + if inc then 2 ^ 63 else 0)) p)
       if f.push = 0 then .done t else payToken 3 1 c t)
noncomputable def execKsel (f : FE) (s : State) : Out :=
  issue s (.ksel f) [f.c.toNat, f.c.toNat + 1] none (runKsel f)

/-! ### KGAT (R330) -/

/-- Bits 0 to `n − 1` of a mask register cleared (R330, R374). -/
def clearBits (s : State) (m : Bool) (n : Nat) : State :=
  s.setMe { s.me with vec := writeMask s.me.vec m.toNat ((upTo 0 n).map (·, false)) }

/-- A transfer that an engine takes in hand. -/
def State.addXfer (s : State) (x : Xfer) : State :=
  { s with xfers := s.xfers ++ [{ x with id := s.fresh }], fresh := s.fresh + 1 }

/-- KGAT: one row for each listed page of the slot; their chunks complete later (R336). Its values were read at decode: the
destination, with src = 1 the source, the count, and with src = 0 the slot's base (R330). Its mask is cleared between commands
of the V queue (R335). -/
def runKgat (f : FE) (c : Cmd) (s : State) : CRes :=
  let n := f.imm.toNat % 4
  let md := f.imm.getLsbD 2
  let k := s.myCtx
  let v := s.me.vec
  let geo := k.kcgeom.get 0 n
  let pb := kcPB geo
  let (sb, gc) := if f.imm.getLsbD 3 then (c.g 1, c.g 2) else (c.g 2, c.g 1)
  if v.lay.sew ≠ 32 ∨ kcNP geo = 0 then .illegal c s
  else checked c s none
    (if c.gp.any id then .poison c s
     else if waitHolds s s.cur md.toNat then .wait s c
     else withPop f 3 c s fun s =>
       let e := min gc.toNat v.vl
       let rows := (upTo 0 e).map fun j => BitVec.ofNat 64 (elemGet v v.lay f.a.toNat j)
       let bad := (upTo 0 e).filter (elemPoison v v.lay f.a.toNat)
       let left := (upTo 0 e).filter fun j => decide ((rows.getD j 0).toNat < kcNP geo) || bad.contains j
       .done ((clearBits s md v.vl).addXfer
         { id := 0, hart := s.cur, ctx := s.me.ctx, priv := c.priv, atp := c.atp, kind := .gather,
           mem := sb, win := c.g 0, rb := pb,
           sstr := BitVec.ofNat 64 pb, dstr := 0, pitch := cdiv pb 64 * 64, rows := rows, bad := bad, count := 0, chl := 0,
           left := left, moved := [], next := 0, total := e, cm := some md, slot := none, gd := none,
           push := if f.push = 0 then none else some 3, task := none, owing := false, kgat := true, pages := [],
           done := 0, frow := 0, cause := 0, addr := 0 }))
noncomputable def execKgat (f : FE) (s : State) : Out :=
  issue s (.kgat f) (f.b.toNat :: (if f.imm.getLsbD 3 then [f.b.toNat + 1] else []) ++ [f.c.toNat]) none (runKgat f)

/-! ### KSYNC (R331) -/

/-- KSYNC: the drain is emptied, and every earlier KGAT has retired (R331, R220). -/
def runKsync (f : FE) (c : Cmd) (s : State) : CRes :=
  let s := if f.imm.getLsbD 0 then drainAll s s.cur else s
  if f.imm.getLsbD 1 && s.xfers.any (fun x => x.kgat && x.hart == s.cur && !x.owing) then .wait s c
  else .done s
noncomputable def execKsync (f : FE) (s : State) : Out := issue s (.ksync f) [] none (runKsync f)

end Sys2Proof.Machine
end

