-- ==== Sys2Proof/Machine/VReduce.lean ====
section
/-! DEFINITION. Reductions (R199 to R202). -/

namespace Sys2Proof.Machine

/-- vd[0] written with a result, whenever the capacity is at least 1 (R199). -/
def putReduced (s : State) (a : Lay) (d : BitVec 5) (r : Nat × Bool) (fl : Flags) : CRes :=
  let h := s.me
  if h.vec.cap = 0 then .done s
  else .done (s.setMe ({ h with vec := writeElems h.vec a d.toNat [⟨0, r.1, r.2⟩] }.addFlags fl))

/-- An integer reduction: `op` on the seed and each active element as `ext` widens it (R200). -/
def reduceInt (la ls : Lay) (ext : Nat → Nat) (op : Nat → Nat → Nat) (f : FV) (c : Cmd) (s : State) : CRes :=
  let v := s.me.vec
  checked c s none (putReduced s ls f.a
    ((c.acts v f.msk).foldl
      (fun (acc, p) i => (op acc (ext (elemGet v la f.b.toNat i)), p || elemPoison v la f.b.toNat i))
      (elemGet v ls f.c.toNat 0, elemPoison v ls f.c.toNat 0)) 0)

/-- A reduction on SEW-bit elements. -/
def reduceSew (op : Nat → Nat → Nat → Nat) (f : FV) (c : Cmd) (s : State) : CRes :=
  let a := s.me.vec.lay
  reduceInt a a id (op a.sew) f c s

def runVrsum (f : FV) (c : Cmd) (s : State) : CRes := reduceSew (fun n a b => (a + b) % 2 ^ n) f c s
def execVrsum (f : FV) (s : State) : Out := issue s (.vrsum f) [] none (runVrsum f)
def runVrmax (f : FV) (c : Cmd) (s : State) : CRes := reduceSew (fun n a b => if sInt n a < sInt n b then b else a) f c s
def execVrmax (f : FV) (s : State) : Out := issue s (.vrmax f) [] none (runVrmax f)
def runVrmin (f : FV) (c : Cmd) (s : State) : CRes := reduceSew (fun n a b => if sInt n b < sInt n a then b else a) f c s
def execVrmin (f : FV) (s : State) : Out := issue s (.vrmin f) [] none (runVrmin f)
def runVrand (f : FV) (c : Cmd) (s : State) : CRes := reduceSew (fun _ a b => a &&& b) f c s
def execVrand (f : FV) (s : State) : Out := issue s (.vrand f) [] none (runVrand f)
def runVror (f : FV) (c : Cmd) (s : State) : CRes := reduceSew (fun _ a b => a ||| b) f c s
def execVror (f : FV) (s : State) : Out := issue s (.vror f) [] none (runVror f)
def runVrxor (f : FV) (c : Cmd) (s : State) : CRes := reduceSew (fun _ a b => a ^^^ b) f c s
def execVrxor (f : FV) (s : State) : Out := issue s (.vrxor f) [] none (runVrxor f)

/-- VWRSUM: wide seed and result; illegal for SEW = 64 (R200). -/
def runVwrsum (f : FV) (c : Cmd) (s : State) : CRes :=
  let a := s.me.vec.lay
  let w := 2 * a.sew
  if a.sew = 64 then .illegal c s
  else reduceInt a ⟨w, 2 * a.g⟩ (fun x => wrap w (sInt a.sew x)) (fun a b => (a + b) % 2 ^ w) f c s
def execVwrsum (f : FV) (s : State) : Out := issue s (.vwrsum f) [] none (runVwrsum f)

/-! ### Floating reductions (R201, R202) -/

/-- A partial result: a pattern of DST, and whether it is poisoned. -/
abbrev Part := Nat × Bool

/-- round(x + y) to DST, with no flag from a poisoned input (R201, R409). -/
def partAdd (f : FW) (x : Part) (y : Num) (q : Bool) : Part × Flags :=
  let (z, fl) := addNum f.rm (readFlt f.dst x.1) y
  let (r, fl') := writeFlt f.dst f.rm f.ovf z
  let p := x.2 || q
  ((r, p), if p then 0 else fl ||| fl')

/-- round(x) to DST. -/
def partOf (f : FW) (y : Num) (q : Bool) : Part × Flags :=
  let (r, fl) := writeFlt f.dst f.rm f.ovf y
  ((r, q), if q then 0 else fl)

/-- The operands of a floating reduction: x(i) and its poison, and the seed. -/
def reduceFlt (f : FV) (c : Cmd) (s : State) (body : FW → (Nat → Num × Bool) → Part → Part × Flags) : CRes :=
  let v := s.me.vec
  let f' := FW.of c.fw
  let la := layOf v.lay (storageWidth f'.src1)
  let ld := layOf v.lay (storageWidth f'.dst)
  let x (i : Nat) : Num × Bool :=
    ((readFlt f'.src1 (elemGet v la f.b.toNat i)).scale f'.ts, elemPoison v la f.b.toNat i)
  let (r, fl) := body f' x (elemGet v ld f.c.toNat 0, elemPoison v ld f.c.toNat 0)
  checked c s (some (fwElem c.fw false && extent v.lay (storageWidth f'.src1) != 0 &&
    extent v.lay (storageWidth f'.dst) != 0)) (putReduced s ld f.a r fl)

/-- A seed that comes through with nothing added: a NaN is the canonical one (R71). -/
def seedAlone (f : FW) (x : Part) : Part := (if readFlt f.dst x.1 = .nan then canonNaN f.dst else x.1, x.2)

/-- VFRSUM: in ascending order (R201). -/
def runVfrsum (f : FV) (c : Cmd) (s : State) : CRes :=
  reduceFlt f c s fun f' x seed =>
    (c.acts s.me.vec f.msk).foldl (fun (acc, fl) i =>
      let (y, q) := x i
      let (r, fl') := partAdd f' acc y q
      (r, fl ||| fl')) (seedAlone f' seed, 0)
def execVfrsum (f : FV) (s : State) : Out := issue s (.vfrsum f) [] (some f.fs) (runVfrsum f)

/-- The greatest or least of the seed and the x(i) by R129, rounded once (R201). -/
def reduceBy (op : Num → Num → Num) (f : FV) (c : Cmd) (s : State) : CRes :=
  reduceFlt f c s fun f' x seed =>
    let (y, q) := (c.acts s.me.vec f.msk).foldl
      (fun (acc, p) i => let (y, q) := x i; (op acc y, p || q)) (readFlt f'.dst seed.1, seed.2)
    partOf f' y q

def runVfrmax (f : FV) (c : Cmd) (s : State) : CRes := reduceBy maxNum f c s
def execVfrmax (f : FV) (s : State) : Out := issue s (.vfrmax f) [] (some f.fs) (runVfrmax f)
def runVfrmin (f : FV) (c : Cmd) (s : State) : CRes := reduceBy minNum f c s
def execVfrmin (f : FV) (s : State) : Out := issue s (.vfrmin f) [] (some f.fs) (runVfrmin f)

/-- comb of R202 on values that may be absent, under an operation. -/
def comb {α : Type} (op : α → α → α × Flags) : Option α → Option α → Option α × Flags
  | none, y => (y, 0)
  | x, none => (x, 0)
  | some x, some y => let (r, fl) := op x y; (some r, fl)

/-- One level of the tree: neighbours combined. -/
def treeLevel {α : Type} (op : α → α → α × Flags) : List (Option α) → List (Option α) × Flags
  | x :: y :: r =>
    let (z, fl) := comb op x y
    let (t, fl') := treeLevel op r
    (z :: t, fl ||| fl')
  | l => (l, 0)

/-- The tree of R202 over at most 2^n values. -/
def tree {α : Type} (op : α → α → α × Flags) : Nat → List (Option α) → Option α × Flags
  | 0, l => (l.headD none, 0)
  | n + 1, l =>
    let (t, fl) := treeLevel op l
    let (r, fl') := tree op n t
    (r, fl ||| fl')

/-- round(x + y) of two partial results. -/
def partJoin (f : FW) (x y : Part) : Part × Flags := partAdd f x (readFlt f.dst y.1) y.2

/-- The active elements that lane `l` holds, ascending (R151, R202). -/
def laneElems (v : VecRegs) (mk : BitVec 2) (l : Nat) : List Nat :=
  let a := v.lay
  let own := if a.half then (if l % 2 = 0 then [l / 2] else []) else upTo (l * a.p) a.p
  own.filter fun i => decide (i < v.vl) && mkPermits v mk i

/-- The sum of one lane, ascending (R202). -/
def laneSum (f : FW) (x : Nat → Num × Bool) (is : List Nat) : Option Part × Flags :=
  is.foldl (fun (acc, fl) i =>
    let (y, q) := x i
    match acc with
    | none => let (r, fl') := partOf f y q; (some r, fl ||| fl')
    | some a => let (r, fl') := partAdd f a y q; (some r, fl ||| fl')) (none, 0)

/-- Values and the flags of all of them. -/
def gather (l : List (Option Part × Flags)) : List (Option Part) × Flags :=
  (l.map (·.1), l.foldl (fun a e => a ||| e.2) 0)

/-- VFRSUMT: by lane, by lane within a cluster, then by cluster (R202). -/
def runVfrsumt (f : FV) (c : Cmd) (s : State) : CRes :=
  let v := s.me.vec
  reduceFlt f c s fun f' x seed =>
    let cluster (k : Nat) : Option Part × Flags :=
      let (w, fl) := gather ((upTo (32 * k) 32).map fun l =>
        if l < v.lanes then laneSum f' x ((laneElems v f.msk l).filter fun i => decide (c.resume ≤ i)) else (none, 0))
      let (z, fl') := tree (partJoin f') 5 w
      (z, fl ||| fl')
    let (z, fl) := gather ((upTo 0 16).map cluster)
    let (t, fl') := tree (partJoin f') 4 z
    match t with
    | none => (seedAlone f' seed, fl ||| fl')
    | some t =>
      let (r, fl'') := partAdd f' seed (readFlt f'.dst t.1) t.2
      (r, fl ||| fl' ||| fl'')
def execVfrsumt (f : FV) (s : State) : Out := issue s (.vfrsumt f) [] (some f.fs) (runVfrsumt f)

end Sys2Proof.Machine
end

