-- ==== Sys2Proof/Machine/VMem.lean ====
section
/-! DEFINITION. Vector loads and stores (R248 to R259), on the tape and inverted (R310 to R317). -/

namespace Sys2Proof.Machine

/-- One active element's access: element, address, width, and whether its address comes from a poisoned operand. -/
structure EAcc where
  i : Nat
  ea : W
  w : Nat
  bad : Bool
deriving DecidableEq, Repr

/-- Where an element's access leads: misalignment, then a poisoned address, then R237 (R251, R409). -/
def elemPlace (s : State) (k : Kind) (a : EAcc) : Except Cause Placed :=
  if a.ea.toNat % a.w ≠ 0 then .error ⟨if k.isStore then 6 else 5, a.ea⟩
  else if a.bad then .error ⟨0x1A, a.ea⟩
  else xlateMe s .vector k a.ea a.w

/-- The same for an instruction that a region does not admit: then region conflict (R311, R312, R315). -/
def elemPlaceBan (s : State) (k : Kind) (ban : Bool) (a : EAcc) : Except Cause Placed :=
  match elemPlace s k a with
  | .error c => .error c
  | .ok p => if ban && (myRegion s a.ea a.w).isSome then .error (conflict a.ea) else .ok p

/-- Elements taken in order up to the first cause: the state, what each element gave, and the element that stopped
it with those that remain. -/
def sweep {β : Type} (step : State → EAcc → Except Cause (State × β)) :
    List EAcc → State → List β → State × List β × Option (EAcc × Cause × List EAcc)
  | [], s, acc => (s, acc.reverse, none)
  | a :: r, s, acc =>
    match step s a with
    | .error c => (s, acc.reverse, some (a, c, r))
    | .ok (t, b) => sweep step r t (b :: acc)

/-- The first element with a cause, without any effect. -/
def firstCause (s : State) (k : Kind) (ban : Bool) (l : List EAcc) : Option (EAcc × Cause × List EAcc) :=
  (sweep (fun t a => match elemPlaceBan s k ban a with
    | .error c => .error c
    | .ok _ => .ok (t, ())) l s []).2.2

/-- FHINT: the pages of further elements whose translation fails, at most 15 (R404). -/
def hintsOf (s : State) (k : Kind) (a : EAcc) (rest : List EAcc) : List W :=
  (rest.foldl (fun (acc : List W × List Nat) e =>
    let page := e.ea.toNat / 4096
    if acc.2.contains page then acc
    else match xlateMe s .vector k e.ea e.w with
      | .error _ => (acc.1 ++ [e.ea], page :: acc.2)
      | .ok _ => acc) ([], [a.ea.toNat / 4096])).1.take 15

/-! ### Addresses (R248, R249) -/

/-- ew in bits (R96). -/
def ewBits (f : FM) : Nat := 8 * 2 ^ f.ew.toNat

/-- R248; `packed`: the instruction may run with SEW = 4. In REV, SEW = 32 takes any ew (R316). -/
def ewOk (s : State) (f : FM) (packed : Bool) : Bool :=
  let sew := s.me.vec.lay.sew
  if sew = 4 then packed && f.ew == 0 else ewBits f == sew || (s.me.mode == 2 && sew == 32)

/-- The accesses of a unit-stride command; with SEW = 4 two elements share a byte. -/
def unitAcc (c : Cmd) (v : VecRegs) (b : W) (w i : Nat) : EAcc :=
  ⟨i, b + BitVec.ofNat 64 (if v.lay.sew = 4 then i / 2 else i * w), w, c.gpois 0⟩

/-- The accesses of a strided command. -/
def stridedAcc (c : Cmd) (w i : Nat) : EAcc := ⟨i, c.g 0 + BitVec.ofNat 64 i * c.g 1, w, c.gpois 0 || c.gpois 1⟩

/-- The accesses of an indexed command whose index group lies at `r`. -/
def indexedAcc (c : Cmd) (v : VecRegs) (r : BitVec 5) (w i : Nat) : EAcc :=
  ⟨i, c.g 0 + BitVec.ofNat 64 (elemGet v v.lay r.toNat i), w, c.gpois 0 || elemPoison v v.lay r.toNat i⟩

/-- The accesses from the resume point on (R403). -/
def fromResume (c : Cmd) (l : List EAcc) : List EAcc := l.filter fun a => decide (c.resume ≤ a.i)

/-! ### Loads -/

/-- One element loaded; with SEW = 4 its nibble (R248, R255). -/
def loadStep (ban : Bool) (nib : Bool) (s : State) (a : EAcc) : Except Cause (State × EWr) :=
  match elemPlaceBan s .load ban a with
  | .error c => .error c
  | .ok p =>
    let x := loadAt p.st p.phys a.w
    .ok (p.st, ⟨a.i, if nib then nfld x (4 * (a.i % 2)) 4 else x, marked p.st p.phys.loc a.w⟩)

/-- Loaded elements written; those that are poisoned are set in PM (R408, R410). -/
def putLoaded (s : State) (d : BitVec 5) (ws : List EWr) : State :=
  let v := writeElems s.me.vec s.me.vec.lay d.toNat ws
  s.setMe { s.me with vec := setPM v ((ws.filter (·.p)).map (·.i)) }

/-- A plain load, of the prefix class (R252, R255). -/
def plainLoad (c : Cmd) (d : BitVec 5) (accs : List EAcc) (s : State) : CRes :=
  let (t, ws, stop) := sweep (loadStep false (s.me.vec.lay.sew == 4)) (fromResume c accs) s []
  match stop with
  | none => .done (putLoaded t d ws)
  | some (a, ca, rest) => .fault (putLoaded t d ws) c ca a.i (hintsOf t .load a rest)

/-! ### Stores -/

/-- A store element: its value and whether that is poisoned. -/
structure SDat where
  x : Nat
  p : Bool
deriving DecidableEq, Repr

/-- The data of element `i` of a store; suppressed when it is poisoned or its position is in PM (R410). -/
def storeData (v : VecRegs) (r : BitVec 5) (i : Nat) : SDat :=
  ⟨elemGet v v.lay r.toNat i, elemPoison v v.lay r.toNat i || maskBit v.pm v.lay i⟩

/-- One element stored at its place, or suppressed: then its number and address (R255, R410). With SEW = 4 one nibble of the
byte changes. -/
def storeElem (nib : Bool) (dat : Nat → SDat) (s : State) (a : EAcc) (p : Phys) : State × Option (Nat × W) :=
  let d := dat a.i
  if d.p then (s, some (a.i, a.ea))
  else
    let x := if nib then nset (loadAt s p 1) (4 * (a.i % 2)) 4 d.x else d.x
    (storeAt s p (leBytes a.w x) none, none)

/-- One element translated and stored. -/
def storeStep (ban nib : Bool) (dat : Nat → SDat) (s : State) (a : EAcc) :
    Except Cause (State × Option (Nat × W)) :=
  match elemPlaceBan s .store ban a with
  | .error c => .error c
  | .ok p => .ok (storeElem nib dat p.st a p.phys)

/-- One element translated, for a command that makes every access after all its translations. -/
def placeStep (place : State → EAcc → Except Cause Placed) (s : State) (a : EAcc) : Except Cause (State × EAcc × Phys) :=
  match place s a with
  | .error c => .error c
  | .ok p => .ok (p.st, a, p.phys)

/-- Elements stored in turn at places that have been found. -/
def storeAll (nib : Bool) (dat : Nat → SDat) (s : State) (l : List (EAcc × Phys)) : State × List (Option (Nat × W)) :=
  l.foldl (fun (s, acc) (a, p) => let (t, b) := storeElem nib dat s a p; (t, b :: acc)) (s, [])

/-- The lowest suppressed element, over all executions of the command. -/
def suppMin (a : Option (Nat × W)) (l : List (Option (Nat × W))) : Option (Nat × W) :=
  l.foldl (fun a b => match a, b with
    | some x, some y => some (if y.1 < x.1 then y else x)
    | none, y => y
    | x, none => x) a

/-- The end of a store that may have suppressed elements (R411). -/
def storeDone (s : State) (supp : Option (Nat × W)) : CRes :=
  match supp with
  | some (i, ea) => .done (suppressVector s ea i)
  | none => .done s

/-- Elements stored in order, of the prefix class. -/
def prefixStore (c : Cmd) (ban nib : Bool) (dat : Nat → SDat) (accs : List EAcc) (s : State) : CRes :=
  let (t, sups, stop) := sweep (storeStep ban nib dat) accs s []
  let supp := suppMin c.supp sups
  match stop with
  | none => storeDone t supp
  | some (a, ca, rest) => .fault t { c with supp := supp } ca a.i (hintsOf t .store a rest)

/-- A list in an order that the manual leaves open: each next member is a choice among those that remain (log 4). -/
def anyOrder {α : Type} : Nat → State → List α → List α × State
  | 0, s, l => (l, s)
  | n + 1, s, l =>
    if s.choices.isEmpty then (l, s)
    else
      let (k, s) := s.pick l.length
      let (r, s) := anyOrder n s (l.eraseIdx k)
      ((l[k]?).toList ++ r, s)

/-- A done mask with more elements. -/
def doneWith (v : VecRegs) (m : MReg) (is : List Nat) : MReg := is.foldl (fun m i => maskSet m v.lay i true) m

/-- Elements of a done-mask command in any order (R252): when some element has a cause, those that stand before the
lowest of them in that order and have none complete. -/
def doneMaskSweep {β : Type} (k : Kind) (ban : Bool) (step : State → EAcc → Except Cause (State × β)) (c : Cmd)
    (accs : List EAcc) (s : State) : State × List β × MReg × Option (EAcc × Cause × List EAcc) :=
  let v := s.me.vec
  let todo := accs.filter fun a => !maskBit c.done v.lay a.i
  let (order, s) := anyOrder todo.length s todo
  match firstCause s k ban todo with
  | none =>
    let (t, bs, stop) := sweep step order s []
    (t, bs, doneWith v c.done ((order.take bs.length).map (·.i)), stop)
  | some (a, ca, rest) =>
    let ok := (order.takeWhile (· != a)).filter fun e =>
      match elemPlaceBan s k ban e with
      | .ok _ => true
      | .error _ => false
    let (t, bs, _) := sweep step ok s []
    (t, bs, doneWith v c.done ((ok.take bs.length).map (·.i)), some (a, ca, rest))

/-! ### Recording stores (R310, R311) -/

/-- The width code of a store of `w` bytes (R309). -/
def widthCode (w : Nat) : Nat := w.log2

/-- An old value for the tape: its element's access, the value, and whether a word of it was poisoned. -/
structure OldVal where
  a : EAcc
  x : Nat
  p : Bool
deriving DecidableEq, Repr

/-- The records of each element alone, VSTX and VSTXO, with the 4-byte words of each that are poisoned. -/
def recordsEach (wc : Nat) (l : List OldVal) : List (List W × List Nat) :=
  l.map fun e => (recordWords wc e.a.ea 0 1 [(0, e.x)], if e.p then recordMarks wc [0] else [])

/-- The records of VST and VSTS: runs that span at most 64 positions (R310). -/
def recordsRuns (wc : Nat) (ea : Nat → W) : Nat → List OldVal → List (List W × List Nat)
  | 0, _ => []
  | _, [] => []
  | n + 1, e :: r =>
    let i := e.a.i
    let run := e :: r.takeWhile (fun e => decide (e.a.i ≤ i + 63))
    let h := (run.getLast?.map (·.a.i)).getD i
    (recordWords wc e.a.ea (ea (i + 1) - ea i) (h - i + 1) (run.map fun e => (e.a.i - i, e.x)),
      recordMarks wc ((run.filter (·.p)).map (·.a.i - i))) ::
      recordsRuns wc ea n (r.dropWhile fun e => decide (e.a.i ≤ i + 63))

/-- Records put one after the other, with the poisoned words of all of them. -/
def joinRecords (rs : List (List W × List Nat)) : List W × List Nat :=
  rs.foldl (fun (ws, bad) (w, b) => (ws ++ w, bad ++ b.map (2 * ws.length + ·))) ([], [])

/-- An element that a store of a hart in FWD would record: it lies in a region and is not suppressed (R310, R410). -/
def recordable (s : State) (dat : Nat → SDat) (a : EAcc) : Bool :=
  s.me.mode == 1 && (myRegion s a.ea a.w).isSome && !(dat a.i).p

/-- The old values that a store in FWD records, of elements whose places have been found (R311). -/
def toRecord (s : State) (dat : Nat → SDat) (l : List (EAcc × Phys)) : List OldVal :=
  (l.filter fun e => recordable s dat e.1).map fun (a, p) => ⟨a, loadAt s p a.w, marked s p.loc a.w⟩

/-- Records appended by a command whose own translations are kept apart. -/
def appendApart (s : State) (rs : List (List W × List Nat)) : Except Cause State :=
  match appendTape { s with pin := none } .vector (joinRecords rs).1 (joinRecords rs).2 with
  | .error c => .error c
  | .ok t => .ok { t with pin := s.pin }

/-- The elements below a resume point join the done mask. -/
def doneBelow (v : VecRegs) (c : Cmd) (k : Nat) : Cmd := { c with done := doneWith v c.done (upTo 0 (min k v.vl)) }

/-- A VSTX whose last execution recorded resumes at its resume point, wherever the handler has put it (R311, R403, R405): what lies
below counts as done in the new execution, and what lies above does not, but for what executions that did not record have done. -/
def resumed (v : VecRegs) (c : Cmd) : Cmd := if c.inOrder then { doneBelow v c c.resume with inOrder := false } else c

/-- A store that records on the tape: every element below the lowest cause is translated, once; the old values are read and
recorded; then those elements are stored at their places, and the cause is reported (R242, R310, R311). `dm`: a VSTX, which
is of the prefix class in this execution (R252). -/
def recordedStore (each dm ban nib : Bool) (ea : Nat → W) (c : Cmd) (dat : Nat → SDat) (todo : List EAcc) (s : State) : CRes :=
  let mark (c : Cmd) : Cmd := if dm then { c with inOrder := true } else c
  let (t, l, stop) := sweep (placeStep fun t a => elemPlaceBan t .store ban a) todo s []
  let rs := toRecord t dat l
  let wc := widthCode ((todo.head?.map (·.w)).getD 1)
  match (if rs.isEmpty then .ok t else appendApart t (if each then recordsEach wc rs else recordsRuns wc ea rs.length rs)) with
  | .error ca => let k := (todo.head?.map (·.i)).getD 0; .fault t (mark c) ca k []
  | .ok t =>
    let (t, sups) := storeAll nib dat t l
    let supp := suppMin c.supp sups
    match stop with
    | none => storeDone t supp
    | some (a, ca, rest) => .fault t (mark { c with supp := supp }) ca a.i (hintsOf t .store a rest)

/-- A store of format M with its accesses, `each` for VSTX and VSTXO, `dm` for VSTX (R255, R256, R310, R311). -/
def recordingStore (each dm : Bool) (ea : Nat → W) (c : Cmd) (dat : Nat → SDat) (accs : List EAcc) (s : State) : CRes :=
  let nib := s.me.vec.lay.sew == 4
  -- a packed store, or one of a farm loop context, may not lie in a region (R306, R312)
  let ban := s.me.mode == 1 && (nib || s.me.farm.isSome)
  let v := s.me.vec
  let now := resumed v c
  let todo := if dm then accs.filter fun a => !maskBit now.done v.lay a.i else fromResume c accs
  if todo.any (recordable s dat) then recordedStore each dm ban nib ea c dat todo s
  else if dm then
    let c := now
    let (t, sups, m, stop) := doneMaskSweep .store ban (storeStep ban nib dat) c todo s
    let supp := suppMin c.supp sups
    match stop with
    | none => storeDone t supp
    | some (a, ca, rest) => .fault t { c with supp := supp, done := m } ca a.i (hintsOf t .store a rest)
  else prefixStore c ban nib dat todo s

/-! ### Reverse mode (R315 to R317) -/

/-- What a vector load or store does in REV. -/
inductive RevDo where
  /-- As in OFF. -/
  | plain
  /-- Every element inverted. -/
  | invert
  /-- Region conflict at the lowest of the elements `at_`, unless one of `before` up to it has a cause of its own. -/
  | bar (before at_ : List EAcc)

/-- R315, R316. -/
def revPlan (s : State) (f : FM) (accs : List EAcc) : RevDo :=
  if s.me.mode ≠ 2 then .plain
  else
    let inside := accs.filter fun a => (myRegion s a.ea a.w).isSome
    let outside := accs.filter fun a => (myRegion s a.ea a.w).isNone
    let sew := s.me.vec.lay.sew
    if inside.isEmpty ∧ (outside.isEmpty ∨ ewBits f = sew ∨ sew = 4) then .plain
    else if outside.isEmpty then (if sew = 32 then .invert else .bar inside inside)
    else .bar [] outside

/-- The conflict of R315 and R316, before any element takes effect: the replay starts again whole. -/
def barred (s : State) (c : Cmd) (k : Kind) (accs at_ : List EAcc) : CRes :=
  let lim := (at_.head?.map (·.i)).getD 0
  let c := { c with anew := true }
  match firstCause s k false (accs.filter fun a => decide (a.i ≤ lim)) with
  | some (a, ca, _) => .fault s c ca a.i []
  | none =>
    match at_ with
    | a :: _ => .fault s c (conflict a.ea) a.i []
    | [] => .done s

/-- The place of an element's cell, after the causes of its primal address (R315, R316): width conflict included. -/
def revCell (s : State) (k : Kind) (a : EAcc) : Except Cause Placed :=
  match elemPlace s k a with
  | .error c => .error c
  | .ok p =>
    match myRegion s a.ea a.w with
    | none => .error (conflict a.ea)
    | some n =>
      if (regionSlot s.myCtx n).2.2.1 ≠ a.w then .error (conflict a.ea)
      else apart p.st fun t => cellPlace t .vector n a.ea

/-- Pairs in ascending key, equal keys together, in list order (R270). -/
def segment {α : Type} : List (Nat × α) → List (Nat × List α)
  | [] => []
  | (k, a) :: r =>
    match segment r with
    | (k', l) :: t => if k = k' then (k, a :: l) :: t else (k, [a]) :: (k', l) :: t
    | [] => [(k, [a])]

/-- Pairs sorted stably by key. -/
def sortKey {α : Type} (l : List (Nat × α)) : List (Nat × α) := sortBy (fun a b => decide (a.1 ≤ b.1)) l

/-- FP32 sums under RNE, TSCALE = 127, OVF = 0 (R315, R316). -/
def fw32 : FW := { src1 := 10, src2 := 10, dst := 10, acc := 10, rm := 0, ovf := false, scl1 := false, scl2 := false, ts := 0 }

/-- Updates of distinct keys in ascending order, from update `k` on (R270, R271): each gives the new state and a
suppressed element. -/
def updates {α : Type} (step : State → α → Except Cause (State × Option (Nat × W))) :
    Nat → List α → State → List (Option (Nat × W)) → State × List (Option (Nat × W)) × Option (Nat × Cause × List α)
  | _, [], s, acc => (s, acc, none)
  | k, a :: r, s, acc =>
    match step s a with
    | .error c => (s, acc, some (k, c, r))
    | .ok (t, b) => updates step (k + 1) r t (b :: acc)

/-- The address of an element's cell. -/
def cellAddr (s : State) (a : EAcc) : Nat :=
  match myRegion s a.ea a.w with
  | some n => (cellOf s.myCtx n a.ea).toNat
  | none => 0

/-- An inverted vector load: a scatter-add into cells, in which an element with a set PM bit is suppressed as one whose data is
poisoned (R316, R410). RIX counts the cells already updated. -/
def revLoad (c : Cmd) (d : BitVec 5) (accs : List EAcc) (s : State) : CRes :=
  let v := s.me.vec
  let cell := cellAddr s
  let runs := segment (sortKey (accs.map fun a => (cell a, a)))
  let step (s : State) (run : Nat × List EAcc) : Except Cause (State × Option (Nat × W)) :=
    let go := run.2.foldl (fun (acc : Except Cause Placed) a => match acc with
      | .error e => .error e
      | .ok p => revCell p.st .load a) (.ok ⟨⟨0, 0, none, none⟩, s⟩)
    match go with
    | .error e => .error e
    | .ok p =>
      let (y, fl) := tree (partJoin fw32) 16 (run.2.map fun a =>
        let x := storeData v d a.i
        some (x.x, x.p))
      let y := y.getD (0, false)
      let (t, supp) := cellAdd p.st p.phys y.1 y.2
      .ok (t.setMe (t.me.addFlags fl),
        if supp then run.2.head?.map fun a => (a.i, BitVec.ofNat 64 run.1) else none)
  let (t, sups, stop) := updates step c.resume (runs.drop c.resume) s []
  let supp := suppMin c.supp sups
  match stop with
  | none => storeDone t supp
  | some (k, ca, _) => .fault t { c with supp := supp } ca k []

/-- Places found for those elements of a list that have no cause. -/
def placesOf (place : State → EAcc → Except Cause Placed) (l : List EAcc) (s : State) : State × List (EAcc × Phys) :=
  l.foldl (fun (s, acc) a => match place s a with
    | .ok p => (p.st, acc ++ [(a, p.phys)])
    | .error _ => (s, acc)) (s, [])

/-- The elements of an inverted store that complete when element `a` has a cause: those that stand before it in an order that is
a choice (R252; log 4), but of those that address one cell no lower one without the higher (R317). `l`: the places of the
elements below `a`. -/
def swapsAtFault (place : State → EAcc → Except Cause Placed) (cell : EAcc → Nat) (todo order rest : List EAcc) (a : EAcc)
    (s : State) (l : List (EAcc × Phys)) : State × List (EAcc × Phys) :=
  let pre := order.takeWhile (· != a)
  let (t, m) := placesOf place (rest.filter pre.contains) s
  let found := l.filter (fun e => pre.contains e.1) ++ m
  (t, found.filter fun e => todo.all fun h => decide (h.i ≤ e.1.i) || cell h != cell e.1 || found.any (·.1 == h))

/-- Cells swapped with 0, the highest element first (R317). An element whose PM bit is set is suppressed, cell and register;
DESIGN CHOICE, log 13. -/
def swapAll (cell : EAcc → Nat) (s : State) (l : List (EAcc × Phys)) : State × List EWr × List (Option (Nat × W)) :=
  let v := s.me.vec
  l.reverse.foldl (fun (t, ws, sups) (a, p) =>
    if maskBit v.pm v.lay a.i then (t, ws, some (a.i, BitVec.ofNat 64 (cell a)) :: sups)
    else
      let (x, q, t) := cellSwap t p
      (t, (⟨a.i, x, q⟩ : EWr) :: ws, sups)) (s, [], [])

/-- An inverted vector store, of the done-mask class: each element that is not done is translated with its cell, once, then
swapped (R242, R252, R317). -/
def revStore (c : Cmd) (d : BitVec 5) (accs : List EAcc) (s : State) : CRes :=
  let v := s.me.vec
  let todo := accs.filter fun a => !maskBit c.done v.lay a.i
  let (order, s) := anyOrder todo.length s todo
  let place (t : State) (a : EAcc) : Except Cause Placed := revCell t .store a
  let (t, l, stop) := sweep (placeStep place) todo s []
  let (t, go) := match stop with
    | none => (t, l)
    | some (a, _, rest) => swapsAtFault place (cellAddr s) todo order rest a t l
  let (t, ws, sups) := swapAll (cellAddr s) t go
  let t := putLoaded t d ws
  let supp := suppMin c.supp sups
  match stop with
  | none => storeDone t supp
  | some (a, ca, rest) =>
    .fault t { c with supp := supp, done := doneWith v c.done (go.map (·.1.i)) } ca a.i (hintsOf t .store a rest)

/-! ### The instructions -/

/-- A format M load in every mode. -/
def loadM (f : FM) (packed : Bool) (acc : VecRegs → Nat → EAcc) (c : Cmd) (s : State) : CRes :=
  let v := s.me.vec
  let accs := (v.actives f.msk).map (acc v)
  if !ewOk s f packed then .illegal c s
  else checked c s none
    (match revPlan s f accs with
     | .plain => plainLoad c f.a accs s
     | .invert => revLoad c f.a accs s
     | .bar before at_ => barred s c .load before at_)

/-- A format M store in every mode. -/
def storeM (f : FM) (packed each dm : Bool) (acc : VecRegs → Nat → EAcc) (c : Cmd) (s : State) : CRes :=
  let v := s.me.vec
  let accs := (v.actives f.msk).map (acc v)
  if !ewOk s f packed then .illegal c s
  else checked c s none
    (match revPlan s f accs with
     | .plain => recordingStore each dm (fun i => (acc v i).ea) c (storeData v f.a) accs s
     | .invert => revStore c f.a accs s
     | .bar before at_ => barred s c .store before at_)

/-- Bytes of a memory element. -/
def eb (f : FM) : Nat := 2 ^ f.ew.toNat

def runVld (f : FM) (c : Cmd) (s : State) : CRes := oncePerPage (loadM f true (fun v i => unitAcc c v (c.g 0) (eb f) i) c) s
def execVld (f : FM) (s : State) : Out := issue s (.vld f) [f.b.toNat] none (runVld f)
def runVlds (f : FM) (c : Cmd) (s : State) : CRes := oncePerPage (loadM f false (fun _ i => stridedAcc c (eb f) i) c) s
def execVlds (f : FM) (s : State) : Out := issue s (.vlds f) [f.b.toNat, f.c.toNat] none (runVlds f)
def runVldx (f : FM) (c : Cmd) (s : State) : CRes := loadM f false (fun v i => indexedAcc c v f.c (eb f) i) c s
def execVldx (f : FM) (s : State) : Out := issue s (.vldx f) [f.b.toNat] none (runVldx f)
def runVst (f : FM) (c : Cmd) (s : State) : CRes := oncePerPage (storeM f true false false (fun v i => unitAcc c v (c.g 0) (eb f) i) c) s
def execVst (f : FM) (s : State) : Out := issue s (.vst f) [f.b.toNat] none (runVst f)
def runVsts (f : FM) (c : Cmd) (s : State) : CRes := oncePerPage (storeM f false false false (fun _ i => stridedAcc c (eb f) i) c) s
def execVsts (f : FM) (s : State) : Out := issue s (.vsts f) [f.b.toNat, f.c.toNat] none (runVsts f)
def runVstx (f : FM) (c : Cmd) (s : State) : CRes := storeM f false true true (fun v i => indexedAcc c v f.c (eb f) i) c s
def execVstx (f : FM) (s : State) : Out := issue s (.vstx f) [f.b.toNat] none (runVstx f)
def runVstxo (f : FM) (c : Cmd) (s : State) : CRes := storeM f false true false (fun v i => indexedAcc c v f.c (eb f) i) c s
def execVstxo (f : FM) (s : State) : Out := issue s (.vstxo f) [f.b.toNat] none (runVstxo f)

/-- VLDFF: a cause of R237 or R251 at an element after the first trims VL (R258). In REV with an ew that differs from SEW and
elements on both sides of the regions, R315 points to the lowest element inside and R316 to the lowest outside: the latter is
reported; DESIGN CHOICE, log 58. -/
def runVldff (f : FM) (c : Cmd) (s : State) : CRes := oncePerPage (fun s =>
  let v := s.me.vec
  let accs := (v.actives f.msk).map (unitAcc c v (c.g 0) (eb f))
  let outside := accs.filter fun a => (myRegion s a.ea a.w).isNone
  if !ewOk s f true then .illegal c s
  else checked c s none
    (if s.me.mode = 2 ∧ v.lay.sew = 32 ∧ ewBits f ≠ 32 ∧ !outside.isEmpty then barred s c .load [] outside
     else
       let todo := fromResume c accs
       let (t, ws, stop) := sweep (loadStep (s.me.mode == 2) (v.lay.sew == 4)) todo s []
       let t := putLoaded t f.a ws
       match stop with
       | none => .done t
       | some (a, ca, rest) =>
         if accs.head?.any (· == a) ∨ ca.code = 0x17 then .fault t c ca a.i (hintsOf t .load a rest)
         else .done (t.setMe { t.me with vec := { t.me.vec with vl := a.i } }))) s
def execVldff (f : FM) (s : State) : Out := issue s (.vldff f) [f.b.toNat] none (runVldff f)

/-- The byte accesses of VLDM and VSTM: byte k stands for element 8k (R259). -/
def maskAccs (c : Cmd) (v : VecRegs) : List EAcc :=
  (upTo 0 (cdiv v.vl 8)).map fun k => ⟨8 * k, c.g 0 + BitVec.ofNat 64 k, 1, c.gpois 0⟩

/-- VLDM (R259). -/
def runVldm (f : FM) (c : Cmd) (s : State) : CRes := oncePerPage (fun s =>
  let v := s.me.vec
  let put (t : State) (ws : List EWr) : State :=
    let bits := ws.flatMap fun e =>
      (upTo 0 8).filterMap fun j => if e.i + j < v.vl then some (e.i + j, nbit e.x j, e.p) else none
    let w := writeMask t.me.vec f.a.toNat (bits.map fun (i, b, _) => (i, b))
    t.setMe { t.me with vec := setPM w ((bits.filter (·.2.2)).map (·.1)) }
  let (t, ws, stop) := sweep (loadStep (s.me.mode == 2) false) (fromResume c (maskAccs c v)) s []
  checked c s none
    (match stop with
     | none => .done (put t ws)
     | some (a, ca, rest) => .fault (put t ws) c ca a.i (hintsOf t .load a rest))) s
def execVldm (f : FM) (s : State) : Out := issue s (.vldm f) [f.b.toNat] none (runVldm f)

/-- Byte k of a mask as VSTM stores it; suppressed when a position that it holds is in PM. DESIGN CHOICE, log 13. -/
def maskByte (v : VecRegs) (m : MReg) (i : Nat) : SDat :=
  let is := (upTo i 8).filter fun j => decide (j < v.vl)
  ⟨is.foldl (fun acc j => acc + if maskBit m v.lay j then 2 ^ (j - i) else 0) 0, is.any fun j => maskBit v.pm v.lay j⟩

/-- VSTM (R259). A store in a region is a conflict in FWD and in REV (R312, R315). -/
def runVstm (f : FM) (c : Cmd) (s : State) : CRes :=
  oncePerPage (fun s =>
    let v := s.me.vec
    checked c s none (prefixStore c true false (maskByte v (v.mask f.a.toNat)) (fromResume c (maskAccs c v)) s)) s
def execVstm (f : FM) (s : State) : Out := issue s (.vstm f) [f.b.toNat] none (runVstm f)

end Sys2Proof.Machine
end

