-- ==== Sys2Proof/Machine/CtxImage.lean ====
section
/-! DEFINITION. The save image (R419), CTXSV and CTXLD (R420, R421, R424), and the register words that an image shares with the control registers. -/

namespace Sys2Proof.Machine

/-! ### Register words -/

/-- VSHAPE (R149). -/
def vshapeWord (v : VecRegs) : W := BitVec.ofNat 64 (v.gc.toNat * 16 + v.sewc.toNat)

/-- GRANT (R158). -/
def grantWord (v : VecRegs) : W := BitVec.ofNat 64 (v.phys * 65536 + v.lanes)

/-- The ordered pairs of distinct queues (R348). -/
def drawerPairs : List (Nat × Nat) := (upTo 0 4).flatMap fun p => ((upTo 0 4).filter (· != p)).map fun c => (p, c)

/-- DRCNT (R348). -/
def drcntWord (h : Hart) : W :=
  BitVec.ofNat 64 ((drawerPairs.map fun (p, c) => h.drawers.get 0 (drawerNo p c) % 16 * 16 ^ drawerNo p c).sum)

/-- The drawers that a DRCNT value gives. -/
def drawersOf (x : W) : Tab Nat :=
  drawerPairs.filterMap fun (p, c) =>
    let n := fld x (4 * drawerNo p c) 4
    if n = 0 then none else some (drawerNo p c, n)

/-- PSTAT (R410). -/
def pstatWord (h : Hart) : W := BitVec.ofNat 64 ((if h.flt.rep then 2 else 0) + if h.vec.pm = 0 then 0 else 1)

/-- The masks of the bits that GSTAT, FOLD, LWIN and the tape registers hold (R161, R162, R230, R307). -/
def foldBits (x : W) : W := x &&& 0xFFFFFFFF00009F07#64
def lwinBits (x : W) : W := x &&& 0x0000000003FF03FF#64
def tapeBits (x : W) : W := setFld x 0 4 0

/-! ### The image as a number, byte `o` at bit 8 × o (R419) -/

def imageSize : Nat := 0x17000

/-- `n` bytes at offset `o` of an image. -/
def imgFld (img o n : Nat) : Nat := img / 256 ^ o % 256 ^ n

/-- Fields put side by side: offset, bytes, value. -/
def imgOf (fs : List (Nat × Nat × Nat)) : Nat := (fs.map fun (o, n, x) => x % 256 ^ n * 256 ^ o).sum

/-- The registers that a KIND 1 image holds: those of the loop context folded to `w` lanes, and the flags of the fold
(R420). The flags stand in the image's FFLAGS; DEDUCED, log 24. -/
def foldedTo (v : VecRegs) (w : Nat) : VecRegs × Flags :=
  if w < v.lanes then
    let (f, fl) := foldAll v (v.lay.cap v.lanes) (v.lay.cap w)
    (dropLanes { f with gloss := glossWord (lossMap v w v.lanes) none w v.lanes, gstat := setBit f.gstat 0 true } w, fl)
  else (v, 0)

/-- Bytes of the done mask: bit i for element i (R419). -/
def doneBits (a : Lay) (m : MReg) : Nat :=
  if m = 0 then 0 else ((upTo 0 32768).map fun i => if decide (maskPos a i < 32768) && maskBit m a i then 2 ^ i else 0).sum

/-- The done mask that the bytes give, in a shape. -/
def doneMask (a : Lay) (x cap : Nat) : MReg :=
  if x = 0 then 0 else ((upTo 0 cap).filter (nbit x ·)).foldl (fun m i => maskSet m a i true) 0

/-- One entry of the saved queue (R419). A command whose replay starts again whole (R315) is written as one not started;
DEDUCED, log 24. `r` is its resume point. -/
def entryFields (e : Nat) (c : Cmd) (r : Nat) : List (Nat × Nat × Nat) :=
  [(e, 4, c.word.toNat), (e + 4, 2, opcodeOf c.ins),
   (e + 6, 2, (if c.started && !c.anew then 1 else 0) + (if c.stopped then 2 else 0) + if c.ticket.isSome then 4 else 0),
   (e + 8, 8, (c.ticket.map (·.toNat)).getD (if c.anew then 0 else r)), (e + 16, 8, c.fw.toNat)] ++
  ((c.gv.take 5).zip (upTo 0 5)).map fun (x, i) => (e + 24 + 8 * i, 8, x.toNat)

/-- The image of a hart's loop context (R419, R420): kind, the lanes that it names, and its PC. -/
def imageOf (h : Hart) (kind lanes : Nat) (pc : W) : Nat :=
  let (v, fl) := if kind = 1 then foldedTo h.vec lanes else (h.vec, 0)
  let n := min lanes h.vec.lanes
  let pos := fld h.flt.vqpos 8 7
  -- the resume point of the reported command is RIX (R403)
  let rix := fld h.flt.rix 0 32
  imgOf ([(0, 4, 0x51565853), (4, 2, 1), (6, 1, kind), (8, 8, pc.toNat), (0x10, 2, lanes),
      (0x18, 8, (vshapeWord v).toNat), (0x20, 8, v.vl), (0x28, 8, v.gstat.toNat), (0x30, 8, v.gloss.toNat),
      (0x38, 8, v.gctl.toNat), (0x40, 8, v.scnt.toNat)] ++
    (upTo 0 4).map (fun k => (0x48 + 8 * k, 8, (v.fold k).toNat)) ++
    [(0x68, 8, (h.fflags ||| fl).toNat), (0x70, 8, h.mode.toNat), (0x78, 8, h.tapebase.toNat), (0x80, 8, h.tapeptr.toNat),
      (0x88, 8, h.tapelim.toNat), (0x90, 8, h.lwin.toNat), (0x98, 8, (drcntWord h).toNat), (0xA0, 8, h.flt.vfstat.toNat),
      (0xA8, 8, h.flt.rix.toNat), (0xB0, 8, h.flt.vqpos.toNat)] ++
    (upTo 0 15).map (fun k => (0xB8 + 8 * k, 8, (h.flt.fhint.get 0 k).toNat)) ++
    [(0x130, 8, (pstatWord h).toNat), (0x300, 4, h.gpois.toNat)] ++
    (if kind = 0 then
       (h.flt.saved.zip (upTo 0 64)).flatMap (fun (c, k) => entryFields (0x1000 + 64 * k) c (if k = pos then rix else c.resume)) ++
       (match h.flt.saved[pos]? with
        | some c => [(0x2000, 4096, doneBits v.lay (if c.inOrder then doneBelow v c rix else c).done)]
        | none => [])
     else []) ++
    (upTo 0 32).map (fun r => (0x3000 + 2048 * r, 2048, (v.v.get 0 r).toNat % 2 ^ (32 * n))) ++
    [(0x13000, 4096, v.m0.toNat % 2 ^ (64 * n)), (0x14000, 4096, v.m1.toNat % 2 ^ (64 * n)),
      (0x15000, 4096, v.pm.toNat % 2 ^ (64 * n))] ++
    (upTo 0 32).map (fun r => (0x16000 + 64 * r, 64, (v.vpois.get 0 r).toNat % 2 ^ n)))

/-- The g registers of an image: offset 0x200, 8 bytes each (R416, R419). -/
def imageG (h : Hart) : Nat := imgOf ((upTo 1 31).map fun r => (0x200 + 8 * r, 8, (h.rd r).toNat))

/-! ### Images in memory -/

/-- The lines of an image, with or without its block of g registers. -/
def imageLines (g : Bool) : List Nat := (upTo 0 (imageSize / 64)).filter fun l => g || l < 8 || decide (12 ≤ l)

/-- The place of a byte range of an image, at kernel level (R416, R420). An access by the instruction that lies in a
differentiable region is a conflict; log 16. -/
def imagePlace (s : State) (hart : Nat) (own : Bool) (k : Kind) (va : W) : Except Cause Placed :=
  let h := s.hart hart
  let c := s.ctx h.ctx
  match xlate s hart h.ctx 1 .vector k va 64 with
  | .error c => .error c
  | .ok p =>
    if own && (if k.isStore then h.mode != 0 else h.mode == 2) && (regionAt c va 64).isSome then .error (conflict va) else .ok p

/-- Every line of an image translated before any is written (R420). -/
def imagePlaces (hart : Nat) (own : Bool) (k : Kind) (ea : W) : List Nat → State → Except Cause (State × List (Nat × Phys))
  | [], s => .ok (s, [])
  | l :: r, s =>
    match imagePlace s hart own k (ea + BitVec.ofNat 64 (64 * l)) with
    | .error c => .error c
    | .ok p =>
      match imagePlaces hart own k ea r p.st with
      | .error c => .error c
      | .ok (t, ps) => .ok (t, (l, p.phys) :: ps)

/-- An image written (R420); a cause writes none of it. -/
def writeImage (s : State) (hart : Nat) (own g : Bool) (ea : W) (img : Nat) : Except Cause State :=
  match imagePlaces hart own .store ea (imageLines g) s with
  | .error c => .error c
  | .ok (t, ps) => .ok (ps.foldl (fun t (l, p) => storeAt t p (leBytes 64 (imgFld img (64 * l) 64)) none) t)

/-- Lines of an image read. -/
def readImage (s : State) (hart : Nat) (own : Bool) (ea : W) (lines : List Nat) : Except Cause (State × Nat) :=
  match imagePlaces hart own .load ea lines s with
  | .error c => .error c
  | .ok (t, ps) => .ok (t, imgOf (ps.map fun (l, p) => (64 * l, 64, loadAt t p 64)))

/-! ### CTXSV (R420) -/

/-- W of a strip-boundary image (R420). -/
def imageWidth (v : VecRegs) (w : Nat) : Nat := if v.lay.half && w != 0 then max 2 (w - w % 2) else w

/-- The loop context's saved queue is in the image (R405, R420). -/
def clearStat (h : Hart) : Hart := { h with flt := { h.flt with vfstat := 0, saved := [] } }

/-- CTXSV's effect, once the waits of R420 are over. -/
def saveContext (f : FI) (s : State) : Res :=
  let ea := s.me.rd f.b.toNat
  let w := f.imm.toNat
  let status (t : State) (x : W) : Res := .ok (t.setMe ((t.me.wr f.a.toNat x).adv))
  if ea.toNat % 4096 ≠ 0 then status s 1
  else if w ≠ 0 ∧ bit s.me.flt.vfstat 0 then status s 2
  else
    let h := s.me
    let (kind, lanes) := if w = 0 then (0, h.vec.lanes) else (1, imageWidth h.vec w)
    match writeImage s s.cur true false ea (imageOf h kind lanes h.trap.epc) with
    | .error c => .trap c
    | .ok t => status (if w = 0 then t.setMe (clearStat t.me) else t) 0

/-- CTXSV (R420). -/
def execCtxsv (f : FI) (s : State) : Out :=
  if s.me.priv = 0 then .next (illegalAt s) else
  scalar s [f.a.toNat, f.b.toNat]
    (if farmBars s.me f.a then .trap (illegalCause s)
     else if s.me.rdP f.b.toNat then .trap (poisonCause s)
     else if !s.me.queue.isEmpty || anyXfers s then .wait
     else if s.me.farm.isSome then .trap (illegalCause s)
     else saveContext f (drainAll s s.cur))

/-! ### CTXLD (R421) -/

/-- Whether a command is a VSTX. -/
def isVstx : Instr → Bool
  | .vstx _ => true
  | _ => false

/-- Entry `k` of the saved queue of an image; none: it has an operation that is not implemented, or a flag bit above 2 (R421). The
word is not decoded again: it only gives the operands of the operation. The g values and format word are as the image holds
them, unpoisoned, and the commands were decoded at user level. A reported command that has not started starts again whole
(R315), and a VSTX of a hart in FWD whose done mask holds every element below its resume point was of the prefix class, whose
resume point alone says what is done of those (R252, R311); DEDUCED, log 24. -/
noncomputable def imageEntry (img : Nat) (a : Lay) (cap k : Nat) : Option Cmd :=
  let e := 0x1000 + 64 * k
  let word : IWord := BitVec.ofNat 32 (imgFld img e 4)
  let iop := imgFld img (e + 4) 2
  let fl := imgFld img (e + 6) 2
  let low : IWord := BitVec.ofNat 32 (word.toNat % 2 ^ 22)
  if 8 ≤ fl then none
  else (decodeOp iop low).map fun i =>
    let x := imgFld img (e + 8) 8
    let pos := imgFld img 0xB1 1 % 128
    let reported := k = pos ∧ imgFld img 0xA1 1 % 4 = 0
    let resume := if nbit fl 2 then 0 else x
    let bits := imgFld img 0x2000 4096
    let inOrder := isVstx i && decide reported && imgFld img 0x70 1 % 4 == 1 && (upTo 0 (min resume cap)).all (nbit bits ·)
    let done := if k = pos then doneMask a (if inOrder then bits / 2 ^ resume * 2 ^ resume else bits) cap else 0
    { ins := i, word := word, gv := (upTo 0 5).map (fun j => BitVec.ofNat 64 (imgFld img (e + 24 + 8 * j) 8)),
      gp := [], fw := BitVec.ofNat 64 (imgFld img (e + 16) 8), fwp := false, priv := 0, atp := 0,
      started := nbit fl 0, stopped := nbit fl 1, resume := resume, done := done,
      anew := decide reported && !nbit fl 0 && !nbit fl 2,
      inOrder := inOrder, tainted := 0, first := none,
      ticket := if nbit fl 2 then some (BitVec.ofNat 64 x) else none, t0 := none, watch := none, owes := false,
      credit := none, supp := none }

/-- How many commands the saved queue of an image holds: none where VFSTAT.V = 0, or in a strip-boundary image. -/
def imageHeld (img : Nat) : Nat := if imgFld img 6 1 = 0 ∧ nbit (imgFld img 0xA0 1) 0 then imgFld img 0xB0 1 % 128 else 0

/-- The saved queue of an image. -/
noncomputable def imageQueue (img : Nat) (a : Lay) (cap : Nat) : List Cmd :=
  (upTo 0 (imageHeld img)).filterMap (imageEntry img a cap)

/-- The header is one that CTXLD accepts: R419, and no field holds a value that its register never holds; DESIGN
CHOICE, log 24. -/
def headerOk (img : Nat) : Bool :=
  imgFld img 0 4 == 0x51565853 && imgFld img 4 2 == 1 && decide (imgFld img 6 1 < 2) && decide (imgFld img 0x10 2 ≤ 512) &&
    decide (imgFld img 0x18 1 % 8 < 5) && decide (imgFld img 0x70 1 % 4 < 3) && decide (imgFld img 0xA1 1 % 4 < 3) &&
    decide (imgFld img 0xB0 1 % 128 ≤ 64) && (upTo 0 4).all fun k => decide (imgFld img (0x48 + 8 * k) 1 % 8 < 5)

/-- The vector registers of an image, in `lanes` lanes of which `phys` are powered (R421, R424). Every lane of every register
counts as written (R154), and the need is LANES until the next grant step (R156). What the strip had done before the save counts no more
for GLOSS.HARD and QPOS (R162), which the image does not hold; DESIGN CHOICE, log 51. -/
def imageVec (v : VecRegs) (img lanes phys : Nat) : VecRegs :=
  let d (o : Nat) : W := BitVec.ofNat 64 (imgFld img o 8)
  { v with sewc := BitVec.ofNat 3 (imgFld img 0x18 1), gc := BitVec.ofNat 2 (imgFld img 0x18 1 / 16),
           vl := imgFld img 0x20 2, lanes := lanes, phys := phys,
           gstat := setBit (BitVec.ofNat 64 (imgFld img 0x28 1 % 16)) 2 (decide (phys < lanes)), gloss := d 0x30,
           gctl := BitVec.ofNat 64 (imgFld img 0x38 1 % 2), scnt := BitVec.ofNat 32 (imgFld img 0x40 4),
           folds := (upTo 0 4).map (fun k => (k, foldBits (d (0x48 + 8 * k)))),
           v := (upTo 0 32).map (fun r => (r, BitVec.ofNat 16384 (imgFld img (0x3000 + 2048 * r) 2048 % 2 ^ (32 * lanes)))),
           vpois := (upTo 0 32).filterMap (fun r =>
             let x := imgFld img (0x16000 + 64 * r) 64 % 2 ^ lanes
             if x = 0 then none else some (r, BitVec.ofNat 512 x)),
           vwr := (upTo 0 32).map (fun r => (r, BitVec.ofNat 512 (2 ^ lanes - 1))),
           m0 := BitVec.ofNat 32768 (imgFld img 0x13000 4096 % 2 ^ (64 * lanes)),
           m1 := BitVec.ofNat 32768 (imgFld img 0x14000 4096 % 2 ^ (64 * lanes)),
           pm := BitVec.ofNat 32768 (imgFld img 0x15000 4096 % 2 ^ (64 * lanes)),
           need := lanes, stripDone := 0, stripHard := none, vlinks := [] }

/-- The hart with every field of an image but PC, and its saved queue (R421). The image has no field for the region slots and the
key-cache slots (R419), which belong to the context: CTXLD leaves them and their bindings as they are, and an IMPORT of the context's
record writes them (R302, R321, R322, R462); DESIGN CHOICE, log 24. -/
def imageHart (h : Hart) (img lanes phys : Nat) (q : List Cmd) : Hart :=
  let d (o : Nat) : W := BitVec.ofNat 64 (imgFld img o 8)
  { h with
    vec := imageVec h.vec img lanes phys, fflags := BitVec.ofNat 6 (imgFld img 0x68 1), mode := BitVec.ofNat 2 (imgFld img 0x70 1),
    tapebase := tapeBits (d 0x78), tapeptr := tapeBits (d 0x80), tapelim := tapeBits (d 0x88), lwin := lwinBits (d 0x90),
    drawers := drawersOf (d 0x98), link := none, gpois := BitVec.ofNat 32 (imgFld img 0x300 4 / 2 * 2),
    flt := { h.flt with
      vfstat := setBit (d 0xA0 &&& 0xF300#64) 0 (!q.isEmpty), rix := BitVec.ofNat 64 (imgFld img 0xA8 4),
      vqpos := d 0xB0 &&& 0x7F7F#64, fhint := (upTo 0 15).map (fun k => (k, d (0xB8 + 8 * k))),
      rep := nbit (imgFld img 0x130 1) 1, saved := q } }

/-- How the load of an image into a hart ends. -/
inductive Load where
  | loaded (s : State) (img : Nat)
  | status (s : State) (st : Nat)
  | cause (c : Cause)

/-- The lanes that a hart's core can seat for it (R155, R157, R421). -/
def seatable (s : State) (hart : Nat) : Nat :=
  let c := s.core (coreOf hart)
  32 * ((heldBy c hart).length + (freeClusters c).length)

/-- A hart seated on the clusters of `phys` lanes, which clusters being a choice (R155); those that are not powered wake
(R433). -/
def seatHart (s : State) (hart phys : Nat) : State :=
  let c := s.core (coreOf hart)
  let n := clustersOf phys
  let held := (heldBy c hart).length
  let pool := takePool c (n - held)
  let (k, s) := if held < n then s.pick pool.length else (0, s)
  wakeHeld (s.setCore (coreOf hart) (seat c hart n (turn k pool))) hart []

/-- The lines of the saved queue's entries that an image holds, and those of its registers, masks and poison bits. -/
def queueLines (held : Nat) : List Nat := upTo 64 held
def registerLines (held : Nat) : List Nat := upTo 12 52 ++ upTo (64 + held) (imageSize / 64 - 64 - held)

/-- CTXLD's effect on a hart (R421), which the scheduler's restore shares (R416): the header and the entries of the saved queue are
read and checked, then the seats, and only then are the registers read. -/
noncomputable def loadImage (s : State) (hart : Nat) (own : Bool) (ea : W) : Load :=
  if ea.toNat % 4096 ≠ 0 then .status s 1
  else match readImage s hart own ea (upTo 0 8) with
    | .error c => .cause c
    | .ok (s, hdr) =>
      if !headerOk hdr then .status s 1
      else
        let held := imageHeld hdr
        match readImage s hart own ea (queueLines held) with
        | .error c => .cause c
        | .ok (s, cmds) =>
          let lanes := imgFld hdr 0x10 2
          let a : Lay := ⟨sewOf (BitVec.ofNat 3 (imgFld hdr 0x18 1)), gOf (BitVec.ofNat 2 (imgFld hdr 0x18 1 / 16))⟩
          let seats := seatable s hart
          if !(upTo 0 held).all fun k => (imageEntry (hdr + cmds) a (a.cap lanes) k).isSome then .status s 1
          else if seats < lanes ∧ (imgFld hdr 6 1 = 1 ∨ bit (s.hart hart).vec.vsave 0 = false) then .status s 3
          else match readImage s hart own ea (registerLines held) with
            | .error c => .cause c
            | .ok (s, rest) =>
              let img := hdr + cmds + rest
              let phys := min lanes seats
              let u := seatHart s hart phys
              .loaded (u.setHart hart (imageHart (u.hart hart) img lanes phys (imageQueue img a (a.cap lanes)))) img

/-- CTXLD (R421). In a farm loop context it sets the mode as on any hart (R304, R306); DESIGN CHOICE, log 24. In a divided hart, what belongs to the hart is loaded for all its loop contexts (R147, R176). -/
noncomputable def execCtxld (f : FI) (s : State) : Out :=
  let status (t : State) (x : Nat) : Res := .ok (t.setMe ((t.me.wr f.a.toNat (BitVec.ofNat 64 x)).adv))
  if s.me.priv = 0 then .next (illegalAt s) else
  scalar s [f.a.toNat, f.b.toNat]
    (if farmBars s.me f.a then .trap (illegalCause s)
     else if s.me.rdP f.b.toNat then .trap (poisonCause s)
     else if !s.me.queue.isEmpty then .wait
     else if bit s.me.flt.vfstat 0 then status s 4
     else match loadImage s s.cur true (s.me.rd f.b.toNat) with
       | .cause c => .trap c
       | .status t st => status t st
       | .loaded t _ => status (spread t t.cur) 0)

end Sys2Proof.Machine
end

