-- ==== Sys2Proof/Machine/Fetch.lean ====
section
/-! DEFINITION. Fetching and decoding at a privilege level (R43, R56, R94, R103, R108). -/

namespace Sys2Proof.Machine

/-- The replaced words that a hart's fetch may still see at a location: those of stores since its last IFLUSH, the newest
first (R56, R142). -/
def oldWords (s : State) (h : Hart) (loc : Nat) : List IWord :=
  ((s.stale.take (s.stale.length - h.iseen)).filter (fun o => o.loc == loc)).map (·.word)

/-- The word that a fetch at a location sees: the one that stands there, or a replaced one (R56). -/
def seenWord (s : State) (h : Hart) (loc : Nat) (now : IWord) : IWord :=
  match s.olds.head? with
  | some (n + 1) => (oldWords s h loc)[n]?.getD now
  | _ => now

/-- The place of the word at a hart's PC, translated as a fetch (R237). -/
def fetchPlace (s : State) (hart : Nat) : Except Cause Placed :=
  let h := s.hart hart
  xlate s hart h.ctx h.priv .scalar .fetch h.pc 4

/-- The word at a hart's PC: of memory, or of a device register (R233). -/
def fetchWord (s : State) (hart : Nat) : Except Cause (State × IWord) :=
  match fetchPlace s hart with
  | .error c => .error c
  | .ok p =>
    .ok ({ p.st with olds := p.st.olds.tail },
      seenWord s (s.hart hart) p.phys.loc (BitVec.ofNat 32 ((placeLoad p.st p.phys 4).getD 0)))

/-- The device register at a hart's PC, where the manual describes none there. -/
def fetchHole (s : State) (hart : Nat) : Option Nat :=
  match fetchPlace s hart with
  | .error _ => none
  | .ok p => if (placeLoad p.st p.phys 4).isNone then some p.phys.loc else none

/-- The words that differ in memory after a move, as they were before it. -/
def replaced (m n : List Host.Cell) : List OldWord :=
  if m = n then []
  else (dedup (((m.filter (fun c => !n.contains c)) ++ (n.filter (fun c => !m.contains c))).map (fun c => c.1 / 4))).map fun q =>
      ⟨4 * q, BitVec.ofNat 32 (leNat ((upTo (4 * q) 4).map (memGet m)))⟩

/-- A move's outcome with the words that it replaced kept for later fetches (R56, R142). -/
def keepOld (s : State) (o : Out) : Out :=
  match o with
  | .next t => .next { t with stale := replaced s.mem t.mem ++ t.stale }
  | x => x

/-- The entry of an opcode in a context's decode table (R108). -/
def dtEntry (k : Context) (op : Nat) : BitVec 16 :=
  match k.dt with
  | some t => t.getD op 0
  | none => baseEntry op

/-- A word decoded at a hart's level: by the context's decode table at user level, else by base map version 1
(R103). -/
noncomputable def decodeFor (s : State) (hart : Nat) (w : IWord) : Decoded :=
  let h := s.hart hart
  let op := w.toNat / 2 ^ 22
  if h.priv ≠ 0 then decodeWord w
  else if op = 0 ∨ op = 0x3FF then .err .illegal
  else decodeEntry (dtEntry (s.ctx h.ctx) op) w

/-- The four bytes of a word stored where the moving hart fetches next, whose fetch sees what stands there: at the location its PC translates to, or, where it
has none, at the location of its PC. -/
def putFetch (s : State) (w : Nat) : State :=
  let s := { s with olds := [] }
  match xlate s s.cur s.me.ctx s.me.priv .scalar .fetch s.me.pc 4 with
  | .ok p => rawPut s p.phys.loc (bytesOfWord w)
  | .error _ => rawPut s s.me.pc.toNat (bytesOfWord w)

/-- The next instruction of a hart, when it can be fetched and decoded. -/
noncomputable def nextInstr (s : State) (hart : Nat) : Option Instr :=
  match fetchWord s hart with
  | .ok (_, w) => (match decodeFor s hart w with
    | .ok i => some i
    | .err _ => none)
  | .error _ => none

end Sys2Proof.Machine
end

