-- ==== Sys2Proof/Machine/Sched.lean ====
section
/-! DEFINITION. The hardware scheduler: placement (R357, R361, R362), the pre-emption that serves a waiting task (R363), saving and restoring a hart (R415 to R418), quotas (R364), and recruits of a strip farm (R365). -/

namespace Sys2Proof.Machine

/-! ### Carving (R228, R357) -/

/-- No seat of a core is held. -/
def noSeats (c : CoreSt) : Bool := (upTo 0 16).all fun k => !bit c.bench (4 * k + 3)

/-- A core's lane pool carved anew: nothing is lent, no stash line stands, and the scratchpad reads zero (R228). -/
def recarve (s : State) (core reg scr cac : Nat) (rsz : Bool) : State :=
  let s := wipe (unmapFrom s core 0) (padLoc core 0) (2 ^ 22)
  s.setCore core { s.core core with pbreg := reg, scrSize := scr, cacSize := cac, rsz := rsz, lent := 0 }

/-- The carving of a core equals that of a SHAPE. -/
def carvedAs (c : CoreSt) (x : BitVec 29) : Bool :=
  c.pbreg == shapeReg x && c.scrSize == shapeScr x && c.cacSize == shapeCac x && c.rsz == shapeRsz x

/-- A core given the carving of a task, when it has another (R357). Where the sizes already are those of CARVE nothing is written,
and LENT and the scratchpad stand; DESIGN CHOICE, log 59. -/
def carveFor (s : State) (core : Nat) (x : BitVec 29) : State :=
  if carvedAs (s.core core) x then s else recarve s core (shapeReg x) (shapeScr x) (shapeCac x) (shapeRsz x)

/-! ### Which harts a task may have (R357, R361, R363) -/

/-- A loop context that runs nothing: parked from reset, or left by its task. -/
def idleLoop (s : State) (n : Nat) : Bool :=
  let h := s.hart n
  (h.run == .reset || h.run == .idle) && h.task.isNone && h.farm.isNone && !(s.core (coreOf n)).retired

/-- A hart that runs nothing, in no loop context that it was divided into. -/
def idleHart (s : State) (n : Nat) : Bool :=
  decide (n < 2048) && idleLoop s n && s.harts.all fun e => hartOf e.1 != n || e.1 == n || !runsNow e.2.run

/-- The harts that run a task. -/
def hartsOf (s : State) (ctx n : Nat) : List Nat :=
  (s.harts.filter fun e => e.2.ctx == ctx && (e.2.task.map (·.1)) == some n).map (·.1)

/-- No seat of a core is held but by the given harts. -/
def noSeatsBut (s : State) (core : Nat) (freed : List Nat) : Bool :=
  let x := (s.core core).bench
  (upTo 0 16).all fun k => !bit x (4 * k + 3) || freed.contains (8 * core + fld x (4 * k) 3)

/-- A hart that a task may have once the given harts have been freed: idle or freed, allotted, on a core whose carving is right
or may be made so (R357, R361). -/
def fitsAfter (s : State) (freed : List Nat) (ctx : Nat) (t : TaskSlot) (n : Nat) : Bool :=
  (idleHart s n || freed.contains n) && (s.ctx ctx).allot.getLsbD n &&
    (carvedAs (s.core (coreOf n)) t.shape || noSeatsBut s (coreOf n) freed)

/-- A hart that may take a rank of a task now. -/
def fits (s : State) (ctx : Nat) (t : TaskSlot) (n : Nat) : Bool := fitsAfter s [] ctx t n

/-- The ranks of a READY task that are to be placed: those that were saved, or all of them. -/
def ranksToPlace (t : TaskSlot) : List Nat := if t.saved.isEmpty then upTo 0 (shapeHarts t.shape) else t.saved

/-- Whether the harts that may be taken hold the ranks of a task: those of its placement list, or any (R360). -/
def roomFor (t : TaskSlot) (ok : Nat → Bool) : Bool :=
  match t.places with
  | some hs => (ranksToPlace t).all fun r => ok (hs.getD r 2048)
  | none => decide ((ranksToPlace t).length ≤ ((upTo 0 2048).filter ok).length)

/-- Whether the idle allotted harts and those of some tasks are enough for a READY task (R363). -/
def enough (s : State) (ctx : Nat) (t : TaskSlot) (vs : List (Nat × Nat)) : Bool :=
  roomFor t (fitsAfter s (vs.flatMap fun (c, n) => hartsOf s c n) ctx t)

/-- Whether a task of a context could run on a hart: it is allotted, and in the task's placement list where it has one. -/
def usable (s : State) (ctx : Nat) (t : TaskSlot) (n : Nat) : Bool :=
  (s.ctx ctx).allot.getLsbD n && (match t.places with
    | some hs => hs.contains n
    | none => true)

/-- Running tasks of other contexts that hold harts which the waiting task could use, last in the order of R361
first (R363). -/
def candidates (s : State) (ctx : Nat) (t : TaskSlot) : List (Nat × Nat) :=
  (s.contexts.reverse.filter (·.1 != ctx)).flatMap fun (c, k) =>
    let run := (k.slots.filter fun e =>
      e.2.state == .running && bit k.csave 0 && (hartsOf s c e.1).any (usable s ctx t)).map (·.1)
    (sortBy (fun a b => decide (shapePrio (k.slot a).shape ≤ shapePrio (k.slot b).shape)) run.reverse).map (c, ·)

/-- Whether a READY task has waited 1 ms (R363). -/
def waitedLong (s : State) (t : TaskSlot) : Bool := decide (100000 ≤ (s.time - t.since).toNat)

/-- The READY task for which harts are kept free (R363): of those that have waited 1 ms and that pre-emption can serve, the
one that has waited longest; DESIGN CHOICE, log 55. -/
def overdue (s : State) : Option (Nat × Nat) :=
  let all := s.contexts.flatMap fun (c, k) =>
    if k.equota = 0 then []
    else (k.slots.filter fun e => e.2.state == .ready && waitedLong s e.2 && enough s c e.2 (candidates s c e.2)).map
      fun e => ((c, e.1), (s.time - e.2.since).toNat)
  ((sortBy (fun a b => decide (b.2 ≤ a.2)) all).map (·.1)).head?

/-- The harts that are kept free for an overdue task. -/
def keptFree (s : State) (late : Option (Nat × Nat)) (n : Nat) : Bool :=
  match late with
  | some (c, m) => usable s c ((s.ctx c).slot m) n
  | none => false

/-! ### Which task is placed next (R361, R363, R364) -/

/-- The task that a context places next on harts that are not kept free: highest PRIO, then lowest slot. -/
def bestSlot (s : State) (late : Option (Nat × Nat)) (ctx : Nat) : Option Nat :=
  let k := s.ctx ctx
  if k.equota = 0 then none
  else
    let can (t : TaskSlot) : Bool := t.state == .ready && roomFor t fun h => fits s ctx t h && !keptFree s late h
    let ns := (k.slots.filter fun e => can e.2).map (·.1)
    (sortBy (fun a b => decide (shapePrio (k.slot b).shape ≤ shapePrio (k.slot a).shape)) ns).head?

/-- The placements that a context gets in a visit. -/
def weightOf (k : Context) : Nat := let w := fld k.sweight 0 8; if w = 0 then 1 else w

/-- The context that the scheduler serves next, and its task: those whose tasks are to be placed together, and the round, which
stays with the context it visits for SWEIGHT placements, then moves on in ascending number. -/
def nextInRound (s : State) (late : Option (Nat × Nat)) : Option (Nat × Nat) :=
  let stay := decide (s.visited < weightOf (s.ctx s.visit))
  let cs := s.contexts.map (·.1)
  let first := (s.contexts.filter (·.2.together)).map (·.1) ++ if stay then [s.visit] else []
  (first ++ cs.filter (s.visit < ·) ++ cs.filter (· ≤ s.visit)).findSome? fun c => (bestSlot s late c).map (c, ·)

/-- Whether an overdue task can be placed now. -/
def lateFits (s : State) (late : Option (Nat × Nat)) : Bool :=
  match late with
  | some (c, n) => enough s c ((s.ctx c).slot n) []
  | none => false

/-- The task that is placed next: an overdue one that fits, else the next of the round. -/
def nextPlacement (s : State) : Option (Nat × Nat) :=
  let late := overdue s
  if lateFits s late then late else nextInRound s late

/-! ### Starting and restoring a hart -/

/-- A program counter is a multiple of 4 (R43). -/
def pcOf (x : W) : W := setFld x 0 2 0

/-- A hart that begins a task (R357). -/
def startTask (s : State) (ctx n rank hart : Nat) : State :=
  let t := (s.ctx ctx).slot n
  let s := carveFor s (coreOf hart) t.shape
  let h := freshLoop (s.waking hart)
  s.setHart hart { (h.wr 3 t.args) with
    run := .running, pc := pcOf t.entry, ctx := ctx, task := some (n, rank), farm := none, wake := false, preempt := none,
    trap := { h.trap with stat := setFld h.trap.stat 0 2 0 } }

/-- The saved queue back in the command queue (R403, R406): the resume point of the reported command is RIX, unless it starts
again whole (R315, R316), and a VWAIT and a BWAIT start again. Each runs under ATP as it now stands (R234); DEDUCED, log 21. -/
def replayed (h : Hart) (atp : W) : List Cmd :=
  let pos := fld h.flt.vqpos 8 7
  (h.flt.saved.zip (upTo 0 h.flt.saved.length)).map fun (c, i) =>
    let c := { c with resume := if i = pos ∧ c.anew = false then fld h.flt.rix 0 32 else c.resume, credit := none, atp := atp }
    let c := if c.anew then { c with resume := 0, anew := false } else c
    match c.ins with
    | .vwait _ => { c with resume := 0, done := 0, tainted := 0, t0 := none }
    | .bwait _ => { c with watch := none }
    | _ => c

/-- The replay of ERET and of a restore (R406). -/
def replayQueue (h : Hart) (atp : W) : Hart :=
  { h with queue := replayed h atp ++ h.queue, flt := { h.flt with saved := [], vfstat := 0, vqpos := 0, fhint := [] } }

/-- The address of the save table's entry for a slot and rank, and the image it names (R416); none: no image. -/
def imageAddr (s : State) (hart n rank : Nat) : Option W :=
  let h := s.hart hart
  let c := (s.ctx h.ctx).csave
  if !bit c 0 then none
  else match xlate s hart h.ctx 1 .vector .load (BitVec.ofNat 64 (fld c 12 52 * 4096 + 8 * (64 * n + rank))) 8 with
    | .error _ => none
    | .ok p => let x := BitVec.ofNat 64 (loadAt p.st p.phys 8); if x = 0 then none else some x

/-- How the restore of one rank ends: running, no seats (status 3), or refused. -/
inductive Restore where
  | running (s : State)
  | noSeats
  | refused

/-- A rank restored from its image: as CTXLD and the g registers, then on at the image's PC (R416). -/
noncomputable def restoreRank (s : State) (ctx n rank hart : Nat) : Restore :=
  let t := (s.ctx ctx).slot n
  let s := carveFor s (coreOf hart) t.shape
  let h := freshLoop (s.waking hart)
  let s := s.setHart hart { h with ctx := ctx }
  match imageAddr s hart n rank with
  | none => .refused
  | some ea =>
    match loadImage s hart false ea with
    | .cause _ => .refused
    | .status _ st => if st = 3 then .noSeats else .refused
    | .loaded u img =>
      match readImage u hart false ea (upTo 8 4) with
      | .error _ => .refused
      | .ok (u, gs) =>
        let h := u.hart hart
        let g : Tab W := (upTo 1 31).map fun r => (r, BitVec.ofNat 64 (imgFld gs (0x200 + 8 * r) 8))
        let h := { h with run := .running, pc := pcOf (BitVec.ofNat 64 (imgFld img 8 8)), g := g, task := some (n, rank),
                          farm := none, wake := false, preempt := none, link := none,
                          trap := { h.trap with stat := setFld h.trap.stat 0 2 0 } }
        .running (u.setHart hart (if bit h.flt.vfstat 0 then replayQueue h (u.ctx ctx).atp else h))

/-- Every rank of a saved task restored in turn. -/
noncomputable def restoreRanks (ctx n : Nat) : List (Nat × Nat) → State → Restore
  | [], s => .running s
  | (rank, hart) :: r, s =>
    match restoreRank s ctx n rank hart with
    | .running t => restoreRanks ctx n r t
    | x => x

/-- The harts of a placement: as many as ranks, all different, each fit for its rank, and none kept free for another task
(R360, R361, R363). -/
def placementOk (s : State) (ctx n : Nat) (harts : List Nat) : Bool :=
  let t := (s.ctx ctx).slot n
  let late := overdue s
  harts.length == (ranksToPlace t).length && (dedup harts).length == harts.length && harts.all (fits s ctx t) &&
    (late == some (ctx, n) || harts.all fun h => !keptFree s late h) &&
    (match t.places with
     | some hs => harts == (ranksToPlace t).map fun r => hs.getD r 2048
     | none => true)

/-- The scheduler's count of placements in a visit, which starts anew when the round comes back to a context (R361). An overdue
task, and tasks placed together, stand outside the round; DESIGN CHOICE, log 55. -/
def visitContext (s : State) (ctx n : Nat) : State :=
  let late := overdue s
  if late = some (ctx, n) then s
  else
    -- no task is left to be placed together where a context has none that fits
    let cs := s.contexts.map fun (c, k) => (c, { k with together := k.together && (bestSlot s late c).isSome })
    if (s.ctx ctx).together then { s with contexts := cs }
    else if s.visit = ctx ∧ s.visited < weightOf (s.ctx ctx) then { s with contexts := cs, visited := s.visited + 1 }
    else { s with contexts := cs, visit := ctx, visited := 1 }

/-- TASK_PLACE: the scheduler places a READY task on harts (R355, R357, R361, R416). -/
noncomputable def execTaskPlace (ctx n : Nat) (harts : List Nat) (s : State) : Out :=
  let t := (s.ctx ctx).slot n
  if s.ckState = 1 ∨ nextPlacement s ≠ some (ctx, n) ∨ placementOk s ctx n harts = false then .next s
  else
    let ranks := ranksToPlace t
    let s := visitContext s ctx n
    let pairs := ranks.zip harts
    let run (s : State) : State := setSlot s ctx n { t with state := .running, left := ranks, saved := [] }
    if t.saved.isEmpty then .next (run (pairs.foldl (fun s (r, h) => startTask s ctx n r h) s))
    else match restoreRanks ctx n pairs s with
      | .running u => .next (run u)
      | .noSeats => .next s
      | .refused => .next (harts.foldl (fun s h => haltReport s h true) (toDefined s ctx n))

/-! ### The pre-emption that serves a waiting task (R363) -/

/-- The choices of `k` members of a list, earlier ones first. -/
def combos {α : Type} : Nat → List α → List (List α)
  | 0, _ => [[]]
  | _ + 1, [] => []
  | k + 1, x :: r => (combos k r).map (x :: ·) ++ combos (k + 1) r

/-- The fewest tasks that free enough harts. -/
def victims (s : State) (ctx : Nat) (t : TaskSlot) : Option (List (Nat × Nat)) :=
  let cs := candidates s ctx t
  (upTo 1 cs.length).findSome? fun k => (combos k cs).find? (enough s ctx t)

/-- A pre-emption asked of every hart of a task (R355, R415). -/
def askTask (s : State) (ctx n : Nat) (now : Bool) : State :=
  (hartsOf s ctx n).foldl (fun s h =>
    let x := s.hart h
    if x.preempt.isSome && !now then s else s.setHart h { x with preempt := some ⟨now, s.time⟩ }) s

/-- PREEMPT_WAIT_EXPIRY: a READY task has waited 1 ms (R363). -/
def execPreemptWaitExpiry (ctx n : Nat) (s : State) : Out :=
  let k := s.ctx ctx
  let t := k.slot n
  if t.state ≠ .ready ∨ k.equota = 0 ∨ waitedLong s t = false ∨ enough s ctx t [] = true then .next s
  else match victims s ctx t with
    | some vs => .next (vs.foldl (fun s (c, m) => askTask s c m false) s)
    | none => .next s

/-! ### Saving a hart (R415 to R418) -/

/-- The hart has left its task with its state in an image (R355, R416). -/
def leaveSaved (s : State) (hart : Nat) : State :=
  let h := s.hart hart
  let s := retireLoop s hart
  match h.task with
  | some (n, rank) => rankLeft s h.ctx n rank true
  | none => s

/-- The hart goes on: it is not pre-empted (R416). -/
def notPreempted (s : State) (hart : Nat) : State := s.setHart hart { s.hart hart with preempt := none }

/-- A hart saved in an image of a kind; `s` with the hart not pre-empted where it cannot be (R416). -/
def saveHart (s : State) (hart kind lanes : Nat) (h : Hart) : State :=
  match h.task with
  | none => notPreempted s hart
  | some (n, rank) =>
    match imageAddr s hart n rank with
    | none => notPreempted s hart
    | some ea =>
      if ea.toNat % 4096 ≠ 0 then notPreempted s hart
      else match writeImage (s.setHart hart h) hart false true ea (imageOf h kind lanes h.pc + imageG h) with
        | .error _ => notPreempted s hart
        | .ok t => leaveSaved t hart

/-- A hart of a farm: its farm hands out no further strip (R417). -/
def stopFarm (s : State) (hart : Nat) : State :=
  match (s.hart hart).farm with
  | some (o, _) => (match s.farm? o with
    | some f => s.setFarm o { f with stop := true }
    | none => s)
  | none => s

/-- The waits of CTXSV before an image is written (R415, R420), and no cause that would be taken first (R399). A token that a
transfer still owes would be lost with the drawers, so it counts as a transfer that has not retired; DESIGN CHOICE, log 54. -/
def mayLeave (s : State) (hart : Nat) : Bool :=
  let h := s.hart hart
  h.priv == 0 && h.flt.pending.isNone && h.flt.record.isNone && !(s.xfers.any (·.hart == hart))

/-- The immediate form at a hart (R401, R415). -/
def preemptNow (s : State) (hart : Nat) : State :=
  let s := drainAll s hart
  let h := stopVector (s.hart hart) none
  saveHart s hart 0 h.vec.lanes h

/-- The immediate form has been asked of a hart, or its context has no quota left (R364, R415). -/
def askedNow (s : State) (h : Hart) : Bool := h.preempt.any (·.immediate) || (h.task.isSome && (s.ctx h.ctx).equota == 0)

/-- STRIP_BOUNDARY_PREEMPT: the moving hart stands before its next SETVL or SETVLK, with every earlier command
completed (R415). -/
noncomputable def execStripBoundaryPreempt (s : State) : Out :=
  let h := s.me
  let at_ := match nextInstr s s.cur with
    | some (.setvl _) => true
    | some (.setvlk _) => true
    | _ => false
  if !(h.preempt.any fun p => !p.immediate) then .next s
  else if h.farm.isSome then .next (stopFarm s s.cur)
  else if h.run ≠ .running ∨ at_ = false ∨ h.queue ≠ [] ∨ mayLeave s s.cur = false then .next s
  else
    let s := drainAll s s.cur
    let h := s.me
    let w := fld (s.ctx h.ctx).csave 1 10
    let w := if w = 0 then h.vec.lanes else imageWidth h.vec (min w 512)
    .next (saveHart s s.cur 1 w h)

/-- STRIP_PREEMPT_TIMEOUT: after 100 µs the immediate form applies to the moving hart (R415). -/
def execStripPreemptTimeout (s : State) : Out :=
  let h := s.me
  match h.preempt with
  | some p => .next (if !p.immediate && decide (10000 ≤ (s.time - p.since).toNat) then
      s.setMe { h with preempt := some { p with immediate := true } } else s)
  | none => .next s

/-- A hart whose context has no quota left issues nothing, but for a farm that has to end first (R364, R416, R417). -/
def starved (s : State) (h : Hart) : Bool :=
  h.task.isSome && h.farm.isNone && h.priv == 0 && (s.ctx h.ctx).equota == 0

/-! ### Quotas (R364) -/

/-- A quota after energy has been used: what is left, and what is added to the debt. -/
def charge (k : Context) (uj : Nat) : Context :=
  if k.equota = BitVec.allOnes 64 then k
  else { k with equota := k.equota - BitVec.ofNat 64 (min uj k.equota.toNat), debt := k.debt + (uj - k.equota.toNat) }

/-- QUOTA_REFILL: the period of a context ends (R361, R364). The tasks of one that had no quota left are placed together. -/
def execQuotaRefill (ctx : Nat) (s : State) : Out :=
  let k := s.ctx ctx
  let us := if k.eperiod = 0 then 1000 else fld k.eperiod 0 20
  if (s.time - k.period).toNat < 100 * us then .next s
  else
    let q := if k.erefill = BitVec.allOnes 64 then k.erefill else BitVec.ofNat 64 (k.erefill.toNat - k.debt)
    .next (wakeContext (s.setCtx ctx { k with equota := q, debt := 0, period := s.time, together := (k.together || k.equota == 0) && k.slots.any (·.2.state == .ready) }) ctx)

/-! ### Recruits (R365) -/

/-- A loop context that may join the moving hart's farm `f` (R365): an idle allotted hart within the reach, kept free for no
other task; or, of a hart that is in the farm and that the hardware divides (R176), one of 15 more that runs nothing. -/
def mayJoin (s : State) (f : Farm) (n : Nat) : Bool :=
  if n < 2048 then
    (if f.die then dieOfCore (coreOf n) == dieOfCore (coreOf s.cur) else coreOf n == coreOf s.cur) &&
      idleHart s n && s.myCtx.allot.getLsbD n && !keptFree s (overdue s) n
  else decide (n < 16 * 2048) && idleLoop s n && f.members.contains (hartOf n) &&
    runsNow (s.hart (hartOf n)).run && (s.hart (hartOf n)).farm.any (·.1 == s.cur)

/-- The registers that a loop context begins with: those of one that has run nothing, and of a divided hart the hart's trap
registers, of which each loop context has its own copy, and what belongs to the hart (R147, R307); log 34. -/
def loopHart (s : State) (n : Nat) : Hart :=
  let x := freshLoop (s.waking n)
  if n < 2048 then x
  else
    let h := s.hart (hartOf n)
    let y := x.sharing h
    { y with trap := h.trap, vec := { y.vec with scriptDone := 0 } }

/-- A recruit begins (R365): index `i` of the origin's farm, at the origin's privilege level, since R365 and R176 name none;
DESIGN CHOICE, log 20. Its mode and g1 to g23 are those of SFSTART (R306); g24 to g31 are the origin's, and a completion word that is still to come
to one of them is to come here as well (R176). -/
def recruit (s : State) (origin hart i : Nat) (f : Farm) : State :=
  let o := s.hart origin
  let h := loopHart s hart
  s.setHart hart { h with
    run := .running, pc := f.pcStart, g := (upTo 24 8).foldl (fun g r => g.set r (o.g.get 0 r)) f.gStart,
    gpois := BitVec.ofNat 32 (o.gpois.toNat / 2 ^ 24 * 2 ^ 24 + f.gpStart.toNat % 2 ^ 24), gwait := o.gwait.filter (24 ≤ ·), ctx := o.ctx, task := o.task, farm := some (origin, i),
    mode := f.mode, wake := false, preempt := none, vec := { h.vec with folds := o.vec.folds },
    trap := { h.trap with stat := setFld h.trap.stat 0 2 o.priv } }

/-- FARM_RECRUIT: an idle allotted hart within the reach joins the moving hart's farm, or one more loop context of a hart that is
in it (R176, R365). -/
def execFarmRecruit (hart : Nat) (s : State) : Out :=
  match s.me.farm, s.farm? s.cur with
  | some (o, 0), some f =>
    if o = s.cur ∧ mayJoin s f hart = true ∧ f.next < f.trip ∧ f.count < f.most ∧ f.stop = false then
      .next (recruit (s.setFarm s.cur { f with count := f.count + 1, members := f.members ++ [hart] }) s.cur hart f.count f)
    else .next s
  | _, _ => .next s

end Sys2Proof.Machine
end

