-- ==== Sys2Proof/Machine/Device.lean ====
section
/-! DEFINITION. What firmware does to the device: starting harts (R67), block owners (R451), encryption keys (R454), identity, windows and routes (R443, R446, R448), and moving contexts between devices (R461, R462). -/

namespace Sys2Proof.Machine

/-! ### Harts, owners, keys -/

/-- A write to HRUN: it starts a hart that is parked from reset (R67). The hart runs context 0; DESIGN CHOICE, log 52. -/
def startHart (s : State) (x : W) : State :=
  let n := fld x 0 11
  let h := s.waking n
  if h.run = .reset then s.setHart n { h with run := .running, pc := s.me.trap.hraddr } else s

/-- The run of blocks that BLKSEL selects, within device memory. -/
def selectedRun (x : W) : Nat × Nat :=
  let first := fld x 0 26
  (first, min (max 1 (fld x 32 26)) (blockCount - first))

/-- A write to BLKOWN (R451): the dirty bytes of the run's lines are written back. Older runs that it covers are forgotten. -/
def setOwners (s : State) (x : W) : State :=
  let (first, n) := selectedRun s.blksel
  if n = 0 then s
  else
    let w : BitVec 27 := BitVec.ofNat 27 x.toNat &&& 0x7FF1FFF#27
    let s := cleanStashAt s (fun _ => true) (first * 65536) (n * 65536)
    { s with owners := ⟨first, n, w⟩ :: s.owners.filter fun r => !decide (first ≤ r.first ∧ r.first + r.count ≤ first + n) }

/-- BLKOWN of the first block selected (R451). -/
def readOwners (s : State) : W :=
  let b := fld s.blksel 0 26
  setBit ((ownWord s b).setWidth 64) 13 (hostShared s b)

/-- The key that KEYDAT0 to KEYDAT7 hold (R454). -/
def keyData (s : State) : BitVec 512 := BitVec.ofNat 512 (((upTo 0 8).map fun i => (s.keydat.get 0 i).toNat * 2 ^ (64 * i)).sum)

/-- The selected key replaced: what lines cached under its index have dirty is written back first. What a line was written
under stays with the line (R454). -/
def putKey (s : State) (k : Option (BitVec 512)) : State :=
  { cleanStashKey s s.keysel with keys := s.keys.set s.keysel.toNat k }

/-- The selected key loaded, or erased (R454). -/
def loadKey (s : State) : State := putKey s (some (keyData s))
def eraseKey (s : State) : State := putKey s none

/-- A write to KEYCTL; with both bits the key is erased; DESIGN CHOICE, log 30. -/
def writeKeyctl (s : State) (x : W) : State :=
  let s := if bit x 0 then loadKey s else s
  if bit x 1 then eraseKey s else s

/-- RTPORTS.LOCAL as a write of RTSEL or DEVCFG leaves it (R446); DESIGN CHOICE, log 53. -/
def settleLocal (s : State) : State := { s with rtlocal := s.rtsel == s.devid }

/-- The stash lines of encrypted lines written back. -/
def cleanCoded (s : State) : State := { s with dirty := s.dirty.filter fun e => (s.lineKeys.get none (e.loc / 64)).isNone }

/-- A write to DEVCFG (R443). A new DEVID changes the tweaks, not what is stored (R453); that stash lines of encrypted lines are
written back before is a DESIGN CHOICE, log 2. -/
def writeDevcfg (s : State) (x : W) : State :=
  if s.devlock then s
  else
    let s := if BitVec.ofNat 10 x.toNat = s.devid then s else asStored (cleanCoded s)
    settleLocal { s with devid := BitVec.ofNat 10 x.toNat, devlock := bit x 63 }

/-- A write to HDMSIZE, which takes effect while the link is down (R443, R448). -/
def writeHdmsize (s : State) (x : W) : State :=
  let n := min 512 (fld x 0 10)
  if s.linkUp then { s with hdmNext := n } else { s with hdmNext := n, hdmsize := n }

/-! ### Context records (R462) -/

def recordSize : Nat := 0x3000

def slotCode : SlotState → Nat
  | .free => 0 | .defined => 1 | .eligible => 2 | .ready => 3 | .running => 4

def slotOfCode : Nat → SlotState
  | 1 => .defined | 2 => .eligible | 3 => .ready | _ => .free

/-- The record of a context. -/
def recordOf (k : Context) : Nat :=
  let d (o : Nat) (x : W) : Nat × Nat × Nat := (o, 8, x.toNat)
  imgOf ([(0, 4, 0x5258435A), (4, 2, 1), d 8 k.atp, (0x10, 8, k.dtver.toNat), d 0x18 k.tktab, d 0x20 k.csave, d 0x28 k.equota,
      d 0x30 k.erefill, d 0x38 k.eperiod, d 0x40 k.sweight, d 0x48 k.callot] ++
    (upTo 0 8).map (fun i => (0x50 + 8 * i, 8, (k.amax.get 0 i).toNat)) ++
    (upTo 0 8).flatMap (fun i =>
      [d (0x90 + 24 * i) (k.drbase.get 0 i), d (0x98 + 24 * i) (k.dradj.get 0 i), d (0xA0 + 24 * i) (k.drsize.get 0 i)]) ++
    (upTo 0 4).flatMap (fun i =>
      [d (0x150 + 24 * i) (k.kcbase.get 0 i), d (0x158 + 24 * i) (k.kcrime.get 0 i), d (0x160 + 24 * i) (k.kcgeom.get 0 i)]) ++
    (upTo 0 1024).map (fun i => (0x200 + 2 * i, 2, (dtEntry k i).toNat)) ++
    (upTo 0 64).flatMap (fun i =>
      match k.handles.get none i with
      | some h => [d (0xA00 + 16 * i) h.base, d (0xA08 + 16 * i) h.desc]
      | none => []) ++
    (upTo 0 256).flatMap (fun i =>
      let t := k.slot i
      [d (0xE00 + 32 * i) t.entry, d (0xE08 + 32 * i) t.args, (0xE10 + 32 * i, 8, t.shape.toNat + slotCode t.state * 2 ^ 32),
        (0xE18 + 32 * i, 8, t.counter.toNat)]))

/-- The magic, version and zero bytes of a record. -/
def recordOk (r : Nat) : Bool :=
  imgFld r 0 4 == 0x5258435A && imgFld r 4 2 == 1 && imgFld r 6 2 == 0 && imgFld r 0x1B0 80 == 0 && imgFld r 0x2E00 512 == 0 &&
    (upTo 0 256).all fun i =>
      let z := imgFld r (0xE10 + 32 * i) 8
      nfld z 29 3 == 0 && nfld z 34 30 == 0 && imgFld r (0xE1C + 32 * i) 4 == 0

/-- A task slot of a record. -/
def recordSlot (s : State) (r i : Nat) : TaskSlot :=
  let z := imgFld r (0xE10 + 32 * i) 8
  { TaskSlot.reset with
    state := slotOfCode (nfld z 32 2), entry := BitVec.ofNat 64 (imgFld r (0xE00 + 32 * i) 8),
    args := BitVec.ofNat 64 (imgFld r (0xE08 + 32 * i) 8), shape := BitVec.ofNat 29 z,
    counter := BitVec.ofNat 32 (imgFld r (0xE18 + 32 * i) 4), since := s.time }

/-- AMAXn as written (R218). -/
def amaxWrite (x : W) : BitVec 32 :=
  let m := fld x 0 31
  if 0x7F800000 < m then 0x7FC00000 else BitVec.ofNat 32 m

/-- The context that a record gives, before its handles and key caches are bound. -/
def contextOf (s : State) (r : Nat) : Context :=
  let d (o : Nat) : W := BitVec.ofNat 64 (imgFld r o 8)
  let three (o : Nat) (n : Nat) : Tab W := (upTo 0 n).map fun i => (i, d (o + 24 * i))
  { Context.reset with
    resident := true, atp := d 8 &&& 0xFF8FFFFFFFFFFFFF#64, dt := some ((upTo 0 1024).map fun i => BitVec.ofNat 16 (imgFld r (0x200 + 2 * i) 2)),
    dtver := BitVec.ofNat 16 (imgFld r 0x10 2), tktab := d 0x18, csave := d 0x20 &&& 0xFFFFFFFFFFFFF7FF#64, equota := d 0x28,
    erefill := d 0x30, eperiod := BitVec.ofNat 64 (imgFld r 0x38 8 % 2 ^ 20), sweight := BitVec.ofNat 64 (imgFld r 0x40 1),
    amax := (upTo 0 8).map (fun i => (i, amaxWrite (BitVec.ofNat 64 (imgFld r (0x50 + 8 * i) 8)))),
    drbase := three 0x90 8, dradj := three 0x98 8,
    drsize := (upTo 0 8).map (fun i => (i, d (0xA0 + 24 * i) &&& 0x3FFFFFFFFFF#64)),
    slots := (upTo 0 256).map (fun i => (i, recordSlot s r i)), period := s.time }

/-- A handle bound again; one whose translation fails stays unbound. -/
def rebindHandle (s : State) (ctx r i : Nat) : State :=
  let base : W := BitVec.ofNat 64 (imgFld r (0xA00 + 16 * i) 8)
  let desc : W := BitVec.ofNat 64 (imgFld r (0xA08 + 16 * i) 8)
  if fld desc 0 26 = 0 ∨ !descOk desc ∨ base.toNat % 65536 ≠ 0 then s
  else match rangeBlocks (some ctx) (16 * fld desc 0 26) s base [] with
    | none => s
    | some (bs, t) => (bindHandle t ctx i ⟨base, desc, bs⟩).1

/-- A key-cache slot bound again; one whose translation fails is not valid. -/
def rebindCache (s : State) (ctx r i : Nat) : State :=
  let d (o : Nat) : W := BitVec.ofNat 64 (imgFld r (o + 24 * i) 8)
  let (kb, rb, geo) := (d 0x150, d 0x158, d 0x160)
  if kcNP geo = 0 ∨ !cacheFits (s.ctx ctx) i kb rb geo then s
  else match bindCache (some ctx) s kb rb geo with
    | .error _ => s
    | .ok (t, b) => setCache t ctx i kb rb geo (some b)

/-- A context installed from a record (R462). -/
def installContext (s : State) (ctx r : Nat) : State :=
  let s := s.setCtx ctx (contextOf s r)
  let s := setCallot s ctx (BitVec.ofNat 64 (imgFld r 0x48 8))
  let s := (upTo 0 64).foldl (fun s i => rebindHandle s ctx r i) s
  (upTo 0 4).foldl (fun s i => rebindCache s ctx r i) s

/-- The place of a line of the record (R462). -/
def recordPlace (s : State) (k : Kind) (l : Nat) : Except Cause Placed :=
  let va := s.cxaddr + BitVec.ofNat 64 (64 * l)
  match xlate s s.cur s.me.ctx 2 .vector k va 64 with
  | .error c => .error c
  | .ok p => if isLocalMem p.phys.loc then .ok p else .error ⟨0x0F, va⟩

/-- The places of every line of the record; none: a cause. -/
def recordPlaces (s : State) (k : Kind) : List Nat → Option (List (Nat × Phys))
  | [] => some []
  | l :: r =>
    match recordPlace s k l, recordPlaces s k r with
    | .ok p, some ps => some ((l, p.phys) :: ps)
    | _, _ => none

/-- A hart runs a context. -/
def runsContext (s : State) (ctx : Nat) : Bool :=
  s.harts.any fun e => e.2.ctx == ctx && (match e.2.run with
    | .running => true
    | .parked _ _ _ _ => true
    | _ => false)

/-- Every update that harts of a context still hold in their drains applied (R220). -/
def drainContext (s : State) (ctx : Nat) : State :=
  ((s.harts.filter fun e => e.2.ctx == ctx).map (·.1)).foldl drainAll s

/-- EXPORT (R462): the status, and the context number freed. What drains of its harts hold is applied first (R218, R220). -/
def exportContext (s : State) : State :=
  let ctx := s.cxsel.toNat
  let s := drainContext s ctx
  let k := s.ctx ctx
  if !k.resident || runsContext s ctx || k.slots.any (fun e => e.2.state == .running) then { s with cxstatus := 2 }
  else match recordPlaces s .store (upTo 0 (recordSize / 64)) with
    | none => { s with cxstatus := 3 }
    | some ps =>
      let img := recordOf k
      let s := ps.foldl (fun s (l, p) => storeAt s p (leBytes 64 (imgFld img (64 * l) 64)) none) s
      { s.setCtx ctx Context.reset with cxstatus := 0 }

/-- IMPORT (R462). -/
def importContext (s : State) : State :=
  let ctx := s.cxsel.toNat
  if (s.ctx ctx).resident then { s with cxstatus := 2 }
  else match recordPlaces s .load (upTo 0 (recordSize / 64)) with
    | none => { s with cxstatus := 3 }
    | some ps =>
      let r := imgOf (ps.map fun (l, p) => (64 * l, 64, loadAt s p 64))
      if !recordOk r then { s with cxstatus := 1 } else { installContext s ctx r with cxstatus := 0 }

/-- A write to CXCTL; with both bits it is ignored (R462). -/
def writeCxctl (s : State) (x : W) : State :=
  match bit x 0, bit x 1 with
  | true, false => exportContext s
  | false, true => importContext s
  | _, _ => s

end Sys2Proof.Machine
end

