-- ==== Sys2Proof/Machine/ScalarMem.lean ====
section
/-! DEFINITION. Scalar loads, stores and atomics (R122 to R136): on device registers (R238), on the tape and inverted (R310
to R316), and poisoned (R408 to R411). -/

namespace Sys2Proof.Machine

/-! ### Loads -/

/-- A loaded value as a g register holds it (R122). -/
def loadedW (w : Nat) (sg : Bool) (x : Nat) : W := if sg then sext64 (8 * w) x else BitVec.ofNat 64 x

/-- A store to a place; `s` unchanged where the device register is not described. Links on its granule are cleared
(R133). -/
def placeStore (s : State) (p : Phys) (w x : Nat) : State :=
  if isDevReg p.loc then clearLinks (devStore s p.loc w x) p.loc w none else storeAt s p (leBytes w x) none

/-- The cell of an inverted scalar access and what it holds, after the causes of its primal address (R315, R316). It may be a
device register (R238). -/
def onCell (s : State) (ea : W) (w n : Nat) (body : Placed → Nat → Res) : Res :=
  if (regionSlot s.myCtx n).2.2.1 ≠ w then .trap (conflict ea)
  else match cellPlace s .scalar n ea with
    | .error c => .trap c
    | .ok p =>
      if isAllot p.phys.loc && storesQueued s.me then .wait
      else match placeLoad p.st p.phys 4 with
        | none => .stop (.deviceRegister p.phys.loc)
        | some x => body p x

/-- A load in a region in REV: cell := cell + g[gd], and gd is not written (R315). A sum formed from poison is not stored
(R410). -/
def invLoad (s : State) (f : FI) (ea : W) (w n : Nat) : Res :=
  onCell s ea w n fun p x =>
    let h := s.me
    let (r, fl) := add32 x ((h.rd f.a.toNat).toNat % 2 ^ 32)
    let t := if h.rdP f.a.toNat || marked p.st p.phys.loc 4 then suppressScalar p.st (cellOf s.myCtx n ea)
             else let u := placeStore p.st p.phys 4 r; u.setMe (u.me.addFlags fl)
    .ok (t.setMe t.me.adv)

/-- LD8 to LD64 (R122, R123), after every queued acquire (R284). Of an address that is both poisoned and misaligned the poison
comes first, here and in every scalar access (R123, R409); and an LD of a farm with gd in g24 to g31 is illegal also where it
would write no gd (R176, R306); DESIGN CHOICE, log 58. -/
def loadG (w : Nat) (sg : Bool) (f : FI) (s : State) : Out :=
  let h := s.me
  let ea := h.rd f.b.toNat + simm f.imm
  scalar s [f.a.toNat, f.b.toNat]
    (if farmBars h f.a then .trap (illegalCause s)
     else if h.rdP f.b.toNat then .trap (poisonCause s)
     else if acquiring h then .wait
     else if ea.toNat % w ≠ 0 then .trap ⟨5, ea⟩
     else match xlateMe s .scalar .load ea w with
       | .error c => .trap c
       | .ok p =>
         match (if s.me.mode = 2 then myRegion s ea w else none) with
         | some n => invLoad p.st f ea w n
         | none =>
           match placeLoad p.st p.phys w with
           | none => .stop (.deviceRegister p.phys.loc)
           | some x =>
             .ok (p.st.setMe ((p.st.me.wrP f.a.toNat (loadedW w sg x) (marked p.st p.phys.loc w)).adv)))

def execLd8 (f : FI) (s : State) : Out := loadG 1 false f s
def execLd8s (f : FI) (s : State) : Out := loadG 1 true f s
def execLd16 (f : FI) (s : State) : Out := loadG 2 false f s
def execLd16s (f : FI) (s : State) : Out := loadG 2 true f s
def execLd32 (f : FI) (s : State) : Out := loadG 4 false f s
def execLd32s (f : FI) (s : State) : Out := loadG 4 true f s
def execLd64 (f : FI) (s : State) : Out := loadG 8 false f s

/-! ### Stores -/

/-- A store in a region in REV: g[A] := cell, and the cell becomes +0 (R315). -/
def invStore (s : State) (f : FI) (ea : W) (w n : Nat) : Res :=
  onCell s ea w n fun p x =>
    let t := placeStore p.st p.phys 4 0
    .ok (t.setMe ((t.me.wrP f.a.toNat (BitVec.ofNat 64 x) (marked p.st p.phys.loc 4)).adv))

/-- The old value of a store in a region in FWD put on the tape (R310, R311). -/
def scalarRecord (s : State) (p : Phys) (ea : W) (w old : Nat) : Except Cause State :=
  appendTape s .scalar (recordWords w.log2 ea 0 1 [(0, old)]) (if marked s p.loc w then recordMarks w.log2 [0] else [])

/-- ST8 to ST64 (R122, R123), after every queued acquire (R284). A store of a farm in a region in FWD is a conflict
(R306), and one in a region in REV that would write g24 to g31 is illegal (R176), once it is aligned; that order is a DESIGN CHOICE,
log 58. -/
def storeG (w : Nat) (f : FI) (s : State) : Out :=
  let h := s.me
  let ea := h.rd f.b.toNat + simm f.imm
  scalar s [f.a.toNat, f.b.toNat]
    (if h.rdP f.b.toNat then .trap (poisonCause s)
     else if acquiring h then .wait
     else if ea.toNat % w ≠ 0 then .trap ⟨6, ea⟩
     else if farmBars h f.a && h.mode == 2 && (myRegion s ea w).isSome then .trap (illegalCause s)
     else match xlateMe s .scalar .store ea w with
       | .error c => .trap c
       | .ok p =>
         match myRegion s ea w, decide (s.me.mode = 2) with
         | some n, true => invStore p.st f ea w n
         | reg, _ =>
           if reg.isSome && h.farm.isSome then .trap (conflict ea)
           else if h.rdP f.a.toNat then .ok (let t := suppressScalar p.st ea; t.setMe t.me.adv)
           else if isAllot p.phys.loc && storesQueued h then .wait
           else
             match placeLoad p.st p.phys w with
             | none => .stop (.deviceRegister p.phys.loc)
             | some old =>
               match (if reg.isSome then scalarRecord p.st p.phys ea w old else .ok p.st) with
               | .error c => .trap c
               | .ok t =>
                 let t := placeStore t p.phys w (h.rd f.a.toNat).toNat
                 .ok (t.setMe t.me.adv))

def execSt8 (f : FI) (s : State) : Out := storeG 1 f s
def execSt16 (f : FI) (s : State) : Out := storeG 2 f s
def execSt32 (f : FI) (s : State) : Out := storeG 4 f s
def execSt64 (f : FI) (s : State) : Out := storeG 8 f s

/-! ### Atomics and the link (R131 to R136) -/

/-- An access waits for every queued acquire, and a release until the earlier commands have made their accesses (R284). -/
def releaseWaits (h : Hart) (rl : BitVec 1) : Bool := acquiring h || (rl == 1 && h.undone.any fun c => ownAccesses c.ins)

/-- The common checks of an atomic: farm, poison, alignment, then the causes of its access (R123, R57). A form that only loads
ignores field C (R116). What it releases, and when, is left to `body` (R136). -/
def atomicAt (f : FA) (w : Nat) (k : Kind) (ban : Bool) (s : State) (body : Placed → W → Res) : Out :=
  let h := s.me
  let ea := h.rd f.b.toNat
  scalar s ([f.a.toNat, f.b.toNat] ++ if k.isStore then [f.c.toNat] else [])
    (if farmBars h f.a then .trap (illegalCause s)
     else if h.rdP f.b.toNat then .trap (poisonCause s)
     else if releaseWaits h f.rl then .wait
     else if ea.toNat % w ≠ 0 then .trap ⟨if k.isStore then 6 else 5, ea⟩
     else match xlateMe s .scalar k ea w with
       | .error c => .trap c
       | .ok p =>
         if ban && (myRegion s ea w).isSome then .trap (conflict ea)
         else if isDevReg p.phys.loc ∧ (devLoad p.st p.phys.loc w).isNone then .stop (.deviceRegister p.phys.loc)
         else if k.isStore && isAllot p.phys.loc && storesQueued h then .wait
         else body p ea)

/-- LLINK (R132). In REV an access in a region is a conflict (R315). -/
def llink (w : Nat) (f : FA) (s : State) : Out :=
  atomicAt f w .load (s.me.mode == 2) s fun p ea =>
    let t := releaseTo p.st (sysRelease f)
    let x := (placeLoad t p.phys w).getD 0
    let h := { t.me with link := some ⟨ea, w, p.phys.loc / 64⟩ }
    .ok (t.setMe ((h.wrP f.a.toNat (sext64 (8 * w) x) (marked t p.phys.loc w)).adv))

def execLlinkw (f : FA) (s : State) : Out := llink 4 f s
def execLlinkd (f : FA) (s : State) : Out := llink 8 f s

/-- SCOND (R132): one that fails stores nothing and releases nothing (R136). Poisoned data is suppressed (R410). -/
def scond (w : Nat) (f : FA) (s : State) : Out :=
  atomicAt f w .store (s.me.mode != 0) s fun p ea =>
    let h := s.me
    -- the link as it stands once the access has been translated: a mark that the walker sets may clear it (R133)
    let ok := match p.st.me.link with
      | some l => l.ea == ea && l.width == w
      | none => false
    let t := p.st.setMe { p.st.me with link := none }
    let u := releaseTo t (sysRelease f)
    let t := if !ok then t
             else if h.rdP f.c.toNat then suppressScalar u ea
             else placeStore u p.phys w (h.rd f.c.toNat).toNat
    .ok (t.setMe ((t.me.wr f.a.toNat (if ok then 0 else 1)).adv))

def execScondw (f : FA) (s : State) : Out := scond 4 f s
def execScondd (f : FA) (s : State) : Out := scond 8 f s

/-- AMO (R135): one indivisible read and write. A new value formed from poison is not stored (R409, R410); `swap`:
the old value does not enter it. R133 has a store by the hart clear its link and names no atomic of its own: an AMO clears it as well;
DESIGN CHOICE, log 59. -/
def amo (w : Nat) (swap : Bool) (op : Nat → Nat → Nat) (f : FA) (s : State) : Out :=
  atomicAt f w .amo (s.me.mode != 0) s fun p ea =>
    let h := s.me
    let u := releaseTo p.st (sysRelease f)
    let old := (placeLoad u p.phys w).getD 0
    let q := marked u p.phys.loc w
    let b := (h.rd f.c.toNat).toNat % 256 ^ w
    let t := if h.rdP f.c.toNat || (q && !swap) then suppressScalar u ea else placeStore u p.phys w (op old b)
    .ok (t.setMe ((t.me.wrP f.a.toNat (sext64 (8 * w) old) q).adv))

def amoAdd (w a b : Nat) : Nat := (a + b) % 256 ^ w
def amoMin (w a b : Nat) : Nat := if sInt (8 * w) b < sInt (8 * w) a then b else a
def amoMax (w a b : Nat) : Nat := if sInt (8 * w) a < sInt (8 * w) b then b else a

def execAmoswapw (f : FA) (s : State) : Out := amo 4 true (fun _ b => b) f s
def execAmoaddw (f : FA) (s : State) : Out := amo 4 false (amoAdd 4) f s
def execAmoandw (f : FA) (s : State) : Out := amo 4 false (· &&& ·) f s
def execAmoorw (f : FA) (s : State) : Out := amo 4 false (· ||| ·) f s
def execAmoxorw (f : FA) (s : State) : Out := amo 4 false (· ^^^ ·) f s
def execAmominw (f : FA) (s : State) : Out := amo 4 false (amoMin 4) f s
def execAmomaxw (f : FA) (s : State) : Out := amo 4 false (amoMax 4) f s
def execAmominuw (f : FA) (s : State) : Out := amo 4 false min f s
def execAmomaxuw (f : FA) (s : State) : Out := amo 4 false max f s
def execAmoswapd (f : FA) (s : State) : Out := amo 8 true (fun _ b => b) f s
def execAmoaddd (f : FA) (s : State) : Out := amo 8 false (amoAdd 8) f s
def execAmoandd (f : FA) (s : State) : Out := amo 8 false (· &&& ·) f s
def execAmoord (f : FA) (s : State) : Out := amo 8 false (· ||| ·) f s
def execAmoxord (f : FA) (s : State) : Out := amo 8 false (· ^^^ ·) f s
def execAmomind (f : FA) (s : State) : Out := amo 8 false (amoMin 8) f s
def execAmomaxd (f : FA) (s : State) : Out := amo 8 false (amoMax 8) f s
def execAmominud (f : FA) (s : State) : Out := amo 8 false min f s
def execAmomaxud (f : FA) (s : State) : Out := amo 8 false max f s

end Sys2Proof.Machine
end

