-- ==== Sys2Proof/Machine/VAtomic.lean ====
section
/-! DEFINITION. Vector atomics (R260 to R266), VWAIT (R267, R268), and the reductions in memory (R269 to R272). -/

namespace Sys2Proof.Machine

/-- SEW is 32 or 64 (R260, R264, R265, R267). -/
def sewWide (s : State) : Bool := s.me.vec.lay.sew == 32 || s.me.vec.lay.sew == 64

/-- The accesses of an indexed command on elements of SEW bits. -/
def indexAccs (c : Cmd) (s : State) (r : BitVec 5) (mk : BitVec 2) : List EAcc :=
  let v := s.me.vec
  (v.actives mk).map (indexedAcc c v r (v.lay.sew / 8))

/-- Whether a region admits no access of the instruction (R312, R315). -/
def dmBan (s : State) : Bool := s.me.mode != 0

/-! ### Atomics (R260 to R262) -/

/-- One element of a VAMO: the old value and its poison, and the suppressed element when the new value is poisoned. -/
structure AOut where
  i : Nat
  old : Nat
  p : Bool
  supp : Option (Nat × W)
  fl : Flags
deriving DecidableEq, Repr

/-- One element's indivisible read and write (R261). `swap`: the old value does not enter the new one. R263 names the stores of the
loop context itself, and no atomics: its own clear its vector links as well; DESIGN CHOICE, log 59. -/
def amoStep (op : Nat → Nat → Nat × Flags) (swap : Bool) (dat : Nat → SDat) (s : State) (a : EAcc) :
    Except Cause (State × AOut) :=
  match elemPlaceBan s .amo (dmBan s) a with
  | .error c => .error c
  | .ok p =>
    let old := loadAt p.st p.phys a.w
    let q := marked p.st p.phys.loc a.w
    let d := dat a.i
    if d.p || (q && !swap) then .ok (p.st, ⟨a.i, old, q, some (a.i, a.ea), 0⟩)
    else
      let (x, fl) := op old d.x
      .ok (storeAt p.st p.phys (leBytes a.w x) none, ⟨a.i, old, q, none, fl⟩)

/-- A VAMO: every active element once, in an order that is open (R252, R261). -/
def vamo (op : Nat → Nat → Nat → Nat × Flags) (swap : Bool) (f : FA) (c : Cmd) (s : State) : CRes :=
  let v := s.me.vec
  let dat (i : Nat) : SDat := ⟨elemGet v v.lay f.a.toNat i, elemPoison v v.lay f.a.toNat i || maskBit v.pm v.lay i⟩
  if !sewWide s then .illegal c s
  else checked c s none
    (let s := releaseTo s (sysRelease f)
     let (t, os, m, stop) := doneMaskSweep .amo (dmBan s) (amoStep (op v.lay.sew) swap dat) c (indexAccs c s f.c f.msk) s
     let t := putLoaded t f.a (os.map fun o => ⟨o.i, o.old, o.p⟩)
     let t := t.setMe (t.me.addFlags (os.foldl (fun a o => a ||| o.fl) 0))
     let supp := suppMin c.supp (os.map (·.supp))
     match stop with
     | none => storeDone t supp
     | some (a, ca, rest) => .fault t { c with supp := supp, done := m } ca a.i (hintsOf t .amo a rest))

/-- The format of VAMOFADD for a SEW (R260). -/
def faddFmt (n : Nat) : Nat := if n = 64 then 11 else 10

/-- old + v rounded once, RNE, OVF = 0 (R260). -/
def amoFadd (n old x : Nat) : Nat × Flags :=
  let k := faddFmt n
  let (y, fl) := addNum 0 (readFlt k old) (readFlt k x)
  let (r, fl') := writeFlt k 0 false y
  (r, fl ||| fl')

def runVamoswap (f : FA) (c : Cmd) (s : State) : CRes := vamo (fun _ _ v => (v, 0)) true f c s
def execVamoswap (f : FA) (s : State) : Out := issue s (.vamoswap f) [f.b.toNat] none (runVamoswap f)
def runVamoadd (f : FA) (c : Cmd) (s : State) : CRes := vamo (fun n o v => ((o + v) % 2 ^ n, 0)) false f c s
def execVamoadd (f : FA) (s : State) : Out := issue s (.vamoadd f) [f.b.toNat] none (runVamoadd f)
def runVamoand (f : FA) (c : Cmd) (s : State) : CRes := vamo (fun _ o v => (o &&& v, 0)) false f c s
def execVamoand (f : FA) (s : State) : Out := issue s (.vamoand f) [f.b.toNat] none (runVamoand f)
def runVamoor (f : FA) (c : Cmd) (s : State) : CRes := vamo (fun _ o v => (o ||| v, 0)) false f c s
def execVamoor (f : FA) (s : State) : Out := issue s (.vamoor f) [f.b.toNat] none (runVamoor f)
def runVamoxor (f : FA) (c : Cmd) (s : State) : CRes := vamo (fun _ o v => (o ^^^ v, 0)) false f c s
def execVamoxor (f : FA) (s : State) : Out := issue s (.vamoxor f) [f.b.toNat] none (runVamoxor f)
def runVamomin (f : FA) (c : Cmd) (s : State) : CRes := vamo (fun n o v => (if sInt n v < sInt n o then v else o, 0)) false f c s
def execVamomin (f : FA) (s : State) : Out := issue s (.vamomin f) [f.b.toNat] none (runVamomin f)
def runVamomax (f : FA) (c : Cmd) (s : State) : CRes := vamo (fun n o v => (if sInt n o < sInt n v then v else o, 0)) false f c s
def execVamomax (f : FA) (s : State) : Out := issue s (.vamomax f) [f.b.toNat] none (runVamomax f)
def runVamominu (f : FA) (c : Cmd) (s : State) : CRes := vamo (fun _ o v => (min o v, 0)) false f c s
def execVamominu (f : FA) (s : State) : Out := issue s (.vamominu f) [f.b.toNat] none (runVamominu f)
def runVamomaxu (f : FA) (c : Cmd) (s : State) : CRes := vamo (fun _ o v => (max o v, 0)) false f c s
def execVamomaxu (f : FA) (s : State) : Out := issue s (.vamomaxu f) [f.b.toNat] none (runVamomaxu f)
def runVamofadd (f : FA) (c : Cmd) (s : State) : CRes := vamo amoFadd false f c s
def execVamofadd (f : FA) (s : State) : Out := issue s (.vamofadd f) [f.b.toNat] none (runVamofadd f)

/-! ### Gather-link and scatter-conditional (R263 to R265) -/

/-- The vector link set of the moving hart replaced. -/
def setVlinks (s : State) (l : List VLink) : State := s.setMe { s.me with vec := { s.me.vec with vlinks := l } }

/-- VGLL (R264): each element joins the link set as it is loaded, and a mark that the walker then sets in its granule for a later
one clears it again (R133, R263). -/
def runVgll (f : FA) (c : Cmd) (s : State) : CRes :=
  let v := s.me.vec
  let w := v.lay.sew / 8
  if !sewWide s then .illegal c s
  else checked c s none
    (let step (t : State) (a : EAcc) : Except Cause (State × EWr) :=
       match elemPlaceBan t .load (t.me.mode == 2) a with
       | .error e => .error e
       | .ok p =>
         .ok (setVlinks p.st (p.st.me.vec.vlinks ++ [⟨a.i, a.ea, w, p.phys.loc / 64⟩]),
           ⟨a.i, loadAt p.st p.phys w, marked p.st p.phys.loc w⟩)
     let accs := fromResume c (indexAccs c s f.c f.msk)
     let (t, bs, stop) := sweep step accs (setVlinks (releaseTo s (sysRelease f)) []) []
     let t := putLoaded t f.a bs
     match stop with
     | none => .done t
     | some (a, ca, rest) => .fault t c ca a.i (hintsOf t .load a rest))
def execVgll (f : FA) (s : State) : Out := issue s (.vgll f) [f.b.toNat] none (runVgll f)

/-- Whether a VSCC of an element succeeds: its link stands, and no lower active element has its address (R265). -/
def vsccOk (links : List VLink) (accs : List EAcc) (a : EAcc) : Bool :=
  links.any (fun l => l.elem == a.i && l.ea == a.ea && l.width == a.w) &&
    !accs.any fun e => decide (e.i < a.i) && e.ea == a.ea

/-- VSCC: all or none (R265). Every active element is translated before any link is tested, so that a mark which the walker sets
fails the links of its granule (R133, R263). Its own stores leave its links to it, and the set is cleared at its end. -/
def runVscc (f : FA) (c : Cmd) (s : State) : CRes :=
  let v := s.me.vec
  let accs := indexAccs c s f.c f.msk
  if !sewWide s then .illegal c s
  else checked c s none
    (let (t, l, stop) := sweep (placeStep fun t a => elemPlaceBan t .store (dmBan s) a) accs s []
     match stop with
     | some (a, ca, _) => .fault (setVlinks t []) c ca a.i []
     | none =>
       let good := accs.filter (vsccOk t.me.vec.vlinks accs)
       let dat := storeData v f.a
       let step (u : State × List (Option (Nat × W))) (e : EAcc × Phys) : State × List (Option (Nat × W)) :=
         if !good.contains e.1 then u
         else if (dat e.1.i).p then (u.1, some (e.1.i, e.1.ea) :: u.2)
         else (storeAt u.1 e.2 (leBytes e.1.w (dat e.1.i).x) (some s.cur), u.2)
       let (t, sups) := l.foldl step (releaseTo t (sysRelease f), [])
       let w := writeMask t.me.vec 1 ((upTo 0 v.vl).map fun i => (i, good.any (·.i == i)))
       storeDone (t.setMe { t.me with vec := { w with vlinks := [] } }) (suppMin c.supp sups))
def execVscc (f : FA) (s : State) : Out := issue s (.vscc f) [f.b.toNat] none (runVscc f)

/-! ### VWAIT (R267, R268) -/

/-- COND of VWAIT on elements of `n` bits. -/
def waitCond (cond n x y : Nat) : Bool :=
  match cond with
  | 0 => x == y
  | 1 => x != y
  | 2 => decide (sInt n y ≤ sInt n x)
  | _ => decide (sInt n x < sInt n y)

/-- The fields of imm5 (R267). -/
def vwaitMk (f : FE) : BitVec 2 := f.imm.extractLsb' 3 2
def vwaitKind (f : FE) : Bool := f.imm.getLsbD 2
def vwaitCond (f : FE) : Nat := f.imm.toNat % 4

/-- The place of the base among the g values of VWAIT, which stand in the order of its fields (R267, R419). -/
def vwaitBase (f : FE) : Nat := if vwaitKind f then 2 else 1

/-- The comparand of element `i`, and its poison. -/
def comparand (v : VecRegs) (f : FE) (c : Cmd) (i : Nat) : Nat × Bool :=
  if vwaitKind f then ((c.g 1).toNat % 2 ^ v.lay.sew, c.gpois 1)
  else
    let r := f.c.toNat + v.lay.g
    (elemGet v v.lay r i, elemPoison v v.lay r i)

/-- The end of VWAIT: m1 holds the elements still pending (R268). -/
def vwaitEnd (s : State) (mk : BitVec 2) (sat : MReg) : State :=
  let v := s.me.vec
  s.setMe { s.me with vec := writeMask v 1 ((upTo 0 v.vl).map fun i => (i, mkPermits v mk i && !maskBit sat v.lay i)) }

/-- Whether the timeout of a VWAIT has passed (R268). -/
def vwaitLate (s : State) (c : Cmd) : Bool :=
  c.g 0 != 0 && decide (c.g 0 ≤ s.time - c.t0.getD s.time)

/-- VWAIT: one round of reads of the elements that are pending (R268). -/
def runVwait (f : FE) (c : Cmd) (s : State) : CRes :=
  let v := s.me.vec
  let mk := vwaitMk f
  if !sewWide s then .illegal c s
  else checked c s none
    (let c := { c with t0 := some (c.t0.getD s.time), started := true, first := some (v.sewc, v.gc, v.vl) }
     let accs := (v.actives mk).map fun i =>
       (⟨i, c.g (vwaitBase f) + BitVec.ofNat 64 (elemGet v v.lay f.c.toNat i), v.lay.sew / 8,
         c.gpois (vwaitBase f) || elemPoison v v.lay f.c.toNat i⟩ : EAcc)
     let step (t : State) (a : EAcc) : Except Cause (State × (Nat × Bool × Bool)) :=
       match elemPlaceBan t .load (t.me.mode == 2) a with
       | .error e => .error e
       | .ok p =>
         let (y, q) := comparand v f c a.i
         .ok (p.st, a.i, waitCond (vwaitCond f) v.lay.sew (loadAt p.st p.phys a.w) y, q || marked p.st p.phys.loc a.w)
     let (t, bs, stop) := sweep step (accs.filter fun a => !maskBit c.done v.lay a.i) s []
     match stop with
     | some (a, ca, rest) => .fault t { c with done := 0, tainted := 0, t0 := none } ca a.i (hintsOf t .load a rest)
     | none =>
       let sat := doneWith v c.done ((bs.filter (·.2.1)).map (·.1))
       let bad := doneWith v c.tainted ((bs.filter (·.2.2)).map (·.1))
       if accs.all (fun a => maskBit sat v.lay a.i) ∨ vwaitLate t c then
         let u := vwaitEnd t mk sat
         .done (u.setMe { u.me with vec := setPM u.me.vec ((upTo 0 v.vl).filter (maskBit bad v.lay)) })
       else .wait t { c with done := sat, tainted := bad })
def execVwait (f : FE) (s : State) : Out :=
  issue s (.vwait f) (f.a.toNat :: (if vwaitKind f then [f.a.toNat + 1] else []) ++ [f.b.toNat]) none (runVwait f)

/-! ### Sort-and-segment reductions (R269 to R271) -/

/-- A value on its way through a reduction: exact, or a pattern; and its poison. -/
structure RVal where
  x : Nat
  n : Num
  p : Bool
deriving DecidableEq, Repr

/-- The reductions of VSRED and VMRED. -/
inductive ROp where
  | add | max | min | fadd
deriving DecidableEq, Repr

/-- The combined value of two (R270); the integer forms leave the exact part alone. -/
def ROp.join (o : ROp) (n : Nat) (f : FW) (a b : RVal) : RVal × Flags :=
  let p := a.p || b.p
  match o with
  | .add => (⟨(a.x + b.x) % 2 ^ n, .nan, p⟩, 0)
  | .max => (⟨if sInt n a.x < sInt n b.x then b.x else a.x, .nan, p⟩, 0)
  | .min => (⟨if sInt n b.x < sInt n a.x then b.x else a.x, .nan, p⟩, 0)
  | .fadd =>
    let (y, fl) := addNum f.rm a.n b.n
    let (r, fl') := writeFlt f.dst f.rm f.ovf y
    (⟨r, readFlt f.dst r, p⟩, if p then 0 else fl ||| fl')

/-- An element of the value group, scaled for FADD (R270, R272), and whether its update is suppressed: its data is poisoned
or its position is in PM (R410). -/
def ROp.source (f : FW) (v : VecRegs) (r : BitVec 5) (i : Nat) : RVal :=
  let x := elemGet v v.lay r.toNat i
  ⟨x, (readFlt f.dst x).scale f.ts, elemPoison v v.lay r.toNat i || maskBit v.pm v.lay i⟩

/-- The format check: FADD reads the word, SRC1 = DST, at storage width SEW (R269). -/
def ROp.fmt (o : ROp) (a : Lay) (w : W) : Option Bool :=
  match o with
  | .fadd => some (fwElem w false && (FW.of w).src1 == (FW.of w).dst && storageWidth (FW.of w).dst == a.sew)
  | _ => none

/-- The element at a place combined with a value; a poisoned result is not stored (R408, R410). -/
def ROp.update (o : ROp) (f : FW) (s : State) (p : Phys) (w : Nat) (y : RVal) : State × Bool :=
  let m := loadAt s p w
  let (r, fl) := o.join (8 * w) f ⟨m, readFlt f.dst m, marked s p.loc w⟩ y
  if r.p then (s, true)
  else
    let s := storeAt s p (leBytes w r.x) none
    (s.setMe (s.me.addFlags fl), false)

/-- VSRED: sort, segment, update (R270). With SEW = 4 it is illegal (R269). -/
def vsred (o : ROp) (f : FV) (c : Cmd) (s : State) : CRes :=
  let v := s.me.vec
  let f' := FW.of c.fw
  let w := v.lay.sew / 8
  if v.lay.sew = 4 then .illegal c s
  else checked c s (o.fmt v.lay c.fw)
    (let runs := segment (sortKey ((v.actives f.msk).map fun i => (elemGet v v.lay f.c.toNat i, i)))
     let acc (r : Nat × List Nat) : EAcc :=
       ⟨r.2.headD 0, c.g 0 + BitVec.ofNat 64 r.1, w, c.gpois 0 || r.2.any (elemPoison v v.lay f.c.toNat)⟩
     let step (s : State) (r : Nat × List Nat) : Except Cause (State × Option (Nat × W)) :=
       match elemPlaceBan s .store (dmBan s) (acc r) with
       | .error e => .error e
       | .ok p =>
         let (y, fl) := tree (o.join v.lay.sew f') 16 (r.2.map fun i => some (ROp.source f' v f.b i))
         match y with
         | none => .ok (p.st, none)
         | some y =>
           let (t, sup) := o.update f' p.st p.phys w y
           .ok (t.setMe (t.me.addFlags fl), if sup then some ((acc r).i, (acc r).ea) else none)
     let (t, sups, stop) := updates step c.resume (runs.drop c.resume) s []
     let supp := suppMin c.supp sups
     match stop with
     | none => storeDone t supp
     | some (k, ca, rest) =>
       .fault t { c with supp := supp } ca k
         (hintsOf t .store ⟨0, c.g 0 + BitVec.ofNat 64 ((runs[k]?.map (·.1)).getD 0), w, false⟩ (rest.map acc)))

def runVsredadd (f : FV) (c : Cmd) (s : State) : CRes := vsred .add f c s
def execVsredadd (f : FV) (s : State) : Out := issue s (.vsredadd f) [f.a.toNat] none (runVsredadd f)
def runVsredmax (f : FV) (c : Cmd) (s : State) : CRes := vsred .max f c s
def execVsredmax (f : FV) (s : State) : Out := issue s (.vsredmax f) [f.a.toNat] none (runVsredmax f)
def runVsredmin (f : FV) (c : Cmd) (s : State) : CRes := vsred .min f c s
def execVsredmin (f : FV) (s : State) : Out := issue s (.vsredmin f) [f.a.toNat] none (runVsredmin f)
def runVsredfadd (f : FV) (c : Cmd) (s : State) : CRes := vsred .fadd f c s
noncomputable def execVsredfadd (f : FV) (s : State) : Out := issue s (.vsredfadd f) [f.a.toNat] (some f.fs) (runVsredfadd f)

/-! ### Reduction stores in the die cache (R272) -/

/-- Device memory, local or remote, on a page with MT = 0; the local window is none (R272). Of an element in the window that has a
cause of R230 or R237 as well that one comes first; DESIGN CHOICE, log 58. -/
def diePlace (s : State) (ban : Bool) (a : EAcc) : Except Cause Placed :=
  match elemPlaceBan s .store ban a with
  | .error c => .error c
  | .ok p =>
    if !inWindow a.ea && p.phys.mt == 0 && (isLocalMem p.phys.loc || decide (remoteBase ≤ p.phys.loc ∧ p.phys.loc < padBase))
    then .ok p else .error ⟨0x0F, a.ea⟩

/-- VMRED: done mask; the elements lie apart, so their order shows nowhere but in what a fault leaves. With SEW = 4 an integer form
is illegal, and FADD has no format of that width, so that it is a format fault (R180, R269, R272). -/
def vmred (o : ROp) (f : FV) (c : Cmd) (s : State) : CRes := oncePerPage (fun s =>
  let v := s.me.vec
  let f' := FW.of c.fw
  let w := v.lay.sew / 8
  if v.lay.sew = 4 ∧ o ≠ .fadd then .illegal c s
  else checked c s (o.fmt v.lay c.fw)
    (let accs := ((v.actives f.msk).filter fun i => !maskBit c.done v.lay i).map (unitAcc c v (c.g 0) w)
     let step (s : State) (a : EAcc) : Except Cause (State × (Nat × Option (Nat × W))) :=
       match diePlace s (dmBan s) a with
       | .error e => .error e
       | .ok p =>
         let (t, sup) := o.update f' p.st p.phys w (ROp.source f' v f.b a.i)
         .ok (t, a.i, if sup then some (a.i, a.ea) else none)
     let (t, bs, stop) := sweep step accs s []
     let supp := suppMin c.supp (bs.map (·.2))
     match stop with
     | none => storeDone t supp
     | some (a, ca, rest) =>
       .fault t { c with supp := supp, done := doneWith v c.done (bs.map (·.1)) } ca a.i (hintsOf t .store a rest))) s

def runVmredadd (f : FV) (c : Cmd) (s : State) : CRes := vmred .add f c s
noncomputable def execVmredadd (f : FV) (s : State) : Out := issue s (.vmredadd f) [f.a.toNat] none (runVmredadd f)
def runVmredmax (f : FV) (c : Cmd) (s : State) : CRes := vmred .max f c s
noncomputable def execVmredmax (f : FV) (s : State) : Out := issue s (.vmredmax f) [f.a.toNat] none (runVmredmax f)
def runVmredmin (f : FV) (c : Cmd) (s : State) : CRes := vmred .min f c s
noncomputable def execVmredmin (f : FV) (s : State) : Out := issue s (.vmredmin f) [f.a.toNat] none (runVmredmin f)
def runVmredfadd (f : FV) (c : Cmd) (s : State) : CRes := vmred .fadd f c s
noncomputable def execVmredfadd (f : FV) (s : State) : Out := issue s (.vmredfadd f) [f.a.toNat] (some f.fs) (runVmredfadd f)

end Sys2Proof.Machine
end

