-- ==== Sys2Proof/Machine/Outside.lean ====
section
/-! DEFINITION. What reaches the device from outside: boot and power (R66, R457, R458), the host's accesses (R358, R359, R448 to R450,
R455), the checkpoint (R456), moves between tiers (R245, R246), remote devices (R444 to R446), attestation (R460). -/

namespace Sys2Proof.Machine

/-! ### Boot (R66, R457, R458) -/

/-- A field of the boot flash, which holds the firmware image; its cells lie at `flashBase` (log 31). -/
def flashNum (s : State) (o n : Nat) : Nat := rawGet s (flashBase + o) n
def flashBytes (s : State) (o n : Nat) : List Byte := (upTo (flashBase + o) n).map (memGet s.mem)

def loadAddr (s : State) : Nat := flashNum s 0x010 8
def payloadLen (s : State) : Nat := flashNum s 0x018 8
def entryAddr (s : State) : Nat := flashNum s 0x020 8
def trapAddr (s : State) : Nat := flashNum s 0x028 8

/-- An address within the copied payload, on a boundary. -/
def inPayload (s : State) (a m : Nat) : Bool := a % m == 0 && decide (loadAddr s ≤ a ∧ a < loadAddr s + payloadLen s)

/-- The checks of the image header, with the digests and the signature (R457, R458). -/
def imageGood (s : State) : Bool :=
  flashNum s 0 4 == 0x46575A44 && flashNum s 4 2 == 1 && flashNum s 6 2 == 0 && decide (Config.fusedMinVersion ≤ flashNum s 8 8) &&
  loadAddr s % 4096 == 0 && decide (loadAddr s < 0x8000000000) &&
  payloadLen s % 4 == 0 && decide (4 ≤ payloadLen s ∧ payloadLen s ≤ 2 ^ 26) &&
  inPayload s (entryAddr s) 4 && inPayload s (trapAddr s) 256 &&
  sha512 (flashBytes s 0x200 (payloadLen s)) == BitVec.ofNat 512 (flashNum s 0x030 64) &&
  sha512 (flashBytes s 0x070 132) == Config.fusedKeyDigest && flashNum s 0x0F4 12 == 0 &&
  ecdsaVerify (flashBytes s 0x070 132) (sha512 (flashBytes s 0 0x100)) (flashBytes s 0x100 132) &&
  flashNum s 0x184 124 == 0

/-- Every register of the device at its reset value and every hart parked from reset; memory keeps what it stores, without what
stash lines had dirty; DESIGN CHOICE, log 31. -/
def resetDevice (s : State) : State :=
  let m := asStored (behind s)
  { State.reset with harts := [], mem := m.mem, marks := s.marks, lineKeys := m.lineKeys, booted := false,
                     schedule := s.schedule, choices := s.choices, fresh := s.fresh }

/-- PACKAGE_RESET: the image is checked; if a check fails no hart starts (R457). -/
def execPackageReset (s : State) : Out :=
  .next (if imageGood s then
    { resetDevice s with booted := true, trapEntry := BitVec.ofNat 64 (trapAddr s),
                         measured2 := some (BitVec.ofNat 512 (flashNum s 0x030 64)) }
  else resetDevice s)

/-- The payload copied to its load address, as plaintext words of good data (R457). -/
def copyPayload (s : State) : State :=
  let a := loadAddr s
  let n := payloadLen s
  -- the last line may be written in part
  let s := rekeyLine s none ((a + n - 1) / 64)
  { s with mem := copyRange s.mem (flashBase + 0x200) a n,
           marks := s.marks.filter fun w => !decide (a ≤ 4 * w ∧ 4 * w + 4 ≤ a + n),
           lineKeys := s.lineKeys.filter fun e => !decide (a ≤ 64 * e.1 ∧ 64 * e.1 < a + n) }

/-- BOOT_HART_START: the payload is copied and hart 0 begins at the entry address (R66, R458). -/
def execBootHartStart (s : State) : Out :=
  if s.booted = false ∨ s.measured2 = none ∨ (s.hart 0).run ≠ .reset then .next s
  else .next ((copyPayload s).setHart 0 { s.waking 0 with run := .running, pc := BitVec.ofNat 64 (entryAddr s) })

/-- RAIL_REMOVAL: no state of the device survives; the host's memory and the boot flash lie outside it (R66). -/
def execRailRemoval (s : State) : Out :=
  let outside := fun (a : Nat) => decide (remoteBase ≤ a ∧ a < padBase) || decide (flashBase ≤ a)
  .next { State.reset with harts := [], mem := s.mem.filter fun c => outside c.1, marks := s.marks.filter fun w => outside (4 * w),
                           lineKeys := s.lineKeys.filter fun e => outside (64 * e.1), booted := false, schedule := s.schedule,
                           choices := s.choices, fresh := s.fresh }

/-! ### The host's accesses to control pages (R358, R359, R455) -/

/-- The host reaches the device: the image was verified and the link is up (R447, R457). -/
def hostOn (s : State) : Bool := s.booted && s.linkUp

/-- A host write to a device register: it clears the links on its granule (R133). -/
def hostReg (s : State) (off : Nat) (x : W) : State := clearLinks (writeReg s off x) off 8 none

/-- DOORBELL: a host write to RUN of a context's page (R359). -/
def execDoorbell (ctx : Nat) (x : W) (s : State) : Out :=
  .next (if hostOn s ∧ ctx < 4096 then hostReg s (ctxPages + 4096 * ctx) x else s)

/-- CKRUN: a host write that starts a checkpoint (R455, R456). -/
def execCkrun (x : W) (s : State) : Out := .next (if hostOn s then hostReg s devPage x else s)

/-- CONTROL_PAGE_WRITE: a host write to a plain field, by its offset in the device (R358, R455). -/
def execControlPageWrite (off : Nat) (x : W) (s : State) : Out :=
  .next (if hostOn s ∧ isDevReg off = true ∧ off % 8 = 0 ∧ off % 4096 ≠ 0 then hostReg s off x else s)

/-! ### The checkpoint (R456) -/

/-- SNAPSHOT_POINT: every context has stopped, nothing is in flight, and every dirty stash byte is written back. -/
def execSnapshotPoint (s : State) : Out :=
  if s.ckState = 1 ∧ s.harts.all (fun e => e.2.preempt.isNone && e.2.vec.drain.isEmpty) = true ∧ s.xfers = [] then
    .next { s with ckState := 2, dirty := [] }
  else .next s

/-- CHECKPOINT_BLOCK_STREAM. -/
def execCheckpointBlockStream (block : Nat) (s : State) : Out := .next (streamBlock s block)

/-! ### Moves between tiers (R245, R246) -/

def moveOf (s : State) (block : Nat) (wp : Bool) : Option Move := s.moves.find? fun m => m.block == block && m.wp == wp

def setMove (s : State) (m : Move) : State := { s with moves := s.moves.map fun y => if y.block == m.block then m else y }

/-- The block map names the new slot, and a further move of the block begins (R243); the slot it leaves may let a block out of a
lost run (R232). -/
def commitMove (s : State) (m : Move) : State :=
  emptyRuns { s with backing := s.backing.set m.block m.slot,
                     moves := s.moves.filter (·.block != m.block) ++ m.next.toList.map (newMove s m.block) }

/-- The marks that go with a line that is copied out of a dark die's stacks: every word of it (R247, R442). -/
def copyMarks (s : State) (block line : Nat) : State :=
  if slotDark s (slotOf s block) then
    { s with marks := (upTo (16384 * block + 16 * line) 16).foldl (fun m w => insertNat w m) s.marks }
  else s

/-- A move that may go on: a checkpoint that is stopping suspends them (R456). -/
def withMove (s : State) (block : Nat) (wp : Bool) (body : Move → State) : Out :=
  match moveOf s block wp with
  | some m => .next (if s.ckState = 1 then s else body m)
  | none => .next s

/-- MIGRATE_LINE_COPY: the next line, in ascending order; from then on the new slot serves it. No value changes (R245,
R247). -/
def execMigrateLineCopy (block : Nat) (s : State) : Out :=
  withMove s block false fun m =>
    if m.ptr < 1024 then setMove (copyMarks s block m.ptr) { m with ptr := m.ptr + 1 } else s

/-- MIGRATE_COMMIT. -/
def execMigrateCommit (block : Nat) (s : State) : Out :=
  withMove s block false fun m => if m.ptr = 1024 then commitMove s m else s

/-- WP_MIGRATE_LINE_COPY: lines in any order (R246). -/
def execWpMigrateLineCopy (block line : Nat) (s : State) : Out :=
  withMove s block true fun m =>
    if line < 1024 ∧ ¬ m.copied.contains line then
      setMove (copyMarks s block line) { m with copied := insertNat line m.copied }
    else s

/-- WP_MIGRATE_COMMIT. -/
def execWpMigrateCommit (block : Nat) (s : State) : Out :=
  withMove s block true fun m => if m.copied.length = 1024 then commitMove s m else s

/-! ### Quelux links (R444 to R446) -/

/-- FLIT_RECEIVE: a flit that fails its check is resent, which affects time only. -/
def execFlitReceive (_port : Nat) (_ok : Bool) (s : State) : Out := .next s

/-- Requests whose port is down resent by another port of their entry, when one is up (R444). -/
def resend (s : State) : State :=
  { s with outbox := s.outbox.map fun r =>
      let up := s.routes.get 0 r.device &&& s.ports
      if s.ports.getLsbD r.port ∨ up = 0 then r else { r with port := ctz 16 up.toNat } }

/-- PORT_DOWN. -/
def execPortDown (port : Nat) (s : State) : Out := .next (resend { s with ports := s.ports &&& ~~~(BitVec.ofNat 16 (2 ^ port)) })

/-- PORT_UP. -/
def execPortUp (port : Nat) (s : State) : Out := .next (resend { s with ports := s.ports ||| BitVec.ofNat 16 (2 ^ port) })

/-- REMOTE_ACK: the request is no longer kept. -/
def execRemoteAck (id : Nat) (s : State) : Out := .next { s with outbox := s.outbox.filter (·.id != id) }

/-- An atomic at the home device, by number: its new value; none: no such operation. -/
def remoteAtomic (op w a b : Nat) : Option Nat :=
  match op with
  | 0 => some b
  | 1 => some (amoAdd w a b)
  | 2 => some (a &&& b)
  | 3 => some (a ||| b)
  | 4 => some (a ^^^ b)
  | 5 => some (amoMin w a b)
  | 6 => some (amoMax w a b)
  | 7 => some (min a b)
  | 8 => some (max a b)
  | 9 => some (amoFadd (8 * w) a b).1
  | _ => none

/-- The floating-point update of VSREDFADD or VMREDFADD at the home device, under its format word (R270, R272); none: no such
element. -/
def remoteFadd (fw : W) (w : Nat) (m : Nat × Bool) (x : W) : Option RVal :=
  let f := FW.of fw
  let k := x.toNat % 256 ^ w
  if fwElem fw false && f.src1 == f.dst && storageWidth f.dst == 8 * w then
    some (ROp.fadd.join (8 * w) f ⟨m.1, readFlt f.dst m.1, m.2⟩ ⟨k, (readFlt f.dst k).scale f.ts, false⟩).1
  else none

/-- Whether the home device performs a remote request (R326, R353, R445, R452, R453); the owner of a block bars no firmware. -/
def remoteOk (s : State) (x : RemoteReq) : Bool :=
  let isStore := match x.op with
    | .load => false
    | _ => true
  decide (x.width ≠ 0 ∧ x.off / 64 = (x.off + x.width - 1) / 64 ∧ x.off + x.width ≤ devMemEnd) &&
    (x.firmware || (ownWord s (x.off / 65536)).getLsbD 12) &&
    (match x.key with
     | none => true
     | some k => (keyFor s x.off k).isSome) && !inLive s x.off x.width && !(isStore && inRime s x.off x.width)

/-- REMOTE_REQUEST: performed once, whatever is resent (R444, R445). -/
def execRemoteRequest (x : RemoteReq) (s : State) : Out :=
  if s.booted = false then .next s
  else if !remoteOk s x then .next { s with hostAnswer := none }
  else
    let p : Phys := ⟨x.off, 0, x.key, none⟩
    let s := recallLines s none none x.off x.width
    let old := loadAt s p x.width
    let t := { s with hostAnswer := some (leBytes x.width old), served := (x.source, x.id) :: s.served }
    match x.op with
    | .load => .next { s with hostAnswer := some (leBytes x.width old) }
    | .store bytes =>
      .next (if s.served.contains (x.source, x.id) ∨ bytes.length ≠ x.width then s else storeAt t p bytes none)
    | .amo op b =>
      match remoteAtomic op x.width old (b.toNat % 256 ^ x.width) with
      | none => .next { s with hostAnswer := none }
      | some y =>
        .next (if s.served.contains (x.source, x.id) then s
          else if marked s x.off x.width ∧ op ≠ 0 then t else storeAt t p (leBytes x.width y) none)
    | .redFadd fw v =>
      match remoteFadd fw x.width (old, marked s x.off x.width) v with
      | none => .next { s with hostAnswer := none }
      | some y =>
        .next (if s.served.contains (x.source, x.id) then s
          else if y.p then t else storeAt t p (leBytes x.width y.x) none)

/-! ### The host link (R447, R448, R450, R453) -/

/-- CXL_LINK_UP: no other width or flit trains (R447). -/
def execCxlLinkUp (width flit : Nat) (s : State) : Out := .next (if width = 16 ∧ flit = 256 then { s with linkUp := true } else s)

/-- CXL_LINK_DOWN: a change of HDMSIZE takes effect (R448). -/
def execCxlLinkDown (s : State) : Out := .next { s with linkUp := false, hdmsize := s.hdmNext }

/-- The place of a host access to a block (R453). -/
def hostPlace (s : State) (off : Nat) : Phys :=
  let w := ownWord s (off / 65536)
  ⟨off, 0, if w.getLsbD 26 then some (w.extractLsb' 16 10) else none, none⟩

/-- Whether a host access is served: inside the HDM window, each block under a key that is loaded (R448, R453). -/
def hostServed (s : State) (off n : Nat) : Bool :=
  hostOn s && decide (off + n ≤ s.hdmsize * 2 ^ 30) &&
    (upTo (off / 65536) ((off + n - 1) / 65536 + 1 - off / 65536)).all fun b =>
      match (hostPlace s (b * 65536)).key with
      | some k => (s.keys.get none k.toNat).isSome
      | none => true

/-- The pieces of a run of bytes that lie in one line each. -/
def linePieces : Nat → Nat → List Byte → List (Nat × List Byte)
  | 0, _, _ => []
  | _ + 1, _, [] => []
  | n + 1, a, bs =>
    let k := 64 - a % 64
    (a, bs.take k) :: linePieces n (a + k) (bs.drop k)

/-- HOST_MEM_WRITE: in the order of arrival; on a live barrier slot it is discarded, and a rime range takes it unchecked
(R326, R353, R448, R450). -/
def execHostMemWrite (off : Nat) (bytes : List Byte) (s : State) : Out :=
  if !hostServed s off bytes.length then .next { s with hostAnswer := none }
  else
    let s := { s with hostAnswer := some [] }
    .next ((linePieces bytes.length off bytes).foldl
      (fun s (a, bs) => if inLive s a bs.length then s else storeAt s (hostPlace s a) bs none) s)

/-- HOST_MEM_READ (R448, R450): memory itself, without what stash lines have dirty (R292). -/
def execHostMemRead (off n : Nat) (s : State) : Out :=
  if !hostServed s off n then .next { s with hostAnswer := none }
  else .next { s with hostAnswer := some ((upTo off n).map fun a => BitVec.ofNat 8 (loadAt (behind s) (hostPlace s a) 1)) }

/-! ### Attestation (R460) -/

/-- An answer over the DOE mailbox. The bytes that SPDM itself lays down are `Config.spdmBody`; log 32. -/
def answer (s : State) (a : SpdmAnswer) : Out := .next { s with spdm := some a }

/-- An answer signed with the device key. -/
def signedAnswer (s : State) (code : Nat) (bytes : List Byte) : Out :=
  answer s (.signed code bytes (Config.deviceSign (sha512 bytes)))

def execGetVersion (s : State) : Out := answer s (.body 1 (Config.spdmBody 1))
def execGetCapabilities (s : State) : Out := answer s (.body 2 (Config.spdmBody 2))

/-- NEGOTIATE_ALGORITHMS: only ECDSA on P-521 with SHA-512. -/
def execNegotiateAlgorithms (p521 sha512 : Bool) (s : State) : Out :=
  let ok := p521 && sha512
  answer { s with negotiated := ok } (.body 3 (if ok then Config.spdmBody 3 else []))

def execGetDigests (s : State) : Out := answer s (.body 4 (leBytes 64 (sha512 Config.certificate).toNat))
def execGetCertificate (s : State) : Out := answer s (.body 5 Config.certificate)

/-- CHALLENGE: signed over the nonce. -/
def execChallenge (nonce : BitVec 256) (s : State) : Out := signedAnswer s 6 (leBytes 32 nonce.toNat)

/-- A measurement by index: the ROM, the image, the context that the request names (R457, R459). -/
def measurement (s : State) (index ctx : Nat) : Option (BitVec 512) :=
  match index with
  | 1 => some Config.romDigest
  | 2 => s.measured2
  | 3 => (s.ctx ctx).measured
  | _ => none

/-- GET_MEASUREMENTS. -/
def execGetMeasurements (index ctx : Nat) (s : State) : Out :=
  signedAnswer s 7 (match measurement s index ctx with
    | some d => leBytes 64 d.toNat
    | none => [])

/-- UNSUPPORTED_REQUEST. -/
def execUnsupportedRequest (_code : BitVec 8) (s : State) : Out := answer s .unsupported

end Sys2Proof.Machine
end

