-- ==== Sys2Proof/Machine/Power.lean ====
section
/-! DEFINITION. Errors and retirement (R408, R412 to R414), the budget (R435), phases, droops and regulators (R429 to R431, R437), hard shrinks (R163, R436), sensors (R438, R439), and the waking of lane clusters (R433). -/

namespace Sys2Proof.Machine

/-! ### Losing contexts (R414) -/

/-- A loop context that is lost: lane and scalar state are gone, it stops until package reset, and its task slot returns to
DEFINED. The updates that its drain still holds are applied (R220). -/
def dropLoop (s : State) (hart : Nat) : State :=
  let s := drainAll s hart
  let h := s.hart hart
  let s := match h.task with
    | some (n, _) => toDefined s h.ctx n
    | none => s
  let s := { unseat s hart with xfers := s.xfers.filter (·.hart != hart) }
  s.setHart hart { freshLoop h with run := .halted, task := none, farm := none, preempt := none }

/-- A loop context lost for want of a cluster: the hart stops as under R63, in every loop context that it was divided into, and is
reported (R63, R176, R414). -/
def loseHart (s : State) (hart : Nat) : State := haltReport (stopLoops (dropLoop s hart) hart) hart true

/-- A core stops: every hart that runs or is parked is lost, and none of the others can start (R414, R431). The wakes that waited
for one of the core's may stage (R433). -/
def dropCore (s : State) (core : Nat) : State :=
  let s := s.setCore core { s.core core with retired := true, powered := 0, wakes := [] }
  let s := (neighbourCores core).foldl tryStage s
  (loopsOf s core).foldl (fun s n =>
    if runsNow (s.hart n).run then dropLoop s n else s.setHart n { s.hart n with run := .halted }) s

/-- Cores retired: all of them stop, then each lost hart is reported, and each core (R413, R414, R431). -/
def retireCores (s : State) (cores : List Nat) : State :=
  let new := cores.filter fun c => !(s.core c).retired
  let lost := new.flatMap fun c => dedup (((loopsOf s c).filter fun n => runsNow (s.hart n).run).map hartOf)
  let s := lost.foldl (fun s n => haltReport s n true) (new.foldl dropCore s)
  new.foldl (fun s c => unitReport { s with retired := s.retired ++ [(1, c)] } true 1 c) s

/-- A hart without a seat reseated on a free cluster, its contents passing through the spill; lost when there is none
(R414). -/
def reseat (s : State) (hart : Nat) : State :=
  let core := coreOf hart
  let c := s.core core
  let pool := takePool c 1
  match pool with
  | [] => loseHart s hart
  | _ =>
    let (k, s) := s.pick pool.length
    let s := wakeHeld (s.setCore core (seat (s.core core) hart 1 (turn k pool))) hart []
    let h := s.hart hart
    s.setHart hart { h with vec := { h.vec with gstat := setBit h.vec.gstat 1 true,
                                                stripHard := some (h.vec.stripHard.getD h.vec.stripDone) } }

/-- A hart that is not pre-empted, and holds no seat since its cluster was retired, is reseated; DEDUCED, log 27. -/
def keepSeat (s : State) (hart : Nat) : State :=
  let h := s.hart hart
  if h.vec.phys ≠ 0 ∧ h.run = .running ∧ heldBy (s.core (coreOf hart)) hart = [] then reseat s hart else s

/-- IMMEDIATE_PREEMPT (R364, R414 to R417): the moving hart leaves its task, or goes on. -/
def execImmediatePreempt (s : State) : Out :=
  if askedNow s s.me && s.me.farm.isNone && mayLeave s s.cur then .next (keepSeat (preemptNow s s.cur) s.cur)
  else if askedNow s s.me then .next (stopFarm s s.cur)
  else .next s

/-- A cluster retired (R414): its bit in LANEDIS, and what becomes of the hart that holds it. -/
def retireCluster (s : State) (core k : Nat) : State :=
  let c := s.core core
  let held := bit c.bench (4 * k + 3)
  let hart := holderOf c core k
  let idx := ((heldBy c hart).findIdx? (· == k)).getD 0
  let count := (heldBy c hart).length
  let c := { seatPut c k none with lanedis := c.lanedis ||| BitVec.ofNat 16 (2 ^ k) }
  let s := s.setCore core c
  if !held then s
  else
    let h := s.hart hart
    if count ≤ 1 then
      if h.priv = 0 ∧ h.task.isSome = true ∧ (imageAddr s hart ((h.task.getD (0, 0)).1) ((h.task.getD (0, 0)).2)).isSome then
        s.setHart hart { h with preempt := some ⟨true, s.time⟩ }
      else reseat s hart
    else
      let phys := h.vec.phys - min 32 (h.vec.phys - 32 * idx)
      if phys = h.vec.phys then s
      else s.setHart hart { h with vec := { h.vec with
        phys := phys, gstat := setBit (setBit h.vec.gstat 2 true) 1 true,
        stripHard := some (h.vec.stripHard.getD h.vec.stripDone) } }

/-! ### Errors (R408, R412, R413) -/

/-- MEMORY_ERROR: an uncorrectable error in a word of memory (R408). -/
def execMemoryError (loc : Nat) (s : State) : Out := .next { s with marks := insertNat (loc / 4) s.marks }

/-- The corrected errors of a unit in the last 10 s (R413). -/
def recent (s : State) (ts : List W) : List W := ts.filter fun t => decide ((s.time - t).toNat < 1000000000)

/-- The element that a word of a register holds first, in the shape in force (R151, R412). -/
def lowestElem (a : Lay) (reg l : Nat) : Nat :=
  if a.half then l / 2 else if a.sew = 64 then l * a.p + reg % a.g / 2 else l * a.p + reg % a.g * (32 / a.sew)

/-- LANE_ERROR: an error in the word of register `reg` in a lane of a core (R412, R413, R414). -/
def execLaneError (core lane : Nat) (reg : BitVec 5) (unc : Bool) (s : State) : Out :=
  let c := s.core core
  let k := lane / 32
  if 256 ≤ core ∨ 16 ≤ k ∨ c.lanedis.getLsbD k ∨ c.retired then .next s
  else
    let key := 16 * core + k
    let times := recent s (s.clusterErrors.get [] key) ++ if unc then [] else [s.time]
    let ret := unc || decide (3 ≤ times.length)
    let held := bit c.bench (4 * k + 3)
    let hart := if held then holderOf c core k else serviceHart s
    let l := 32 * ((heldBy c hart).findIdx? (· == k)).getD 0 + lane % 32
    let h := s.hart hart
    let elem := if held then lowestElem h.vec.lay reg.toNat l else 0
    let lerr : W := BitVec.ofNat 64 (2 ^ 63 + (if unc then 2 ^ 62 else 0) + (if ret then 2 ^ 61 else 0) + reg.toNat * 2 ^ 56 +
      elem % 2 ^ 15 * 2 ^ 32 + lane * 2 ^ 16 + min times.length 15)
    let v := if unc && held && decide (l < h.vec.lanes) then poisonPut h.vec reg.toNat l true else h.vec
    let s := s.setHart hart { h with vec := v, flt := { h.flt with lerr := lerr } }
    let s := post { s with clusterErrors := s.clusterErrors.set key times } hart 0x11 lerr
    .next (if ret then retireCluster s core k else s)

/-! ### Regulators (R430, R431, R437) -/

/-- The core of a region, when it has one. -/
def regionCore (i : Nat) : Option Nat := if i % 208 < 192 then some (coreOfRegion i) else none

/-- Every word of some lines marked as poison (R408). -/
def markLines (s : State) (lines : List Nat) : State :=
  { s with marks := lines.foldl (fun m l => (upTo (16 * l) 16).foldl (fun m w => insertNat w m) m) s.marks }

/-- What the stashes of a die have dirty is lost with it: memory keeps what it holds, and the lines are marked (R442). -/
def loseDirty (s : State) (die : Nat) : State :=
  let lost (e : DirtyByte) : Bool := dieOfCore e.core == die
  let gone := s.dirty.filter lost
  markLines { s with mem := gone.foldl (fun m e => memPut m e.loc e.held) s.mem, dirty := s.dirty.filter (!lost ·) }
    (dedup (gone.map (·.loc / 64)))

/-- A region goes dark (R431, R442): its core is retired, or its compute die, whose dirty lines are lost; `dirty` are those
that its caches hold beside its stashes. -/
def darken (s : State) (i : Nat) (dirty : List Nat) : State :=
  let s := setRegion s i { region s i with dark := true }
  match regionCore i with
  | some c => retireCores s [c]
  | none => retireCores (loseDirty (markLines s dirty) (i / 208)) (upTo (i / 208 * 64) 64)

/-- REGULATOR_FAIL (R431). -/
def regulatorFail (s : State) (i : Nat) (dirty : List Nat) : State :=
  if 832 ≤ i ∨ (region s i).dark then s
  else unitReport (darken { s with retired := s.retired ++ [(2, i)] } i dirty) true 2 i

def execRegulatorFail (i : Nat) (dirty : List Nat) (s : State) : Out := .next (regulatorFail s i dirty)

/-! ### Units (R413) -/

/-- Lines of device memory drawn from the choices. -/
def drawLines : Nat → State → List Nat × State
  | 0, s => ([], s)
  | n + 1, s =>
    let (l, s) := s.pick (devMemEnd / 64)
    let (r, s) := drawLines n s
    (l :: r, s)

/-- The lines that the caches of the die of a region have dirty, beside its stashes: how many they are, up to every line of device
memory, and which, is a choice, of none when no choice is listed; log 28. -/
def dirtyLines (s : State) (i : Nat) : List Nat × State :=
  if (regionCore i).isSome then ([], s)
  else
    let (n, s) := s.pick (devMemEnd / 64 + 1)
    drawLines n s

/-- A unit retired, and reported (R232, R413, R414, R431, R439). -/
def retireUnit (s : State) (kind i : Nat) : State :=
  if s.retired.contains (kind, i) then s
  else match kind with
    | 0 => unitReport (loseRun { s with retired := s.retired ++ [(0, i)], channels := insertNat i s.channels } i) true 0 i
    | 1 => retireCores s [i]
    | 2 => let (dirty, s) := dirtyLines s i; regulatorFail s i dirty
    | _ =>
      let r := region s (i / 3)
      let x := r.sensors.get Sensor.reset (i % 3)
      let s := setRegion s (i / 3) { r with sensors := r.sensors.set (i % 3) { x with retired := true, untrusted := true } }
      unitReport { s with retired := s.retired ++ [(3, i)] } true 3 i

/-- The count of a unit's errors, by kind and index. -/
def errorKey (kind i : Nat) : Nat := 65536 * kind + i

/-- A corrected error counted; the third within 10 s retires the unit (R413). -/
def countError (s : State) (kind i : Nat) : State :=
  let ts := recent s (s.errors.get [] (errorKey kind i)) ++ [s.time]
  let s := { s with errors := s.errors.set (errorKey kind i) ts }
  if 3 ≤ ts.length then retireUnit s kind i else s

/-- How many units of a kind the device has: pseudo-channels, cores, regulators, sensors. -/
def unitCount : Nat → Nat
  | 0 => 4096
  | 1 => 256
  | 2 => 832
  | _ => 2496

/-- UNIT_ERROR: an error in a pseudo-channel, core, regulator or sensor (R413). -/
def execUnitError (kind i : Nat) (unc : Bool) (s : State) : Out :=
  if 4 ≤ kind ∨ unitCount kind ≤ i ∨ s.retired.contains (kind, i) then .next s
  else .next (if unc then retireUnit s kind i else countError s kind i)

/-- ERROR_AGE_OUT: corrected errors older than 10 s leave the count (R413); kind 4 stands for the lane clusters, by
16 × core + cluster. -/
def execErrorAgeOut (kind i : Nat) (s : State) : Out :=
  if kind = 4 then .next { s with clusterErrors := s.clusterErrors.set i (recent s (s.clusterErrors.get [] i)) }
  else .next { s with errors := s.errors.set (errorKey kind i) (recent s (s.errors.get [] (errorKey kind i))) }

/-! ### Hard shrinks of a core (R163, R436) -/

/-- The loop contexts of a core that hold lanes, largest logical grant first, on a tie those of the higher hart first (R436). -/
def shrinkOrder (s : State) (core : Nat) : List Nat :=
  sortBy (fun a b =>
    let x := (s.hart a).vec.lanes
    let y := (s.hart b).vec.lanes
    decide (y < x ∨ (x = y ∧ (hartOf b < hartOf a ∨ (hartOf b = hartOf a ∧ b ≤ a))))) ((loopsOf s core).filter fun n => decide (0 < (s.hart n).vec.phys))

/-- `d` lanes taken from a list of harts in turn, none left with fewer than 32 (R163, R436). -/
def takeLanes : List Nat → Nat → State → State
  | [], _, s => s
  | n :: r, d, s =>
    let p := (s.hart n).vec.phys
    let t := min d (p - 32)
    takeLanes r (d - t) (if t = 0 then s else hardShrink s n (p - t))

/-- The lanes that a core's harts hold. -/
def lanesHeld (s : State) (core : Nat) : Nat := ((loopsOf s core).map fun n => (s.hart n).vec.phys).sum

/-- A core made to keep `n` lanes. -/
def keepLanes (s : State) (core n : Nat) : State := takeLanes (shrinkOrder s core) (lanesHeld s core - n) s

/-- HARD_SHRINK: lanes are taken from the moving hart at a command boundary, never below 32 (R163). -/
def execHardShrink (lanes : Nat) (s : State) : Out :=
  if s.me.vec.phys ≤ 32 then .next s else .next (hardShrink s s.cur (max lanes 32))

/-- SCRIPT_SHRINK_COUNT: the count of the hard-shrink entry that heads the script is reached (R169). -/
def execScriptShrinkCount (s : State) : Out := .next (scriptShrink s s.cur false)

/-- CURRENT_LIMIT_EMERGENCY: IGOV of a lane region above ILIM for 1 µs (R436). -/
def execCurrentLimitEmergency (core : Nat) (s : State) : Out :=
  let i := laneRegion core
  let x := region s i
  if 256 ≤ core ∨ x.igov ≤ ilim s i then .next s
  else .next (keepLanes s core (lanesHeld s core * ilim s i / x.igov))

/-! ### Phases (R430) -/

/-- A loop context that holds more lanes than a bound keeps that many, and at least 32 (R163, R430). -/
def shrinkOver (s : State) (core n : Nat) : State :=
  (loopsOf s core).foldl (fun s h => if max n 32 < (s.hart h).vec.phys then hardShrink s h (max n 32) else s) s

/-- The budget of a lane region's core falls with its phases, never above GCAP.LANES, and a loop context that holds more takes a
hard shrink (R429, R430). -/
def phaseBudget (s : State) (i : Nat) : State :=
  match regionCore i with
  | some c =>
    if i % 208 % 3 ≠ 1 then s
    else
      let n := min (gcap (s.core c)) (min (s.core c).lbudget (phaseLanes s c))
      shrinkOver (s.setCore c { s.core c with lbudget := n }) c n
  | none => s

/-- PHASE_TRIP: a phase is taken out; an uncorrectable fault, of a phase that is out as well, or its third trip within 10 s
retires it (R413, R430). -/
def execPhaseTrip (i ph : Nat) (unc : Bool) (s : State) : Out :=
  let x := region s i
  let out := x.tripped.any (·.1 == ph)
  if 832 ≤ i ∨ 12 ≤ ph ∨ x.dark ∨ x.lost.contains ph ∨ (out ∧ unc = false) then .next s
  else
    let key := errorKey 5 (12 * i + ph)
    let ts := recent s (s.errors.get [] key) ++ [s.time]
    let s := { s with errors := s.errors.set key ts }
    let x := if unc || decide (3 ≤ ts.length) then { x with lost := x.lost ++ [ph], tripped := x.tripped.filter (·.1 != ph) }
             else { x with tripped := x.tripped.set ph s.time }
    .next (phaseBudget (unitReport (setRegion s i x) false 2 i) i)

/-- PHASE_RETURN: 100 µs after its trip a phase returns if it passes its self-check; else it stays out (R430). -/
def execPhaseReturn (i ph : Nat) (pass : Bool) (s : State) : Out :=
  let x := region s i
  match x.tripped.find? (·.1 == ph) with
  | none => .next s
  | some (_, t) =>
    if (s.time - t).toNat < 10000 ∨ x.dark then .next s
    else if pass then .next (setRegion s i { x with tripped := x.tripped.filter (·.1 != ph) })
    else .next (setRegion s i { x with tripped := x.tripped.set ph s.time })

/-- SUPPLY_DROOP: a drop of more than 30 mV with a load step below 10% of ILIM, in 1/64 A (R437). -/
def execSupplyDroop (i millivolts step : Nat) (s : State) : Out :=
  let x := region s i
  if 832 ≤ i ∨ x.dark ∨ millivolts ≤ 30 ∨ ilim s i ≤ 10 * step then .next s
  else .next (countError (unitReport (setRegion s i { x with droop := true }) false 2 i) 2 i)

/-! ### Budgets (R435) -/

/-- A core's harts that hold a seat. -/
def seatHolders (c : CoreSt) : Nat :=
  ((upTo 0 8).filter fun h => (upTo 0 16).any fun k => fld c.bench (4 * k) 4 == 8 + h).length

/-- One core's budget at a refresh, under its share of the package limit. -/
def refreshCore (s : State) (core share : Nat) : State :=
  let c := s.core core
  let th := if (region s (laneRegion core)).temp < 95 then 512 else max (c.thermal - 32) (32 * seatHolders c)
  let n := min (min (gcap c) (phaseLanes s core)) (min th share)
  if c.lbudget = n ∧ c.thermal = th then s else s.setCore core { c with thermal := th, lbudget := n }

/-- The lanes that the harts of a core request: the needs of those that hold a grant, each within what the core has (R156,
R435). -/
def requested (s : State) (core : Nat) : Nat := ((grantHolders s core).map fun e => min e.2 (gcap (s.core core))).sum

/-- A core's share of the lanes that its die's part of the package limit can power, in proportion to the lanes requested, with
no remainder dealt; where no core of the die requests any, it bounds none (R435); DESIGN CHOICE, log 54. -/
def limitShare (s : State) (lanes core : Nat) : Nat :=
  let all := ((upTo (core / 64 * 64) 64).map (requested s)).sum
  if all = 0 then 512 else lanes * requested s core / all

/-- The energy of a context charged; at 0 its harts are pre-empted at once (R364). -/
def chargeContext (s : State) (ctx uj : Nat) : State :=
  let k := charge (s.ctx ctx) uj
  let s := s.setCtx ctx k
  if k.equota ≠ 0 then s
  else { s with harts := s.harts.map fun (n, h) =>
      (n, if h.ctx = ctx ∧ h.task.isSome = true then { h with preempt := some ⟨true, s.time⟩ } else h) }

/-- The seats of a core's clusters that harts of a context hold (R364). -/
def seatsOf (s : State) (core ctx : Nat) : Nat :=
  (((loopsOf s core).filter fun n => (s.hart n).ctx == ctx).map fun n => (heldBy (s.core core) n).length).sum

/-- The energy of a region divided among the contexts that hold seats of its core, with no remainder dealt (R364); DESIGN
CHOICE, log 54. -/
def chargeRegion (s : State) (i uj : Nat) : State :=
  match regionCore i with
  | some c =>
    let cs := dedup ((loopsOf s c).map fun n => (s.hart n).ctx)
    let all := (cs.map (seatsOf s c)).sum
    cs.foldl (fun t k => if seatsOf s c k = 0 then t else chargeContext t k (uj * seatsOf s c k / all)) s
  | none => s

/-- The step of the on-die network of a die (R440). -/
def networkStep (s : State) (die pct : Nat) : State :=
  let n := s.netStep.get 0 die
  { s with netStep := s.netStep.set die (if 50 < pct then min 8 (n + 1) else if pct < 20 then n - 1 else n) }

/-- Shares of dies, each cut to what is left of a total. -/
def cutShares : Nat → List (Nat × Nat) → List (Nat × Nat)
  | _, [] => []
  | total, (d, n) :: r => (d, min n total) :: cutShares (total - n) r

/-- The parts of the dies of the lanes that the package limit of 2,800 W can power, `Config.packageLanes`: as the report of the
I/O die divides it, and what that leaves in equal parts for the dies that it does not name (R435). How the limit is divided,
and how many lanes it powers, are the device's; DESIGN CHOICE, log 54. -/
def dieShares (x : PowerReport) : List (Nat × Nat) :=
  let named := cutShares Config.packageLanes ((upTo 0 4).filterMap fun d => x.shares.find? (·.1 == d))
  let rest := (upTo 0 4).filter fun d => !named.any (·.1 == d)
  named ++ rest.map fun d => (d, (Config.packageLanes - (named.map (·.2)).sum) / rest.length)

/-- The clusters that the loop contexts of a core need beside those that they hold: for the need of their last grant step, within
their shares of the budget, or for a scripted grant that waits (R434). -/
def clustersWanted (s : State) (core : Nat) : Nat :=
  ((loopsOf s core).map fun n =>
    let v := (s.hart n).vec
    let shared := if v.lanes = 0 then 0 else clustersOf (min v.need (min (shareOf s n) (gcap (s.core core))))
    max shared (scriptedClusters s n) - (heldBy (s.core core) n).length).sum

/-- The clusters of a core that are powered, free and not needed are idle, and gated (R427). The manual does not say when: at the
next refresh of the budget; DESIGN CHOICE, log 54. -/
def gateIdle (s : State) (core : Nat) : State :=
  let c := s.core core
  let idle := ((freeClusters c).filter (c.powered.getLsbD ·)).drop (clustersWanted s core)
  if idle.isEmpty then s else s.setCore core { c with powered := c.powered &&& ~~~(clusterBits idle) }

/-- BUDGET_REFRESH: budgets, idle clusters, energy and network steps, every 10 µs (R364, R427, R435, R440). -/
def execBudgetRefresh (x : PowerReport) (s : State) : Out :=
  let part (d : Nat) : Nat := ((dieShares x).find? (·.1 == d)).elim 0 (·.2)
  let share (c : Nat) : Nat := limitShare s (part (dieOfCore c)) c
  let s := (upTo 0 256).foldl (fun s c => refreshCore s c (share c)) s
  let s := (upTo 0 256).foldl gateIdle s
  let s := x.energy.foldl (fun s (i, uj) => chargeRegion s i uj) s
  .next (x.occupancy.foldl (fun s (d, p) => networkStep s d p) s)

/-! ### Sensors (R438, R439) -/

/-- The middle of three readings. -/
def median (a b c : Int) : Int := max (min a b) (min (max a b) c)

/-- A reading out of range (R438). -/
def outOfRange (i : Nat) (temp amps : Int) : Bool :=
  decide (temp < 0 ∨ 150 < temp ∨ amps < 0 ∨ (2 * nominal (i % 208) : Nat) < amps)

/-- A sensor after a sample, before the tests: its readings, and for how many samples it has shown them. -/
def shown (x : Sensor) (temp amps : Int) : Sensor :=
  { x with temp := temp, amps := amps, same := if x.temp = temp ∧ x.amps = amps then min (x.same + 1) 4096 else 1 }

/-- The tests of R438 other than the range: stuck, or away from the median. -/
def suspect (x : Sensor) (others : List Sensor) (mt ma : Int) : Bool :=
  (decide (4096 ≤ x.same) && others.all fun o => decide (o.same < 4096)) ||
    decide (8 < (x.temp - mt).natAbs ∨ 15 * ma.natAbs < 100 * (x.amps - ma).natAbs)

/-- One sensor after a sample: untrusted from any test on, until 4,096 samples without (R438). -/
def judge (x : Sensor) (bad : Bool) : Sensor :=
  if bad then { x with untrusted := true, good := 0 }
  else if x.untrusted then
    (if 4095 ≤ x.good ∧ x.retired = false then { x with untrusted := false, good := 0 } else { x with good := min (x.good + 1) 4096 })
  else x

/-- The sensors of one region sampled, with what R439 makes of each declaration. -/
def sampleRegion (s : State) (r : Reading) : State :=
  let i := r.region
  let x := region s i
  let get (k : Nat) := x.sensors.get Sensor.reset k
  let (t0, t1, t2) := r.temps
  let (a0, a1, a2) := r.amps
  let xs := [shown (get 0) t0 a0, shown (get 1) t1 a1, shown (get 2) t2 a2]
  let mt := median t0 t1 t2
  let ma := median a0 a1 a2
  let tests := (upTo 0 3).map fun k =>
    let y := xs.getD k Sensor.reset
    let out := outOfRange i y.temp y.amps
    (k, y, out, out || suspect y ((upTo 0 3).filterMap fun j => if j = k then none else xs[j]?) mt ma)
  let s := setRegion s i { x with sensors := tests.map fun (k, y, _, bad) => (k, judge y bad) }
  tests.foldl (fun s (k, y, out, bad) =>
    if out then retireUnit s 3 (3 * i + k)
    else if bad && !y.untrusted then countError s 3 (3 * i + k) else s) s

/-- The three sensors of a region. -/
def sensorsOf (s : State) (i : Nat) : List Sensor := (upTo 0 3).map fun k => (region s i).sensors.get Sensor.reset k

/-- Whether every sensor of a region is trusted. -/
def trusts (s : State) (i : Nat) : Bool := (sensorsOf s i).all (!·.untrusted)

/-- The governing readings of a region whose sensors are all trusted: the medians, of readings within their range (R438). -/
def governMid (s : State) (i : Nat) : State :=
  let xs := sensorsOf s i
  let mid (f : Sensor → Int) : Nat :=
    (median (f (xs.getD 0 Sensor.reset)) (f (xs.getD 1 Sensor.reset)) (f (xs.getD 2 Sensor.reset))).toNat
  setRegion s i { region s i with temp := mid (·.temp), igov := mid (·.amps) }

/-- The worst readings of the trusted sensors of a region; 0 where it has none. -/
def governOwn (s : State) (i : Nat) : State :=
  let worst (f : Sensor → Int) : Nat := (((sensorsOf s i).filter (!·.untrusted)).map fun x => (f x).toNat).foldl max 0
  setRegion s i { region s i with temp := worst (·.temp), igov := worst (·.amps) }

/-- The governing readings of a region made no better than those of its neighbours. -/
def governNear (s : State) (i : Nat) : State :=
  let near := (neighbours i).map (region s ·)
  let x := region s i
  setRegion s i { x with temp := (near.map (·.temp)).foldl max x.temp, igov := (near.map (·.igov)).foldl max x.igov }

/-- The regions of a die with an untrusted sensor. -/
def doubted (s : State) (die : Nat) : List Nat := (upTo (208 * die) 208).filter (!trusts s ·)

/-- The governing readings after a sample (R438): the medians where every sensor is trusted; elsewhere the worst of the trusted
sensors and of what governs the neighbours, which those that are untrusted as well pass on to each other. None is kept from the
sample before. -/
def governAll (s : State) (die : Nat) (is : List Nat) : State :=
  let s := (is.filter (trusts s)).foldl governMid s
  let us := doubted s die
  us.foldl (fun s _ => us.foldl governNear s) (us.foldl governOwn s)

/-- A thermal trip: each loop context of the core keeps at most 32 lanes (R436). -/
def thermalTrip (s : State) (core : Nat) : State :=
  (loopsOf s core).foldl (fun s n => if 32 < (s.hart n).vec.phys then hardShrink s n 32 else s) s

/-- SENSOR_SAMPLE: the readings of one sample of a die (R436, R438, R439). -/
def execSensorSample (die : Nat) (x : List Reading) (s : State) : Out :=
  let x := x.filter fun r => decide (r.region < 832 ∧ r.region / 208 = die)
  let s := x.foldl sampleRegion s
  let s := governAll s die (x.map (·.region))
  .next ((x.map (·.region) ++ doubted s die).foldl (fun s i =>
    match regionCore i with
    | some c => if 110 ≤ (region s i).temp then thermalTrip s c else s
    | none => s) s)

/-! ### Waking lanes (R433) -/

/-- CLUSTER_WAKE_REQUEST. -/
def execClusterWakeRequest (core : Nat) (clusters : BitVec 16) (s : State) : Out := .next (requestWake s core clusters)

/-- WAKE_NEIGHBOUR_CLEAR: every neighbour is at or below 85% of its limit, within 20 µs of a request. -/
def execWakeNeighbourClear (core : Nat) (s : State) : Out :=
  .next (if neighboursCool s core then fixPace s core 4 (!wakeLate s ·) else s)

/-- WAKE_WAIT_TIMEOUT: 20 µs of waiting are over. -/
def execWakeWaitTimeout (core : Nat) (s : State) : Out := .next (fixPace s core 16 (wakeLate s))

/-- WAKE_STAGE_STEP: 1 µs of staging. -/
def execWakeStageStep (core : Nat) (s : State) : Out := .next (stageStep s core)

end Sys2Proof.Machine
end

