-- ==== Sys2Proof/Machine/System.lean ====
section
/-! DEFINITION. TRAP, BRK, ERET, PARK, FENCE, IFLUSH, TLBINV and DTLOAD (R64, R112, R137 to R143, R406). -/

namespace Sys2Proof.Machine

/-- The check that an instruction needs kernel level or above (R103). -/
def needsLevel (s : State) (body : Out) : Out := if s.me.priv = 0 then .next (illegalAt s) else body

/-! ### Traps and returns -/

/-- TRAP: a system call (R137). -/
def execTrap (_ : FU) (s : State) : Out := .next (trapAt s ⟨0x08, s.me.ir.setWidth 64⟩)

/-- BRK: a breakpoint (R137). -/
def execBrk (_ : FU) (s : State) : Out := .next (trapAt s ⟨0x09, s.me.ir.setWidth 64⟩)

/-- Both links cleared (R133, R263). -/
def dropLinks (h : Hart) : Hart := { h with link := none, vec := { h.vec with vlinks := [] } }

/-- ERET: the saved queue is discarded (R64, R138, R406). -/
def execEret (_ : FS) (s : State) : Out :=
  match eretRegs s.me with
  | none => .next (illegalAt s)
  | some h => .next (s.setMe (clearStat (dropLinks h)))

/-- ERET replay: the saved queue re-enters the command queue; with none it is an ERET (R138, R406). -/
def execEretReplay (_ : FS) (s : State) : Out :=
  match eretRegs s.me with
  | none => .next (illegalAt s)
  | some h => .next (s.setMe (if bit h.flt.vfstat 0 then replayQueue (dropLinks h) s.myCtx.atp else clearStat (dropLinks h)))

/-! ### PARK (R139) -/

/-- A PARK completes with a code. -/
def unpark (h : Hart) (gd : Nat) (code : W) : Hart := { (h.wr gd code).adv with run := .running, wake := false }

/-- The code of the first wake event of a parked hart, if one has come: the one noted, or its timeout (R139). -/
def wakeCode (s : State) (t0 ticks : W) (first : Option (Nat × W)) : Option W :=
  match first with
  | some (c, _) => some (BitVec.ofNat 64 c)
  | none => if parkLate s t0 ticks then some 0 else none

/-- PARK (R139): an event that is pending already wakes it at once. -/
def execPark (f : FI) (s : State) : Out :=
  let h := s.me
  scalar s [f.a.toNat, f.b.toNat]
    (if farmBars h f.a then .trap (illegalCause s)
     else
       let a := h.rd f.b.toNat
       if h.flt.events.isEmpty then .ok (s.setMe { h with run := .parked f.a.toNat s.time a none, wake := false })
       else .ok (s.setMe (unpark h f.a.toNat 1)))

/-- The wake of the moving hart, if it is parked and an event has come. -/
def wakeMe (s : State) : Option State :=
  match s.me.run with
  | .parked gd t0 ticks first => (wakeCode s t0 ticks first).map fun k => s.setMe (unpark s.me gd k)
  | _ => none

/-- PARK_WAKE: an event or a wake of the scheduler (R139). -/
def execParkWake (s : State) : Out := .next ((wakeMe s).getD s)

/-- PARK_TIMEOUT: TIME has advanced by the ticks asked for (R139). -/
def execParkTimeout (s : State) : Out := .next ((wakeMe s).getD s)

/-! ### FENCE, IFLUSH, TLBINV -/

/-- Earlier commands a FENCE waits for: those with accesses, and for an acquire those that load (R140). -/
def fenceWaits (h : Hart) (f : FA) : Bool :=
  h.undone.any fun c => ownAccesses c.ins && !(f.aq == 1 && f.rl == 0 && h.mode == 0 && onlyStores c.ins)

/-- FENCE: memory is one order here, so a FENCE at any scope, hart included, waits until the accesses of the earlier
commands it covers have been made (R140, R284, R287, R288). A release waits as a full one does; log 3. At sys scope a release or
a full FENCE writes back the core's dirty stash bytes (R292). -/
def execFence (f : FA) (s : State) : Out :=
  scalar s [] (if fenceWaits s.me f then .wait
    else .ok ((releaseTo s (f.scope == 4 && !(f.aq == 1 && f.rl == 0))).setMe s.me.adv))

/-- IFLUSH: the hart's fetch sees every store made so far (R142). It does not wait for the hart's vector stores that are still
queued, which its own scalar loads need not see yet (R288); DESIGN CHOICE, log 58. -/
def execIflush (_ : FS) (s : State) : Out := .next (s.setMe { s.me.adv with iseen := s.stale.length })

/-- Whether TLBINV of an address and a selector takes an entry (R143). -/
def tlbSelected (va sel : W) (e : TlbEntry) : Bool :=
  (bit sel 13 || e.covers va) && (bit sel 12 || e.asid.toNat == fld sel 0 12)

/-- TLBINV: after the hart's earlier stores, no TLB or walk cache holds a selected entry any more (R143). A poisoned address
that it uses is cause 0x1A (R409). -/
def execTlbinv (f : FS) (s : State) : Out :=
  let va := s.me.rd f.b.toNat
  let sel := s.me.rd f.c.toNat
  needsLevel s (scalar s [f.b.toNat, f.c.toNat]
    (if s.me.rdP f.b.toNat && !bit sel 13 then .trap (poisonCause s)
     else if storesQueued s.me then .wait
     else .ok { s.setMe s.me.adv with tlb := s.tlb.filter fun e => !tlbSelected va sel e }))

/-! ### DTLOAD (R111 to R113) -/

/-- How the read of a decode-table image ends. -/
inductive Table where
  | read (s : State) (ds : List W)
  | trap (c : Cause)
  | stop (f : Fault)

/-- Dwords read at kernel level (R112). In REV an access in a region is a conflict (R315). -/
def readTable : Nat → State → W → List W → Table
  | 0, s, _, acc => .read s acc.reverse
  | n + 1, s, va, acc =>
    match xlate s s.cur s.me.ctx 1 .scalar .load va 8 with
    | .error c => .trap c
    | .ok p =>
      if s.me.mode = 2 ∧ (myRegion s va 8).isSome then .trap (conflict va)
      else if isDevReg p.phys.loc then
        (match readReg p.st p.phys.loc with
         | some x => readTable n p.st (va + 8) (x :: acc)
         | none => .stop (.deviceRegister p.phys.loc))
      else readTable n p.st (va + 8) (BitVec.ofNat 64 (loadAt p.st p.phys 8) :: acc)

/-- The status of one entry; 0: good (R112). -/
def entryStatus (n : Nat) (x : BitVec 16) : Nat :=
  if (n = 0 ∨ n = 0x3FF) ∧ x ≠ 0 then 3
  else if x.getLsbD 12 then 4
  else if x.getLsbD 15 ∧ x.getLsbD 14 = false ∧ opAssigned (x.toNat % 4096) = false then 5
  else 0

/-- The entries of a decode-table image. -/
def tableEntries (ds : List W) : List (BitVec 16) :=
  (ds.drop 2).flatMap fun d => (upTo 0 4).map fun k => BitVec.ofNat 16 (fld d (16 * k) 16)

/-- The status of a decode-table image and its first bad entry (R111, R112). -/
def tableStatus (ds : List W) : Nat × Nat :=
  let d := ds.getD 0 0
  if fld d 0 32 ≠ 0x4D444C51 then (1, 0)
  else if fld d 32 16 = 0 ∨ fld d 48 16 ≠ 0 ∨ ds.getD 1 0 ≠ 0 then (2, 0)
  else
    let es := tableEntries ds
    match (es.zip (upTo 0 1024)).find? fun (x, n) => entryStatus n x != 0 with
    | some (x, n) => (entryStatus n x, n)
    | none => (0, 0)

/-- A decode table put in force for a context (R112, R113). -/
def setTable (s : State) (ctx : Nat) (dt : Option (List (BitVec 16))) (ver : Nat) : State :=
  s.setCtx ctx { s.ctx ctx with dt := dt, dtver := BitVec.ofNat 16 ver }

/-- DTLOAD (R112). Marked words count with the values they hold; DESIGN CHOICE, log 18. -/
def execDtload (f : FI) (s : State) : Out :=
  let h := s.me
  let ea := h.rd f.b.toNat + simm f.imm
  let done (t : State) (x : Nat) : Res := .ok (t.setMe ((t.me.wr f.a.toNat (BitVec.ofNat 64 x)).adv))
  needsLevel s (scalar s [f.a.toNat, f.b.toNat]
    (if farmBars h f.a then .trap (illegalCause s)
     else if h.rdP f.b.toNat then .trap (poisonCause s)
     else if acquiring h then .wait
     else if ea = 0 then done (setTable s h.ctx none 1) 0
     else if ea.toNat % 16 ≠ 0 then .trap ⟨0x05, ea⟩
     else match readTable 258 s ea [] with
       | .trap c => .trap c
       | .stop x => .stop x
       | .read t ds =>
         let (st, bad) := tableStatus ds
         if st = 0 then done (setTable t h.ctx (some (tableEntries ds)) (fld (ds.getD 0 0) 32 16)) 0
         else done t (st + bad * 65536)))

end Sys2Proof.Machine
end

