-- ==== Sys2Proof/Machine/Csr.lean ====
section
/-! DEFINITION. Control registers (R46 to R54, R110, R141, R147, R148, R218, R227, R302, R348, R402, R432, R443): who may reach each, what it reads, what a write does, and CRD, CWR, CSET and CCLR. -/

namespace Sys2Proof.Machine

/-! ### Who may reach a register (R46 to R48) -/

/-- The least levels that read and write a register, 3 for never; none: no register has the number. -/
def csrLevels (n : Nat) : Option (Nat × Nat) :=
  if n = 0x001 ∨ n = 0x033 ∨ n = 0x035 ∨ (0x040 ≤ n ∧ n ≤ 0x047) then some (0, 0)
  else if n = 0x010 ∨ n = 0x011 then some (0, 2)
  else if n = 0x012 ∨ n = 0x020 ∨ (0x030 ≤ n ∧ n ≤ 0x03B) ∨ n = 0x050 ∨ (0x060 ≤ n ∧ n ≤ 0x077) ∨
      (0x080 ≤ n ∧ n ≤ 0x08B) ∨ n = 0x0A0 ∨ n = 0x0A1 ∨ n = 0x0A3 then some (0, 3)
  else if (0x051 ≤ n ∧ n ≤ 0x053) ∨ n = 0x0A2 then some (0, 1)
  else if (0x100 ≤ n ∧ n ≤ 0x105) ∨ n = 0x111 ∨ n = 0x113 ∨ n = 0x114 ∨ n = 0x200 ∨ n = 0x204 ∨
      (0x210 ≤ n ∧ n ≤ 0x21F) ∨ (0x220 ≤ n ∧ n ≤ 0x224) ∨ (0x230 ≤ n ∧ n ≤ 0x235) ∨ n = 0x250 ∨ n = 0x260 then some (1, 1)
  else if n = 0x110 ∨ n = 0x112 ∨ (0x120 ≤ n ∧ n ≤ 0x12E) ∨ n = 0x201 ∨ n = 0x203 ∨ n = 0x261 ∨ n = 0x262 then some (1, 3)
  else if n = 0x202 then some (1, 2)
  else if (0x800 ≤ n ∧ n ≤ 0x804) ∨ n = 0x808 ∨ n = 0x809 ∨ n = 0x910 ∨ n = 0x920 ∨ n = 0x921 ∨
      (0x930 ≤ n ∧ n ≤ 0x934) ∨ (0x940 ≤ n ∧ n ≤ 0x949) ∨ (0x950 ≤ n ∧ n ≤ 0x952) then some (2, 2)
  else none

/-- Whether an access is allowed at a level (R47). -/
def csrAllowed (n priv : Nat) (write : Bool) : Bool :=
  match csrLevels n with
  | some (r, w) => decide (r ≤ priv) && (!write || decide (w ≤ priv))
  | none => false

/-- Whether a command is a VAMAX. -/
def isVamax : Instr → Bool
  | .vamax _ => true
  | _ => false

/-- The AMAX registers. -/
def isAmax (n : Nat) : Bool := decide (0x040 ≤ n ∧ n ≤ 0x047)

/-- An access to register `n` has to wait: for every earlier vector command (R84, R148, R348), or to an AMAX register for every
earlier VAMAX (R220). -/
def csrWaits (h : Hart) (n : Nat) : Bool :=
  (decide (n = 0x001 ∨ (0x031 ≤ n ∧ n ≤ 0x034) ∨ (0x037 ≤ n ∧ n ≤ 0x03B) ∨ n = 0x0A0) && !h.queue.isEmpty) ||
    (isAmax n && h.queue.any fun c => isVamax c.ins)

/-- A write of register `n` has to wait; one of CALLOT waits for the hart's earlier stores (R362). -/
def writeWaits (h : Hart) (n : Nat) : Bool := csrWaits h n || (n == 0x235 && storesQueued h)

/-! ### What registers read -/

/-- A state bit as a number. -/
def b2n (b : Bool) : Nat := if b then 1 else 0

/-- HARTID (R53). -/
def hartidWord (s : State) (hart : Nat) : W := BitVec.ofNat 64 (s.devid.toNat * 2048 + hartOf hart)

/-- TASKID (R357). -/
def taskidWord (h : Hart) : W :=
  let t := h.task.getD (0, 0)
  let f := match h.farm with
    | some (_, i) => 2 ^ 31 + i * 65536
    | none => 0
  BitVec.ofNat 64 (f + t.2 * 256 + t.1)

/-- The region that PRSEL names, by 208 × die + region; none from 208 on (R432). -/
def selectedRegion (s : State) : Option Nat :=
  let r := s.prsel.toNat % 256
  if r < 208 then some (208 * (s.prsel.toNat / 256) + r) else none

/-- A live reading as a field of `n` bits shows it: the nearest value of the field; DESIGN CHOICE, log 54. -/
def shownAs (n : Nat) (x : Int) : Nat := min (2 ^ n - 1) x.toNat

/-- PRSTAT (R432): of a lane region, 0 when any of its clusters is powered. -/
def prstatWord (s : State) (i : Nat) : W :=
  let x := region s i
  let lane := decide (i % 208 < 192 ∧ i % 208 % 3 = 1)
  let c := s.core (coreOfRegion i)
  let st := if x.dark then 3 else if !lane || c.powered != 0 then 0 else if c.wakes.isEmpty then 2 else 1
  let waitn := lane && (c.wakes.any (·.phase == .current) || (match c.wakes.head? with
    | some w => (match w.phase with
      | .turn _ => true
      | _ => false)
    | none => false))
  let untr := ((upTo 0 3).map fun k => b2n (x.sensors.get Sensor.reset k).untrusted * 2 ^ k).sum
  BitVec.ofNat 64 (shownAs 8 x.temp * 2 ^ 56 + shownAs 12 x.igov * 2 ^ 40 + ilim s i % 4096 * 2 ^ 28 + x.phases * 2 ^ 24 + untr * 2 ^ 20 +
    b2n x.droop * 2 ^ 17 + b2n waitn * 2 ^ 16 + st)

/-- PRSENS (R432). -/
def prsensWord (s : State) (i : Nat) : W :=
  let x := region s i
  BitVec.ofNat 64 (((upTo 0 3).map fun k =>
    let y := x.sensors.get Sensor.reset k
    b2n y.retired * 2 ^ (60 + k) + shownAs 8 y.temp * 2 ^ (20 * k + 12) + shownAs 12 y.amps * 2 ^ (20 * k)).sum)

/-- A control register of the hart and its loop context, below 0x100. -/
def readUser (s : State) (n : Nat) : W :=
  let h := s.me
  let v := h.vec
  let k := s.myCtx
  let c := s.core (coreOf s.cur)
  match n with
  | 0x001 => h.fflags.setWidth 64
  | 0x010 => c.cycle
  | 0x011 => s.time
  | 0x012 => hartidWord s s.cur
  | 0x020 => k.dtver.setWidth 64
  | 0x030 => vshapeWord v
  | 0x031 => BitVec.ofNat 64 v.vl
  | 0x032 => grantWord v
  | 0x033 => v.gstat
  | 0x034 => v.gloss
  | 0x035 => v.gctl
  | 0x036 => BitVec.ofNat 64 (gcap c)
  | 0x037 => v.scnt.setWidth 64
  | 0x050 => h.mode.setWidth 64
  | 0x051 => h.tapeptr
  | 0x052 => h.tapelim
  | 0x053 => h.tapebase
  | 0x0A0 => drcntWord h
  | 0x0A1 => taskidWord h
  | 0x0A2 => k.tktab
  | 0x0A3 => BitVec.ofNat 64 h.ctx
  | _ =>
    if n < 0x040 then v.fold (n - 0x038)
    else if n < 0x060 then (k.amax.get 0 (n - 0x040)).setWidth 64
    else if n < 0x068 then k.drbase.get 0 (n - 0x060)
    else if n < 0x070 then k.dradj.get 0 (n - 0x068)
    else if n < 0x080 then k.drsize.get 0 (n - 0x070)
    else if n < 0x084 then k.kcbase.get 0 (n - 0x080)
    else if n < 0x088 then k.kcrime.get 0 (n - 0x084)
    else k.kcgeom.get 0 (n - 0x088)

/-- A control register of the kernel range. -/
def readKernel (s : State) (n : Nat) : W :=
  let h := s.me
  let v := h.vec
  let k := s.myCtx
  let c := s.core (coreOf s.cur)
  match n with
  | 0x100 => h.trap.stat
  | 0x101 => h.trap.tbase
  | 0x102 => h.trap.epc
  | 0x103 => h.trap.cause
  | 0x104 => h.trap.tval
  | 0x105 => h.trap.kscr
  | 0x110 => h.flt.vfstat
  | 0x111 => h.flt.rix
  | 0x112 => h.flt.vqpos
  | 0x113 => pstatWord h
  | 0x114 => h.flt.lerr
  | 0x200 => v.gsctl
  | 0x201 => c.bench
  | 0x202 => c.lanedis.setWidth 64
  | 0x203 => BitVec.ofNat 64 c.lbudget
  | 0x204 => v.vsave
  | 0x220 => k.atp
  | 0x221 => h.lwin
  | 0x222 => BitVec.ofNat 64 c.pbreg
  | 0x223 => BitVec.ofNat 64 (c.lent * 256 + c.scrSize)
  | 0x224 => BitVec.ofNat 64 (b2n c.rsz * 2 ^ 15 + c.cacSize)
  | 0x230 => k.equota
  | 0x231 => k.erefill
  | 0x232 => k.eperiod
  | 0x233 => k.sweight
  | 0x234 => k.csave
  | 0x235 => k.callot
  | 0x250 => s.svchart.setWidth 64
  | 0x260 => s.prsel.setWidth 64
  | 0x261 => (match selectedRegion s with
    | some i => prstatWord s i
    | none => 0)
  | 0x262 => (match selectedRegion s with
    | some i => prsensWord s i
    | none => 0)
  | _ => if n < 0x200 then h.flt.fhint.get 0 (n - 0x120) else v.gscript.get 0 (n - 0x210)

/-- A control register of the firmware range; one that is written only reads zero. -/
def readFirmware (s : State) (n : Nat) : W :=
  let t := s.me.trap
  match n with
  | 0x800 => t.ftbase
  | 0x801 => t.fepc
  | 0x802 => t.fcause
  | 0x803 => t.ftval
  | 0x804 => t.fscr
  | 0x808 => t.hraddr
  | 0x920 => s.blksel
  | 0x921 => readOwners s
  | 0x930 => BitVec.ofNat 64 (b2n s.devlock * 2 ^ 63 + s.devid.toNat)
  | 0x931 => BitVec.ofNat 64 s.hdmNext
  | 0x932 => s.hwbase
  | 0x933 => s.rtsel.setWidth 64
  | 0x934 => BitVec.ofNat 64 (b2n s.rtlocal * 65536 + (s.routes.get 0 s.rtsel.toNat).toNat)
  | 0x940 => s.keysel.setWidth 64
  | 0x949 => BitVec.ofNat 64 (b2n (s.keys.get none s.keysel.toNat).isSome * 4)
  | 0x950 => s.cxsel.setWidth 64
  | 0x951 => s.cxaddr
  | 0x952 => BitVec.ofNat 64 (s.cxstatus.toNat * 256)
  | _ => 0

/-- The value of control register `n` at the moving hart. -/
def csrRead (s : State) (n : Nat) : W := if n < 0x100 then readUser s n else if n < 0x800 then readKernel s n else readFirmware s n

/-! ### What writes do (R12) -/

/-- STAT written at a level (R44, R49). -/
def statWrite (old x : W) (priv : Nat) : W :=
  let s := setBit (setBit (setBit old 7 (bit x 7)) 5 (bit x 5)) 4 (bit x 4)
  let s := if fld x 2 2 < 2 then setFld s 2 2 (fld x 2 2) else s
  if priv = 2 then
    let s := setBit (setBit s 15 (bit x 15)) 14 (bit x 14)
    if fld x 12 2 < 3 then setFld s 12 2 (fld x 12 2) else s
  else s

/-- TBASE and FTBASE as written (R50). -/
def baseWrite (x : W) : W := setFld (sext64 56 x.toNat) 0 8 0

/-- CAUSE and FCAUSE as written (R51). -/
def causeBits (x : W) : W := x &&& 0xC0000000000000FF#64

/-- GSCRIPT as written: KIND 3 is stored as 0 (R168). -/
def scriptWrite (x : W) : W :=
  let y := x &&& 0xC000FFFF000003FF#64
  if fld y 62 2 = 3 then setFld y 62 2 0 else y

/-- A register of the trap block. -/
def setTrap (s : State) (f : TrapRegs → TrapRegs) : State := s.setMe { s.me with trap := f s.me.trap }
/-- The vector registers of the moving loop context; `setHartVec`: those of them that its hart's other loop contexts share. -/
def setVec (s : State) (f : VecRegs → VecRegs) : State := s.setMe { s.me with vec := f s.me.vec }
def setHartVec (s : State) (f : VecRegs → VecRegs) : State := spread (setVec s f) s.cur
def setFlt (s : State) (f : FaultRegs → FaultRegs) : State := s.setMe { s.me with flt := f s.me.flt }
def setMyCtx (s : State) (f : Context → Context) : State := s.setCtx s.me.ctx (f s.myCtx)

/-- PBREG, PBSCR and PBCAC: none where R228 refuses the write. -/
def carveWrite (s : State) (n : Nat) (x : W) : Option State :=
  let core := coreOf s.cur
  let c := s.core core
  let reg := if n = 0x222 then fld x 0 6 else c.pbreg
  let scr := if n = 0x223 then fld x 0 6 else c.scrSize
  let cac := if n = 0x224 then fld x 0 6 else c.cacSize
  let rsz := if n = 0x224 then bit x 15 else c.rsz
  if noSeats c && carveOk reg scr cac then some (recarve s core reg scr cac rsz) else none

/-- ATP: none where R241 refuses the generation; a write clears both links (R234), and an advance from generation 255
empties the TLBs. -/
def atpPut (s : State) (x : W) : Option State :=
  let x := x &&& 0xFF8FFFFFFFFFFFFF#64
  let asid := fld x 0 12
  let g : BitVec 8 := BitVec.ofNat 8 (fld x 55 8)
  let now := s.gens.get 0 asid
  if g ≠ now ∧ g ≠ now + 1 then none
  else
    let s := if g = now then s else { s with gens := s.gens.set asid g, tlb := if g = 0 then [] else s.tlb }
    some (setMyCtx (s.setMe (dropLinks s.me)) fun k => { k with atp := x })

/-- LANEDIS: clusters may be retired, and none returns (R157). -/
def lanedisWrite (s : State) (x : W) : State :=
  let core := coreOf s.cur
  ((upTo 0 16).filter fun k => bit x k && !(s.core core).lanedis.getLsbD k).foldl (fun s k => retireCluster s core k) s

/-- GSCTL: a new head starts its own count, and one that is written again keeps it (R167, R169); DESIGN CHOICE, log 57. -/
def gsctlWrite (v : VecRegs) (x : W) : VecRegs :=
  let y := x &&& 0x800F#64
  { v with gsctl := y, scriptDone := if fld y 0 4 = fld v.gsctl 0 4 then v.scriptDone else 0 }

/-- GSCRIPT: an entry written while it heads the script comes to head anew (R168, R169); DESIGN CHOICE, log 57. -/
def gscriptWrite (v : VecRegs) (i : Nat) (x : W) : VecRegs :=
  { v with gscript := v.gscript.set i (scriptWrite x), scriptDone := if fld v.gsctl 0 4 = i then 0 else v.scriptDone }

/-- A user register written. A write of TIME is seen by every hart at once, which is one of the two outcomes that R54 leaves open
for 1 µs; DESIGN CHOICE, log 58. -/
def writeUser (s : State) (n : Nat) (x : W) : State :=
  match n with
  | 0x001 => s.setMe { s.me with fflags := BitVec.ofNat 6 x.toNat }
  | 0x010 => s.setCore (coreOf s.cur) { s.core (coreOf s.cur) with cycle := x }
  | 0x011 => { s with time := x }
  | 0x033 => setVec s fun v => { v with gstat := v.gstat &&& ~~~(x &&& 0xB#64) }
  | 0x035 => setVec s fun v => { v with gctl := x &&& 1#64 }
  | 0x051 => spread (s.setMe { s.me with tapeptr := tapeBits x }) s.cur
  | 0x052 => spread (s.setMe { s.me with tapelim := tapeBits x }) s.cur
  | 0x053 => spread (s.setMe { s.me with tapebase := tapeBits x }) s.cur
  | 0x0A2 => setMyCtx s fun k => { k with tktab := x }
  | _ => if 0x040 ≤ n ∧ n ≤ 0x047 then setMyCtx s fun k => { k with amax := k.amax.set (n - 0x040) (amaxWrite x) } else s

/-- A kernel register written; none: illegal instruction. -/
def writeKernel (s : State) (n : Nat) (x : W) : Option State :=
  match n with
  | 0x100 => some (setTrap s fun t => { t with stat := statWrite t.stat x s.me.priv })
  | 0x101 => some (setTrap s fun t => { t with tbase := baseWrite x })
  | 0x102 => some (setTrap s fun t => { t with epc := setFld x 0 2 0 })
  | 0x103 => some (setTrap s fun t => { t with cause := causeBits x })
  | 0x104 => some (setTrap s fun t => { t with tval := x })
  | 0x105 => some (setTrap s fun t => { t with kscr := x })
  | 0x111 => some (setFlt s fun f => { f with rix := BitVec.ofNat 64 (fld x 0 32) })
  | 0x113 =>
    let s := if bit x 1 then setFlt s fun f => { f with rep := false } else s
    some (if bit x 0 then setVec s fun v => { v with pm := 0 } else s)
  | 0x114 => some (if bit x 63 then setFlt s fun f => { f with lerr := setBit f.lerr 63 false } else s)
  | 0x200 => some (setHartVec s fun v => gsctlWrite v x)
  | 0x202 => some (lanedisWrite s x)
  | 0x204 => some (setHartVec s fun v => { v with vsave := x &&& 0x000FFFFFFFFFF001#64 })
  | 0x220 => atpPut s x
  | 0x221 => some (spread (s.setMe { s.me with lwin := lwinBits x }) s.cur)
  | 0x222 => carveWrite s 0x222 x
  | 0x223 => carveWrite s 0x223 x
  | 0x224 => carveWrite s 0x224 x
  | 0x230 => some (setMyCtx s fun k => { k with equota := x })
  | 0x231 => some (setMyCtx s fun k => { k with erefill := x })
  | 0x232 => some (setMyCtx s fun k => { k with eperiod := BitVec.ofNat 64 (fld x 0 20) })
  | 0x233 => some (setMyCtx s fun k => { k with sweight := BitVec.ofNat 64 (fld x 0 8) })
  | 0x234 => some (setMyCtx s fun k => { k with csave := setBit x 11 false })
  | 0x235 => some (setCallot s s.me.ctx x)
  | 0x250 => some { s with svchart := BitVec.ofNat 11 x.toNat }
  | 0x260 => some { s with prsel := BitVec.ofNat 10 x.toNat }
  | _ => some (if 0x210 ≤ n ∧ n ≤ 0x21F then setHartVec s fun v => gscriptWrite v (n - 0x210) x else s)

/-- PRCTL: the droop cap of the selected region is lifted (R432, R437). -/
def prctlWrite (s : State) (x : W) : State :=
  match selectedRegion s with
  | some i => if bit x 0 then setRegion s i { region s i with droop := false } else s
  | none => s

/-- A firmware register written. -/
def writeFirmware (s : State) (n : Nat) (x : W) : State :=
  match n with
  | 0x800 => setTrap s fun t => { t with ftbase := baseWrite x }
  | 0x801 => setTrap s fun t => { t with fepc := setFld x 0 2 0 }
  | 0x802 => setTrap s fun t => { t with fcause := causeBits x }
  | 0x803 => setTrap s fun t => { t with ftval := x }
  | 0x804 => setTrap s fun t => { t with fscr := x }
  | 0x808 => setTrap s fun t => { t with hraddr := setFld x 0 2 0 }
  | 0x809 => startHart s x
  | 0x910 => prctlWrite s x
  | 0x920 => { s with blksel := x &&& 0x03FFFFFF03FFFFFF#64 }
  | 0x921 => setOwners s x
  | 0x930 => writeDevcfg s x
  | 0x931 => writeHdmsize s x
  | 0x932 => { s with hwbase := x &&& 0x000FFFFFC0000000#64 }
  | 0x933 => settleLocal { s with rtsel := BitVec.ofNat 10 x.toNat }
  | 0x934 => { s with routes := s.routes.set s.rtsel.toNat (BitVec.ofNat 16 x.toNat) }
  | 0x940 => { s with keysel := BitVec.ofNat 10 x.toNat }
  | 0x949 => writeKeyctl s x
  | 0x950 => { s with cxsel := BitVec.ofNat 12 x.toNat }
  | 0x951 => { s with cxaddr := x &&& 0x000FFFFFFFFFF000#64 }
  | 0x952 => writeCxctl s x
  | _ => if 0x941 ≤ n ∧ n ≤ 0x948 then { s with keydat := s.keydat.set (n - 0x941) x } else s

/-- A value written to control register `n`; none: illegal instruction. -/
def csrWrite (s : State) (n : Nat) (x : W) : Option State :=
  if n < 0x100 then some (writeUser s n x) else if n < 0x800 then writeKernel s n x else some (writeFirmware s n x)

/-! ### CRD, CWR, CSET and CCLR (R141) -/

/-- An access to an AMAX register first has the hart's own updates applied (R220). -/
def csrReady (s : State) (n : Nat) : State := if isAmax n then drainAll s s.cur else s

/-- CRD. -/
def execCrd (f : FI) (s : State) : Out :=
  let h := s.me
  let n := f.imm.toNat
  scalar s [f.a.toNat]
    (if farmBars h f.a || !csrAllowed n h.priv false then .trap (illegalCause s)
     else if csrWaits h n then .wait
     else let t := csrReady s n; .ok (t.setMe ((t.me.wr f.a.toNat (csrRead t n)).adv)))

/-- CWR, CSET and CCLR: the old value goes to gd. -/
def csrUpdate (f : FI) (new : W → W → W) (s : State) : Out :=
  let h := s.me
  let n := f.imm.toNat
  scalar s [f.a.toNat, f.b.toNat]
    (if farmBars h f.a || !csrAllowed n h.priv true then .trap (illegalCause s)
     else if h.rdP f.b.toNat then .trap (poisonCause s)
     else if writeWaits h n then .wait
     else
       let s := csrReady s n
       let old := csrRead s n
       match csrWrite s n (new old (h.rd f.b.toNat)) with
       | none => .trap (illegalCause s)
       | some t => .ok (t.setMe ((t.me.wr f.a.toNat old).adv)))

def execCwr (f : FI) (s : State) : Out := csrUpdate f (fun _ a => a) s
def execCset (f : FI) (s : State) : Out := csrUpdate f (fun old a => old ||| a) s
def execCclr (f : FI) (s : State) : Out := csrUpdate f (fun old a => old &&& ~~~a) s

/-! ### Writes as events -/

/-- The write part of a control access by the moving hart, without its instruction: refused as R47 refuses it. -/
def csrEvent (n : Nat) (x : W) (s : State) : Out :=
  let h := s.me
  if h.run ≠ .running ∨ writeWaits h n = true then .next s
  else if !csrAllowed n h.priv true then .next (illegalAt s)
  else match csrWrite (csrReady s n) n x with
    | some t => .next t
    | none => .next (illegalAt s)

/-- CONTROL_REGISTER_WRITE (R12, R47). -/
def execControlRegisterWrite (n : BitVec 12) (x : W) (s : State) : Out := csrEvent n.toNat x s
/-- HRUN (R67). -/
def execHrun (x : W) (s : State) : Out := csrEvent 0x809 x s
/-- ATP_WRITE (R234, R241). -/
def execAtpWrite (x : W) (s : State) : Out := csrEvent 0x220 x s
/-- TIME_WRITE (R54). -/
def execTimeWrite (x : W) (s : State) : Out := csrEvent 0x011 x s
/-- POOL_CARVE_WRITE of PBREG, PBSCR or PBCAC (R228). -/
def execPoolCarveWrite (n : BitVec 12) (x : W) (s : State) : Out :=
  if 0x222 ≤ n.toNat ∧ n.toNat ≤ 0x224 then csrEvent n.toNat x s else .next s
/-- CALLOT_WRITE (R362). -/
def execCallotWrite (x : W) (s : State) : Out := csrEvent 0x235 x s
/-- PSTAT_WRITE (R410, R411). -/
def execPstatWrite (x : W) (s : State) : Out := csrEvent 0x113 x s
/-- DROOP_CLEAR (R437). -/
def execDroopClear (s : State) : Out := csrEvent 0x910 1 s
/-- KEY_LOAD and KEY_ERASE (R454). -/
def execKeyLoad (s : State) : Out := csrEvent 0x949 1 s
def execKeyErase (s : State) : Out := csrEvent 0x949 2 s
/-- CONTEXT_EXPORT and CONTEXT_IMPORT (R462). -/
def execContextExport (s : State) : Out := csrEvent 0x952 1 s
def execContextImport (s : State) : Out := csrEvent 0x952 2 s
/-- BLKOWN_WRITE (R451). -/
def execBlkownWrite (x : W) (s : State) : Out := csrEvent 0x921 x s

end Sys2Proof.Machine
end

