-- ==== Sys2Proof/Machine/DiffCmd.lean ====
section
/-! DEFINITION. DRGN, DMODE, DTAPE, DMARK and DREST (R303 to R314). -/

namespace Sys2Proof.Machine

/-- The entry of a command in a farm loop context of an instruction that a farm does not admit (R303, R306). -/
def notInFarm (c : Cmd) (s : State) (body : CRes) : CRes := if s.me.farm.isSome then .illegal c s else body

/-! ### DRGN (R303) -/

/-- A range of `n` bytes from `b` is canonical and has no byte in the local window (R303). -/
def rangeOk (b n : Nat) : Bool :=
  let last := b + n - 1
  decide (last < 2 ^ 64) && canonical (BitVec.ofNat 64 b) && canonical (BitVec.ofNat 64 last) &&
    decide (fld (BitVec.ofNat 64 b) 55 1 = fld (BitVec.ofNat 64 last) 55 1 ∧ last < 2 ^ 64 - 2 ^ 24)

/-- Two ranges overlap. -/
def overlap (a n b m : Nat) : Bool := decide (a < b + m ∧ b < a + n)

/-- The ranges of the valid slots other than `n`. -/
def otherRanges (k : Context) (n : Nat) : List (Nat × Nat) :=
  (upTo 0 8).flatMap fun j =>
    let (base, adj, pw, cnt) := regionSlot k j
    if j = n ∨ cnt = 0 then [] else [(base, cnt * pw), (adj, 4 * cnt)]

/-- The operands of DRGN make a valid slot (R303). -/
def regionFits (k : Context) (n cnt base adj pw : Nat) : Bool :=
  decide (cnt < 2 ^ 40) && base % pw == 0 && adj % 4 == 0 && rangeOk base (cnt * pw) && rangeOk adj (4 * cnt) &&
    !overlap base (cnt * pw) adj (4 * cnt) &&
    (otherRanges k n).all fun (b, m) => !overlap b m base (cnt * pw) && !overlap b m adj (4 * cnt)

/-- DRGN (R303). -/
def runDrgn (f : FE) (c : Cmd) (s : State) : CRes :=
  let k := s.myCtx
  let n := f.imm.toNat % 8
  let pwc := f.imm.toNat / 8
  let put (base adj size : W) : CRes :=
    .done (s.setCtx s.me.ctx { k with drbase := k.drbase.set n base, dradj := k.dradj.set n adj,
                                      drsize := k.drsize.set n size })
  if s.me.mode ≠ 0 then .illegal c s
  else notInFarm c s
    (if c.gp.any id then .poison c s
     else if c.g 0 = 0 then put 0 0 0
     else if !regionFits k n (c.g 0).toNat (c.g 1).toNat (c.g 2).toNat (2 ^ pwc) then .refuse c s ⟨0x17, c.g 1⟩
     else put (c.g 1) (c.g 2) (BitVec.ofNat 64 (pwc * 2 ^ 40 + (c.g 0).toNat)))
noncomputable def execDrgn (f : FE) (s : State) : Out :=
  issue s (.drgn f) [f.a.toNat, f.b.toNat, f.c.toNat] none (runDrgn f)

/-! ### DMODE, DTAPE, DMARK, DREST (R305 to R314) -/

/-- DMODE: the queue is empty when it runs, and memory is one order, so its fence has no further effect (R305). -/
def runDmode (f : FI) (c : Cmd) (s : State) : CRes :=
  notInFarm c s
    (.done (putG c (s.setMe { s.me with mode := BitVec.ofNat 2 f.imm.toNat }) f.a (s.me.mode.setWidth 64)))
noncomputable def execDmode (f : FI) (s : State) : Out := issue s (.dmode f) [] none (runDmode f)

/-- DTAPE (R308). -/
def runDtape (f : FS) (c : Cmd) (s : State) : CRes :=
  let lo := c.g 0
  let hi := c.g 1
  if s.me.mode ≠ 0 then .illegal c s
  else notInFarm c s
    (if c.gp.any id then .poison c s
     else if canonical lo && canonical hi && lo.toNat % 16 == 0 && hi.toNat % 16 == 0 && decide (lo.toNat ≤ hi.toNat) then
       .done (putG c (s.setMe { s.me with tapebase := lo, tapeptr := lo, tapelim := hi }) f.a 0)
     else .done (putG c s f.a 1))
noncomputable def execDtape (f : FS) (s : State) : Out := issue s (.dtape f) [f.b.toNat, f.c.toNat] none (runDtape f)

/-- DMARK (R313). -/
def runDmark (f : FI) (c : Cmd) (s : State) : CRes :=
  notInFarm c s
    (match appendTape s .vector (markWords f.imm.toNat) [] with
     | .error ca => .refuse c s ca
     | .ok t => .done (putG c t f.a t.me.tapeptr))
noncomputable def execDmark (f : FI) (s : State) : Out := issue s (.dmark f) [] none (runDmark f)

/-- A dword of a trailer, loaded for DREST; a marked one counts with the value it holds; DESIGN CHOICE, log 18. -/
def loadDword (s : State) (va : W) : Except Cause (Nat × State) :=
  match xlateMe s .vector .load va 8 with
  | .error c => .error c
  | .ok p => .ok (loadAt p.st p.phys 8, p.st)

/-- A trailer that R314 refuses: a reserved bit, or a record whose counts disagree. -/
def badTrailer (x : Nat) : Bool :=
  nfld x 44 20 != 0 || nfld x 27 4 != 0 ||
    (!nbit x 31 && (nfld x 16 8 == 0 || decide (64 < nfld x 16 8) ||
      nfld x 0 16 != cdiv (nfld x 16 8 * 2 ^ nfld x 24 3) 16))

/-- One element put back: its old value from the data part (R314), which carries its poison; DESIGN CHOICE, log 13.
Misalignment is a cause of R123. -/
def restoreOne (s : State) (src dst : W) (w : Nat) : Except Cause State :=
  if dst.toNat % w ≠ 0 then .error ⟨0x06, dst⟩
  else match xlateMe s .vector .load src w with
    | .error c => .error c
    | .ok p =>
      let x := loadAt p.st p.phys w
      match xlateMe p.st .vector .store dst w with
      | .error c => .error c
      | .ok q => .ok (copyAt q.st q.phys (leBytes w x) (marked q.st p.phys.loc w))

/-- The positions `n − 1` down to 0 of a record put back; a cause keeps what was put back before (R314). -/
def restoreAll (start addr stride : W) (mask w : Nat) : Nat → State → State × Option Cause
  | 0, s => (s, none)
  | j + 1, s =>
    if nbit mask j then
      match restoreOne s (start + BitVec.ofNat 64 (j * w)) (addr + BitVec.ofNat 64 j * stride) w with
      | .error c => (s, some c)
      | .ok t => restoreAll start addr stride mask w j t
    else restoreAll start addr stride mask w j s

/-- How a pop ends. -/
inductive Pop where
  | popped (s : State)
  | status (s : State) (st : Nat)
  | cause (s : State) (c : Cause)

/-- One record popped (R314). -/
def popOne (s : State) (t : W) : Pop :=
  let tp := s.me.tapeptr
  let at_ (o : Nat) : W := tp - 32 + BitVec.ofNat 64 o
  match loadDword s (at_ 0) with
  | .error c => .cause s c
  | .ok (addr, s1) => match loadDword s1 (at_ 8) with
    | .error c => .cause s1 c
    | .ok (stride, s2) => match loadDword s2 (at_ 16) with
      | .error c => .cause s2 c
      | .ok (mask, s3) => match loadDword s3 (at_ 24) with
        | .error c => .cause s3 c
        | .ok (tr, s4) =>
          let size := 32 + 16 * nfld tr 0 16
          if badTrailer tr || decide (tp.toNat < s4.me.tapebase.toNat + size) then .status s4 3
          else
            let start := tp - BitVec.ofNat 64 size
            if start.toNat < t.toNat then .status s4 2
            else
              let (s5, c) := if nbit tr 31 then (s4, none)
                else restoreAll start (BitVec.ofNat 64 addr) (BitVec.ofNat 64 stride) mask (2 ^ nfld tr 24 3)
                  (nfld tr 16 8) s4
              match c with
              | some c => .cause s5 c
              | none => .popped (s5.setMe { s5.me with tapeptr := start })

/-- Records popped until TAPEPTR reaches `t`; each takes at least 32 bytes, so `n` bounds them (R314). -/
def popAll (t : W) : Nat → Nat → State → Pop × Nat
  | 0, k, s => (.status s 0, k)
  | n + 1, k, s =>
    if s.me.tapeptr.toNat ≤ t.toNat then (.status s 0, k)
    else match popOne s t with
      | .popped s => popAll t n (k + 1) s
      | r => (r, k)

/-- DREST (R314). -/
def runDrest (f : FI) (c : Cmd) (s : State) : CRes :=
  let t := c.g 0
  let h := s.me
  notInFarm c s
    (if c.gp.any id then .poison c s
     else if t.toNat % 16 ≠ 0 ∨ t.toNat < h.tapebase.toNat ∨ h.tapeptr.toNat < t.toNat then .done (putG c s f.a 1)
     else match popAll t ((h.tapeptr.toNat - t.toNat) / 32 + 1) 0 s with
       | (.cause u ca, _) => .refuse c u ca
       | (.status u st, k) => .done (putG c u f.a (BitVec.ofNat 64 (st + k * 65536)))
       | (.popped u, k) => .done (putG c u f.a (BitVec.ofNat 64 (k * 65536))))
noncomputable def execDrest (f : FI) (s : State) : Out := issue s (.drest f) [f.b.toNat] none (runDrest f)

end Sys2Proof.Machine
end

