-- ==== Sys2Proof/Machine/Engines.lean ====
section
/-! DEFINITION. Block transfers (R336 to R345, R371 to R374): the commands, their chunks, and their retirement. -/

namespace Sys2Proof.Machine

/-! ### Moving bytes -/

/-- One side of a transfer: window addresses only, or any. -/
structure Side where
  win : Bool
  kind : Kind
deriving DecidableEq, Repr

/-- An engine access for the loop context that asked for the transfer, under ATP as it stood at decode (R234, R337, R344, R373);
DEDUCED, log 21. The mode that makes a region's bytes a conflict is that of the hart as the byte moves (R305, R318); DEDUCED,
log 16. -/
def xferPlace (s : State) (x : Xfer) (sd : Side) (va : W) (w : Nat) : Except Cause Placed :=
  if sd.win && !inWindow va then .error ⟨0x0F, va⟩
  else match xlate (withAtp s x.ctx x.atp) x.hart x.ctx x.priv.toNat .engine sd.kind va w with
    | .error c => .error c
    | .ok p =>
      let p := { p with st := withAtp p.st x.ctx (s.ctx x.ctx).atp }
      if sd.kind == .store && (s.hart x.hart).mode != 0 && (regionAt (s.ctx x.ctx) va w).isSome then .error (conflict va)
      else .ok p

/-- The cause of the byte at a pair of addresses, source first. -/
def byteCause (s : State) (x : Xfer) (a b : Side) (src dst : W) : Option Cause :=
  match xferPlace s x a src 1 with
  | .error c => some c
  | .ok _ =>
    match xferPlace s x b dst 1 with
    | .error c => some c
    | .ok _ => none

/-- `n` bytes copied, within one 64-byte line of either side, with their marks (R408); a cause copies nothing. -/
def moveLine (s : State) (x : Xfer) (a b : Side) (src dst : W) (n : Nat) : Except Cause State :=
  match xferPlace s x a src n with
  | .error c => .error c
  | .ok p =>
    match xferPlace p.st x b dst n with
    | .error c => .error c
    | .ok q =>
      let t := q.st
      let marks := (upTo 0 n).filter fun i => marked t (p.phys.loc + i) 1
      let u := storeAt t q.phys (leBytes n (loadAt t p.phys n)) none
      .ok (if blockDark t q.phys.loc then u
           else { u with marks := marks.foldl (fun m i => insertNat ((q.phys.loc + i) / 4) m) u.marks })

/-- `n` bytes copied in ascending order up to the first byte that has a cause: the bytes before it are copied, and
the answer gives its offset from `o` (R341). -/
def moveBytes (x : Xfer) (a b : Side) : Nat → State → W → W → Nat → Nat → State × Option (Nat × Cause)
  | 0, s, _, _, _, _ => (s, none)
  | k + 1, s, src, dst, n, o =>
    if n = 0 then (s, none)
    else
      let m := min n (min (64 - src.toNat % 64) (64 - dst.toNat % 64))
      match moveLine s x a b src dst m with
      | .ok t => moveBytes x a b k t (src + BitVec.ofNat 64 m) (dst + BitVec.ofNat 64 m) (n - m) (o + m)
      | .error c =>
        let at_ (i : Nat) := byteCause s x a b (src + BitVec.ofNat 64 i) (dst + BitVec.ofNat 64 i)
        let g := (findUp (fun i => (at_ i).isSome) 0 m).getD 0
        let t := match (if g = 0 then .error c else moveLine s x a b src dst g) with
          | .ok t => t
          | .error _ => s
        (t, some (o + g, (at_ g).getD c))

/-! ### Shapes of transfers (R373) -/

/-- Whether the transfer is of rows. -/
def Xfer.rowForm (x : Xfer) : Bool := x.kind == .gather || x.kind == .scatter

/-- S(u) and D(u). -/
def Xfer.from_ (x : Xfer) (u : Nat) : W :=
  match x.kind with
  | .gather => x.mem + x.rows.getD u 0 * x.sstr
  | .copy => x.mem + BitVec.ofNat 64 u * x.sstr
  | _ => x.win + BitVec.ofNat 64 (u * x.pitch)
def Xfer.to_ (x : Xfer) (u : Nat) : W :=
  match x.kind with
  | .gather => x.win + BitVec.ofNat 64 (u * x.pitch)
  | .scatter => x.mem + x.rows.getD u 0 * x.sstr
  | .scatterStream => x.mem + BitVec.ofNat 64 u * x.sstr
  | .copy => x.win + BitVec.ofNat 64 u * x.dstr

/-- The sides of a transfer: which one must lie in the local window. -/
def Xfer.srcSide (x : Xfer) : Side := ⟨x.kind == .scatter || x.kind == .scatterStream, .load⟩
def Xfer.dstSide (x : Xfer) : Side := ⟨x.kind == .gather, .store⟩

/-- One unit moved. -/
def moveUnit (s : State) (x : Xfer) (u : Nat) : State × Option (Nat × Cause) :=
  moveBytes x x.srcSide x.dstSide (2 * (x.rb / 64 + 2)) s (x.from_ u) (x.to_ u) x.rb 0

/-- Records of chunk `j` of a stream. -/
def Xfer.records (x : Xfer) (j : Nat) : List Nat :=
  let n := 2 ^ x.chl
  upTo (j * n) (min ((j + 1) * n) x.count - j * n)

/-- Bytes of chunk `j`. -/
def Xfer.chunkBytes (x : Xfer) (j : Nat) : Nat := if x.rowForm then x.rb else (x.records j).length * x.rb

/-- The records of a list moved in order, up to a cause: its stream position. -/
def moveRecords (x : Xfer) : List Nat → State → State × Option (Nat × Cause)
  | [], s => (s, none)
  | u :: r, s =>
    match moveUnit s x u with
    | (t, none) => moveRecords x r t
    | (t, some (o, c)) => (t, some (u * x.rb + o, c))

/-- The chunks of a stream from `next` to `j` moved, in order (R341). The transfer answers what has become of it: at
a cause the stream ends, and its remaining chunks are never reached. -/
def advance : Nat → State → Xfer → Nat → State × Xfer
  | 0, s, x, _ => (s, x)
  | k + 1, s, x, j =>
    if x.next ≤ j ∧ x.next < x.total then
      match moveRecords x (x.records x.next) s with
      | (t, none) => advance k t { x with left := x.left ++ [x.next], next := x.next + 1 } j
      | (t, some (f, c)) => (t, { x with next := x.total, done := f, cause := c.code, addr := c.tval })
    else (s, x)

/-! ### Chunks (R338, R345, R374) -/

def State.xfer? (s : State) (id : Nat) : Option Xfer := s.xfers.find? (·.id == id)
def State.setXfer (s : State) (x : Xfer) : State :=
  { s with xfers := s.xfers.map fun y => if y.id == x.id then x else y }

/-- Chunk `j` has completed: its mask bit, when its position lies in the capacity, and its credit. -/
def chunkDone (s : State) (x : Xfer) (j : Nat) : State :=
  let h := s.hart x.hart
  let s := match x.cm with
    | some m =>
      if j < h.vec.cap then s.setHart x.hart { h with vec := writeMask h.vec m.toNat [(j, true)] } else s
    | none => s
  match x.slot with
  | some loc => creditSlot s loc (x.chunkBytes j)
  | none => s

/-- A command that reads or writes the mask register of a transfer is running (R345). -/
def maskHeld (s : State) (x : Xfer) : Bool := x.cm.any fun m => waitHolds s x.hart m.toNat

/-- A chunk leaves a transfer in hand. -/
def Xfer.drop (x : Xfer) (j : Nat) : Xfer := { x with left := x.left.filter (· != j), moved := x.moved.filter (· != j) }

/-- A row moved with one translation for each page (R337): `s` as it was where the row has a cause. -/
def rowMove (s : State) (x : Xfer) (j : Nat) : State × Option Cause :=
  if x.bad.contains j then (s, some ⟨0x1A, if x.kind == .gather then x.from_ j else x.to_ j⟩)
  else match moveUnit { s with pin := some [] } x j with
    | (t, none) => ({ t with pin := none }, none)
    | (_, some (_, c)) => (s, some c)

/-- One row of a transfer, as its chunk completes or ends in its cause (R342). While the completion bit is held back the bytes
move all the same (R345). -/
def rowStep (s : State) (x : Xfer) (j : Nat) : State :=
  let finish (t : State) : State :=
    let y := { x.drop j with done := x.done + 1 }
    chunkDone (t.setXfer y) y j
  if !x.left.contains j then s
  else if x.moved.contains j then (if maskHeld s x then s else finish s)
  else match rowMove s x j with
    | (t, none) => if maskHeld s x then t.setXfer { x with moved := x.moved ++ [j] } else finish t
    | (_, some c) =>
      let y := x.drop j
      s.setXfer (if x.cause = 0 ∨ j < x.frow then { y with frow := j, cause := c.code, addr := c.tval } else y)

/-- The bytes of a stream moved up to chunk `j`. A page is translated when the stream first reaches it, and keeps that
translation (R337, R341). -/
def streamMove (s : State) (x : Xfer) (j : Nat) : State × Xfer :=
  if x.next ≤ j then
    let (t, y) := advance x.total { s with pin := some x.pages } x j
    ({ t with pin := none }, { y with pages := t.pin.getD [] })
  else (s, x)

/-- One chunk of a transfer, as it completes or ends in its cause (R341, R342). -/
def chunkStep (s : State) (x : Xfer) (j : Nat) : State :=
  if x.rowForm then rowStep s x j
  else
    let (t, y) := streamMove s x j
    if y.left.contains j && !maskHeld s x then chunkDone (t.setXfer (y.drop j)) y j else t.setXfer y

/-- CHUNK_COMPLETE: chunk `j` of transfer `x`, in any order (R337, R338). -/
def execChunkComplete (x j : Nat) (s : State) : Out :=
  match s.xfer? x with
  | some t => .next (if j < t.total ∧ ¬ t.owing then chunkStep s t j else s)
  | none => .next s

/-! ### Retirement (R339, R343, R374) -/

/-- Every chunk has completed or ended in a cause. -/
def Xfer.ended (x : Xfer) : Bool := !x.owing && x.left.isEmpty && decide (x.rowForm ∨ x.total ≤ x.next)

/-- The completion word (R339). -/
def Xfer.word (x : Xfer) : W :=
  let done := if !x.rowForm && x.cause == 0 then x.count * x.rb else x.done
  BitVec.ofNat 64 (x.cause * 2 ^ 56 + (if x.cause = 0 ∨ !x.rowForm then 0 else x.frow % 65536 * 2 ^ 40) + done % 2 ^ 40)

def State.dropXfer (s : State) (id : Nat) : State := { s with xfers := s.xfers.filter (·.id != id) }

/-- The token of a transfer deposited, then its signal and its event; none: the drawer is full. -/
def payXfer (s : State) (x : Xfer) : Option State :=
  let paid := match x.push with
    | some q => deposit (s.hart x.hart) q 1
    | none => some (s.hart x.hart)
  paid.map fun h => lastActs ((s.setHart x.hart h).dropXfer x.id) x

/-- The completion word of a transfer put into g[r] (R339): in a strip farm g24 to g31 are shared, and the word reaches every loop
context of the farm (R176, R365). -/
def putWord (s : State) (x : Xfer) (r : Nat) : State :=
  let take (h : Hart) : Hart := { h.wr r x.word with gwait := h.gwait.erase r }
  match (s.hart x.hart).farm with
  | some (o, _) =>
    if 24 ≤ r then { s with harts := s.harts.map fun (n, h) => (n, if h.farm.any (·.1 == o) then take h else h) }
    else s.setHart x.hart (take (s.hart x.hart))
  | none => s.setHart x.hart (take (s.hart x.hart))

/-- A transfer retires: its word, its token, its signal and its event, in that order. Where the drawer is full all that
follows waits for room (R346). -/
def retireXfer (s : State) (x : Xfer) : State :=
  let s := match x.gd with
    | some r => putWord s x r
    | none => s
  (payXfer s x).getD (s.setXfer { x with owing := true })

/-- TRANSFER_RETIRE. -/
def execTransferRetire (x : Nat) (s : State) : Out :=
  match s.xfer? x with
  | some t => .next (if t.ended then retireXfer s t else s)
  | none => .next s

/-- The next move of an engine on a transfer, when it has one: a chunk, retirement, or a deposit that waited. -/
def xferStep (s : State) (x : Xfer) : Option State :=
  if x.owing then payXfer s x
  else if x.ended then some (retireXfer s x)
  else
    let held := maskHeld s x
    let next := if x.rowForm then x.left.find? fun j => !(held && x.moved.contains j)
      else if !held && !x.left.isEmpty then x.left.head? else if x.next < x.total then some x.next else none
    next.map (chunkStep s x)

/-- The first transfer that can move. -/
def engineStep (s : State) : Option State := s.xfers.findSome? (xferStep s)

/-! ### BXG, BXC and BXS (R371 to R374) -/

/-- The barrier slot's address in D4. -/
def badrOf (d4 : W) : W := sext64 56 (fld d4 4 52 * 16)

/-- A descriptor that R372 allows. -/
def descriptorOk (row : Bool) (f : FE) (c : Cmd) : Bool :=
  let rb := fld (c.g 2) 0 17
  decide (1 ≤ rb ∧ rb ≤ 65536) && fld (c.g 2) 36 4 == 0 && fld (c.g 2) 17 15 == 0 && (row || fld (c.g 2) 40 24 != 0) &&
    ((f.imm.getLsbD 2 = false && f.imm.getLsbD 3 = false) || fld (c.g 4) 0 4 == 0)

/-- The barrier slot that a transfer credits, fixed once at dispatch (R374); none asked for: no slot. -/
def creditPlace (f : FE) (c : Cmd) (s : State) : Except Cause (State × Option Nat) :=
  match c.credit with
  | some slot => .ok (s, slot)
  | none =>
    if f.imm.getLsbD 2 = false then .ok (s, none)
    else
      let va := badrOf (c.g 4)
      match slotPlace s .store va with
      | .error ca => .error ca
      | .ok p => if slotHome va p.phys then .ok (p.st, some p.phys.loc) else .error ⟨0x0F, va⟩

/-- The mask register that a transfer command names (R371). -/
def maskNamed (f : FE) : Option Bool :=
  match f.imm.toNat % 4 with
  | 1 => some false
  | 2 => some true
  | _ => none

/-- A transfer command (R374). Its mask is cleared between commands of the V queue, so it waits while one holds that (R335). -/
def transfer (kind : XKind) (f : FE) (c : Cmd) (s : State) : CRes :=
  let row := kind == .gather || kind == .scatter
  let v := s.me.vec
  if row && v.lay.sew != 32 && v.lay.sew != 64 then .illegal c s
  else checked c s none
    (if c.gp.any id then .poison c s
     else if !descriptorOk row f c then .illegal c s
     else match creditPlace f c s with
       | .error ca => .refuse c s ca
       | .ok (s, slot) =>
         if (maskNamed f).any fun m => waitHolds s s.cur m.toNat then .wait s { c with credit := some slot }
         else withPop f 2 { c with credit := some slot } s fun s =>
         let count := fld (c.g 2) 40 24
         let chl := fld (c.g 2) 32 4
         let rb := fld (c.g 2) 0 17
         let n := if row then v.vl else cdiv count (2 ^ chl)
         let cm := maskNamed f
         let s := match cm with
           | some m => clearBits s m (min n v.cap)
           | none => s
         let gd := if f.a = 0 then none else some f.a.toNat
         let s := s.setMe { s.me with gwait := s.me.gwait ++ gd.toList }
         let x : Xfer :=
           { id := s.fresh, hart := s.cur, ctx := s.me.ctx, priv := c.priv, atp := c.atp, kind := kind, mem := c.g 0, win := c.g 1, rb := rb,
             sstr := sext64 32 (c.g 3).toNat, dstr := sext64 32 (fld (c.g 3) 32 32), pitch := cdiv rb 64 * 64,
             rows := if row then (upTo 0 n).map fun u => BitVec.ofNat 64 (elemGet v v.lay f.b.toNat u) else [],
             bad := if row then (upTo 0 n).filter (elemPoison v v.lay f.b.toNat) else [],
             count := count, chl := chl, left := if row then upTo 0 n else [], moved := [], next := 0, total := n, cm := cm,
             slot := slot, gd := gd, push := if f.push = 0 then none else some 2,
             task := if f.imm.getLsbD 3 then some (fld (c.g 4) 56 8) else none, owing := false, kgat := false, pages := [],
             done := 0, frow := 0, cause := 0, addr := 0 }
         let t := s.addXfer x
         .done (if x.ended then retireXfer t x else t))

def runBxg (f : FE) (c : Cmd) (s : State) : CRes := transfer .gather f c s
noncomputable def execBxg (f : FE) (s : State) : Out := issue s (.bxg f) (descRegs f) none (runBxg f)
def runBxc (f : FE) (c : Cmd) (s : State) : CRes := transfer .copy f c s
noncomputable def execBxc (f : FE) (s : State) : Out := issue s (.bxc f) (descRegs f) none (runBxc f)
def runBxsRow (f : FE) (c : Cmd) (s : State) : CRes := transfer .scatter f c s
noncomputable def execBxsRow (f : FE) (s : State) : Out := issue s (.bxsRow f) (descRegs f) none (runBxsRow f)
def runBxsStream (f : FE) (c : Cmd) (s : State) : CRes := transfer .scatterStream f c s
noncomputable def execBxsStream (f : FE) (s : State) : Out := issue s (.bxsStream f) (descRegs f) none (runBxsStream f)

end Sys2Proof.Machine
end

