-- ==== Sys2Proof/Machine/Matrix.lean ====
section
/-! DEFINITION. Matrix tiles (R203 to R212) and log arithmetic (R213, R214). -/

namespace Sys2Proof.Machine

/-! ### Groups (R88 to R91) -/

/-- A source element of a cell: its pattern, the exponent of its block scale (none: the byte was 0xFF), and its
poison. -/
structure SEl where
  x : Nat
  k : Option Int
  p : Bool
deriving DecidableEq, Repr

/-- A zero that stands for an inactive or missing product. -/
def SEl.zero : SEl := ⟨0, some 0, false⟩

/-- The exact value of a source element (R86). -/
def SEl.val (code : Nat) (e : SEl) : Num :=
  match e.k with
  | none => .nan
  | some k => (readFlt code e.x).scale k

/-- The finite nonzero products: sign, significand and exponent. -/
def finites (ps : List Num) : List (Bool × Nat × Int) :=
  ps.filterMap fun p => match p with
    | .fin s m e _ => some (s, m, e)
    | _ => none

/-- The group value of exact products (R89). -/
def groupSum (ps : List Num) : Num × Flags :=
  if ps.contains .nan then (.nan, 0)
  else if ps.contains (.inf false) && ps.contains (.inf true) then (.nan, fIV)
  else if ps.contains (.inf false) then (.inf false, 0)
  else if ps.contains (.inf true) then (.inf true, 0)
  else match (finites ps).map fun (_, m, e) => (m.log2 : Int) + e with
    | [] => (.zero false, 0)
    | e0 :: es =>
      let u := es.foldl max e0 - 27
      let q (m : Nat) (e : Int) : Nat := if u ≤ e then m * 2 ^ (e - u).toNat else m / 2 ^ (u - e).toNat
      let sum : Int := (finites ps).foldl (fun acc (s, m, e) => if s then acc - q m e else acc + q m e) 0
      (Num.mk (decide (sum < 0)) sum.natAbs u, 0)

/-- The group value of L6 products (R91). -/
def groupLog (ps : List (Nat × Nat)) : Num :=
  let isNaL (x : Nat) : Bool := nfld x 0 6 == 32
  if ps.any fun (a, b) => isNaL a || isNaL b then .nan
  else
    let sum : Int := ps.foldl (fun acc (a, b) =>
      if nfld a 0 5 = 0 ∨ nfld b 0 5 = 0 then acc
      else
        let q : Int := (nfld a 0 5 : Int) + nfld b 0 5 - 32
        let t : Int := logTab (q % 4).toNat * 2 ^ (q / 4 + 8).toNat
        if nbit a 5 != nbit b 5 then acc - t else acc + t) 0
    Num.mk (decide (sum < 0)) sum.natAbs (-24)

/-- The group value of eight pairs in the class of the format word, and its poison. -/
def groupOf (f : FW) (ps : List (SEl × SEl)) : (Num × Flags) × Bool :=
  let p := ps.any fun (a, b) => a.p || b.p
  if f.src1 = 12 then ((groupLog (ps.map fun (a, b) => (a.x, b.x)), 0), p)
  else
    let prods := ps.map fun (a, b) => mulNum (a.val f.src1) (b.val f.src2)
    let (g, fl) := groupSum (prods.map (·.1))
    ((g, prods.foldl (fun acc e => acc ||| e.2) fl), p)

/-- The last line of R89 and R91: one rounding to FP32. -/
def accumulate (f : FW) (acc : Part) (g : (Num × Flags) × Bool) : Part × Flags :=
  let (r, fl) := partAdd { f with rm := 0, dst := 10 } acc (g.1.1.scale f.ts) g.2
  (r, if r.2 then 0 else fl ||| g.1.2)

/-- A group value rounded alone to FP32 (R211). -/
def leafOf (f : FW) (g : (Num × Flags) × Bool) : Part × Flags :=
  let (r, fl) := partOf { f with rm := 0, dst := 10 } (g.1.1.scale f.ts) g.2
  (r, if r.2 then 0 else fl ||| g.1.2)

/-! ### Tiles (R203 to R206) -/

/-- NR of R203. -/
def rowsOf (w : Nat) : Nat := w / 4

/-- Element `e` of the A register, scaled by the register after it (R204, R205). -/
def elemA (v : VecRegs) (scl : Bool) (r e : Nat) : SEl :=
  ⟨elemGet v v.lay r e, if scl then blockScale v (r + 1) e else some 0,
    elemPoison v v.lay r e || (scl && elemPoison v ⟨8, 1⟩ (r + 1) (e / 32))⟩

/-- Column `n` of row `k` of a tile at `t` (R204, R205). -/
def elemT (v : VecRegs) (scl : Bool) (t k n : Nat) : SEl :=
  let j := 8 * (n / 32) + k
  let x := scaleByte v (t + 8) j
  ⟨elemGet v v.lay (t + k) n, if scl then (if x = 255 then none else some ((x : Int) - 127)) else some 0,
    elemPoison v v.lay (t + k) n || (scl && elemPoison v ⟨8, 1⟩ (t + 8) j)⟩

/-- The place of accumulator cell (r, n): register and lane (R204). -/
def cellAt (p c r n : Nat) : Nat × Nat := (c + r * p + n % p, n / p)

/-- The FP32 value of a lane word, and its poison. -/
def wordPart (v : VecRegs) (at_ : Nat × Nat) : Part :=
  (laneWord v at_.1 at_.2, (v.vpois.get 0 at_.1).getLsbD at_.2)

/-- Lane words written with results. -/
def putParts (s : State) (ws : List ((Nat × Nat) × Part × Flags)) : CRes :=
  let h := s.me
  let v := ws.foldl (fun v ((r, l), x, _) =>
    let w := wordPut v r l 0 32 x.1
    if v.vpois.isEmpty && !x.2 then w else poisonPut w r l x.2) h.vec
  let fl : Flags := ws.foldl (fun a (_, _, e) => a ||| e) 0
  .done (s.setMe ({ h with vec := v }.addFlags fl))

/-- The checks of R203 and R205 on the format word: `b` and `t` are the scale registers of fields B and C. -/
def matrixOk (v : VecRegs) (w : W) (b t : Nat) : Bool :=
  let f := FW.of w
  (fwGroup w || fwLogSum w) && v.lay.sew == storageWidth f.src1 && v.lay.g == 1 &&
    (!f.scl1 || decide (b ≤ 31)) && (!f.scl2 || decide (t ≤ 31))

/-- One accumulator row of a DOT or OUT product: A elements `ea`, tile rows in order (R208 to R210). -/
def productRow (f' : FW) (v : VecRegs) (f : FV) (cols ea : List Nat) (r : Nat) : List ((Nat × Nat) × Part × Flags) :=
  let a := ea.map (elemA v f'.scl1 f.b.toNat)
  cols.map fun n =>
    let b := (upTo 0 8).map fun k => elemT v f'.scl2 f.c.toNat k n
    let at_ := cellAt v.lay.p f.a.toNat r n
    let (x, fl) := accumulate f' (wordPart v at_) (groupOf f' (a.zip b))
    (at_, x, fl)

/-- VMMAD: A elements 8r to 8r + 7 for row r (R209). -/
def runVmmad (f : FV) (c : Cmd) (s : State) : CRes :=
  let v := s.me.vec
  let f' := FW.of c.fw
  let cols := c.acts v f.msk
  checked c s (some (matrixOk v c.fw (f.b.toNat + 1) (f.c.toNat + 8)))
    (putParts s ((upTo 0 (rowsOf v.lay.sew)).flatMap fun r =>
      if 8 * r + 7 < v.cap then productRow f' v f cols (upTo (8 * r) 8) r else []))
noncomputable def execVmmad (f : FV) (s : State) : Out := issue s (.vmmad f) [] (some f.fs) (runVmmad f)

/-- VMMAO: A elements q, 8 + q, to 56 + q for row q (R210). -/
def runVmmao (f : FV) (c : Cmd) (s : State) : CRes :=
  let v := s.me.vec
  let f' := FW.of c.fw
  let cols := c.acts v f.msk
  checked c s (some (matrixOk v c.fw (f.b.toNat + 1) (f.c.toNat + 8)))
    (putParts s ((upTo 0 (rowsOf v.lay.sew)).flatMap fun q =>
      if 56 + q < v.cap then productRow f' v f cols ((upTo 0 8).map fun r => 8 * r + q) q else []))
noncomputable def execVmmao (f : FV) (s : State) : Out := issue s (.vmmao f) [] (some f.fs) (runVmmao f)

/-- The base-2 log of the leaves of a cluster, 4P (R211). -/
def leafDepth (p : Nat) : Nat := (4 * p).log2

/-- One result value D(r, k) of VMMAR (R211). -/
def reduceCell (f' : FW) (v : VecRegs) (f : FV) (act : Nat → Bool) (r k : Nat) : Option (Part × Flags) :=
  let p := v.lay.p
  let leaf (j : Nat) : Option Part × Flags :=
    if ((upTo (8 * j) 8).any act) then
      let (x, fl) := leafOf f' (groupOf f' ((upTo (8 * j) 8).map fun n =>
        if act n then (elemT v f'.scl1 f.b.toNat r n, elemT v f'.scl2 f.c.toNat k n) else (SEl.zero, SEl.zero)))
      (some x, fl)
    else (none, 0)
  let g := { f' with rm := 0, dst := 10 }
  let cluster (z : Nat) : Option Part × Flags :=
    let (w, fl) := gather ((upTo (4 * p * z) (4 * p)).map leaf)
    let (t, fl') := tree (partJoin g) (leafDepth p) w
    (t, fl ||| fl')
  let (z, fl) := gather ((upTo 0 16).map cluster)
  let (t, fl') := tree (partJoin g) 4 z
  match t with
  | none => none
  | some t =>
    let (x, fl'') := partAdd g (wordPart v (f.a.toNat + k, r)) (readFlt 10 t.1) t.2
    some (x, fl ||| fl' ||| fl'')

/-- VMMAR (R211). -/
def runVmmar (f : FV) (c : Cmd) (s : State) : CRes :=
  let v := s.me.vec
  let f' := FW.of c.fw
  let act (n : Nat) : Bool := decide (c.resume ≤ n ∧ n < v.vl) && mkPermits v f.msk n
  checked c s (some (matrixOk v c.fw (f.b.toNat + 8) (f.c.toNat + 8)))
    (putParts s ((upTo 0 (rowsOf v.lay.sew)).flatMap fun r =>
      if r < v.lanes then
        (upTo 0 8).filterMap fun k => (reduceCell f' v f act r k).map fun (x, fl) => ((f.a.toNat + k, r), x, fl)
      else []))
noncomputable def execVmmar (f : FV) (s : State) : Out := issue s (.vmmar f) [] (some f.fs) (runVmmar f)

/-! ### Structured-sparse tiles (R212) -/

/-- The subsets of size `k` of the `n` numbers from `lo` up, in ascending lexicographic order. -/
def subsets : Nat → Nat → Nat → List (List Nat)
  | _, _, 0 => [[]]
  | 0, _, _ + 1 => []
  | n + 1, lo, k + 1 => (subsets n (lo + 1) k).map (lo :: ·) ++ subsets n (lo + 1) (k + 1)

/-- The pattern of block `u` under a kind, and the logical k of each of its stored values; none: invalid. -/
def patternOf (kind m u : Nat) : Option (List Nat) :=
  match kind with
  | 0 => ((subsets 4 0 2)[nfld m (3 * u) 3]?).map fun l => l.map (4 * u + ·)
  | 1 => some [4 * u + nfld m (2 * u) 2]
  | _ => ((subsets 8 0 4)[nfld m (7 * u) 7]?).map fun l => l.map (8 * u + ·)

/-- The logical k of stored values 0 to 7 under the metadata word; none: some block's pattern is invalid. -/
def sparseK (kind m : Nat) : Option (List Nat) :=
  let n := match kind with | 0 => 4 | 1 => 8 | _ => 2
  ((upTo 0 n).mapM (patternOf kind m)).map List.flatten

/-- The layout of the metadata words (R212). -/
def metaLay (p : Nat) : Lay := ⟨16, max 1 (p / 2)⟩

/-- One cell of VMMAS. -/
def sparseCell (f' : FW) (v : VecRegs) (f : FV) (r n : Nat) : (Nat × Nat) × Part × Flags :=
  let kind := f.msk.toNat
  let bigK := if kind = 1 then 32 else 16
  let ml := metaLay v.lay.p
  let q := elemPoison v ml (f.c.toNat + 8) n
  let at_ := cellAt v.lay.p f.a.toNat r n
  match sparseK kind (elemGet v ml (f.c.toNat + 8) n) with
  | none => (at_, (0x7FC00000, q), if q then 0 else fIV)
  | some ks =>
    let ps := ks.zip (upTo 0 8) |>.map fun (k, st) =>
      (elemA v f'.scl1 f.b.toNat (bigK * r + k), elemT v false f.c.toNat st n)
    let (g, p) := groupOf f' ps
    let (x, fl) := accumulate f' (wordPart v at_) (g, p || q)
    (at_, x, fl)

/-- VMMAS (R212). -/
def runVmmas (f : FV) (c : Cmd) (s : State) : CRes :=
  let v := s.me.vec
  let f' := FW.of c.fw
  let bigK := if f.msk.toNat = 1 then 32 else 16
  checked c s (some (matrixOk v c.fw (f.b.toNat + 1) 0 && !f'.scl2))
    (putParts s ((upTo 0 (rowsOf v.lay.sew)).flatMap fun r =>
      if bigK * r + bigK - 1 < v.cap then (c.belowVl v).map fun n => sparseCell f' v f r n else []))
noncomputable def execVmmas (f : FV) (s : State) : Out := issue s (.vmmas f) [] (some f.fs) (runVmmas f)

/-! ### Log arithmetic (R213, R214) -/

/-- The product of R90, `ts` binades higher. -/
def l6Mul (f : FW) (a b : Nat) : Nat × Flags :=
  if nfld a 0 6 = 32 ∨ nfld b 0 6 = 32 then (32, 0)
  else if nfld a 0 5 = 0 ∨ nfld b 0 5 = 0 then (0, 0)
  else packL6 f.ovf (nbit a 5 != nbit b 5) ((nfld a 0 5 : Int) + nfld b 0 5 - 16 + 4 * f.ts)

/-- VLGMUL (R213). Its operands are groups at SEW = 8, and with another SEW it is a format fault (R180); log 10. -/
def runVlgmul (f : FV) (c : Cmd) (s : State) : CRes :=
  let v := s.me.vec
  let f' := FW.of c.fw
  let a := v.lay
  checked c s (some (fwLogMul c.fw && a.sew == 8))
    (finish s a f.a.toNat ((c.acts v f.msk).map fun i =>
      let (x, fl) := l6Mul f' (elemGet v a f.b.toNat i) (elemGet v a f.c.toNat i)
      (⟨i, x, elemPoison v a f.b.toNat i || elemPoison v a f.c.toNat i⟩, fl)))
noncomputable def execVlgmul (f : FV) (s : State) : Out := issue s (.vlgmul f) [] (some f.fs) (runVlgmul f)

/-- VLGACC: the groups of eight elements, ascending, into lane 0 of vd (R213). Its sources are groups at SEW = 8; log 10. -/
def runVlgacc (f : FV) (c : Cmd) (s : State) : CRes :=
  let v := s.me.vec
  let f' := FW.of c.fw
  let a := v.lay
  let act (i : Nat) : Bool := decide (c.resume ≤ i ∧ i < v.vl) && mkPermits v f.msk i
  let el (r : BitVec 5) (i : Nat) : SEl := ⟨elemGet v a r.toNat i, some 0, elemPoison v a r.toNat i⟩
  let group (j : Nat) := groupOf f' ((upTo (8 * j) 8).map fun i =>
    if act i then (el f.b i, el f.c i) else (SEl.zero, SEl.zero))
  let js := (upTo 0 (cdiv v.vl 8)).filter fun j => (upTo (8 * j) 8).any act
  let at_ := (f.a.toNat, 0)
  checked c s (some (fwLogSum c.fw && a.sew == 8))
    (if js.isEmpty then .done s
     else
       let (x, fl) := js.foldl (fun (acc, fl) j =>
         let (y, fl') := accumulate f' acc (group j)
         (y, fl ||| fl')) (wordPart v at_, (0 : Flags))
       putParts s [(at_, x, fl)])
noncomputable def execVlgacc (f : FV) (s : State) : Out := issue s (.vlgacc f) [] (some f.fs) (runVlgacc f)

/-- The log-offset conversion (R214). From L6 the value is T[f] × 2^(i − 16), as in R92: R214 says that an offset of
0 gives the result of VFCVT. DEDUCED, log 11. -/
def logConvert (f : FW) (d : Int) (blk : Option Int) (x : Nat) : Nat × Flags :=
  if f.dst = 12 then
    writeL6At d f.rm f.ovf (match blk with
      | none => .nan
      | some k => (readNum f.src1 x).scale (k + f.ts))
  else
    let v :=
      if nfld x 0 5 = 0 then readL6 x
      else
        let q : Int := (nfld x 0 5 : Int) + d - 16
        Num.mk (nbit x 5) (logTab (q % 4).toNat) (q / 4 - 16)
    let v := v.scale f.ts
    match intShape f.dst with
    | some (w, sg) => writeInt w sg f.rm f.ovf v
    | none => if f.dst = 13 then writeE8 v else writeFlt f.dst f.rm f.ovf v

/-- VLGCVT (R214). -/
def runVlgcvt (f : FV) (c : Cmd) (s : State) : CRes :=
  let v := s.me.vec
  let f' := FW.of c.fw
  let la := layOf v.lay (storageWidth f'.src1)
  let r := f.b.toNat + extent v.lay (storageWidth f'.src1)
  let d := sInt 8 (c.g 0).toNat
  checked c s (some (fwConv c.fw false && ((f'.src1 == 12) != (f'.dst == 12)) && heldOk v.lay c.fw &&
      (!f'.scl1 || decide (r < 32))))
    (finish s (layOf v.lay (storageWidth f'.dst)) f.a.toNat ((c.acts v f.msk).map fun i =>
      let (x, fl) := logConvert f' d (if f'.scl1 then blockScale v r i else some 0)
        (elemGet v la f.b.toNat i % 2 ^ fmtWidth f'.src1)
      (⟨i, x, elemPoison v la f.b.toNat i || c.gpois 0 || (f'.scl1 && elemPoison v ⟨8, 1⟩ r (i / 32))⟩, fl)))
noncomputable def execVlgcvt (f : FV) (s : State) : Out := issue s (.vlgcvt f) [f.c.toNat] (some f.fs) (runVlgcvt f)

end Sys2Proof.Machine
end

