-- ==== Sys2Proof/Machine/VInt.lean ====
section
/-! DEFINITION. Vector integer arithmetic (R190, R191). -/

namespace Sys2Proof.Machine

/-- The scalar source of a vector-scalar form (R179). -/
def scalarElem (v : VecRegs) (x : W) : Nat := x.toNat % 2 ^ v.lay.sew

/-- vd[i] := op(SEW, vs1[i], vs2[i]) for each active i (R190). -/
def intVV (op : Nat → Nat → Nat → Nat × Flags) (f : FV) (c : Cmd) (s : State) : CRes :=
  let v := s.me.vec
  let a := v.lay
  checked c s none (finish s a f.a.toNat ((c.acts v f.msk).map fun i =>
    let (x, fl) := op a.sew (elemGet v a f.b.toNat i) (elemGet v a f.c.toNat i)
    (⟨i, x, elemPoison v a f.b.toNat i || elemPoison v a f.c.toNat i⟩, fl)))

/-- The vector-scalar form: vs2[i] is s (R179, R190). -/
def intVS (op : Nat → Nat → Nat → Nat × Flags) (f : FV) (c : Cmd) (s : State) : CRes :=
  let v := s.me.vec
  let a := v.lay
  checked c s none (finish s a f.a.toNat ((c.acts v f.msk).map fun i =>
    let (x, fl) := op a.sew (elemGet v a f.b.toNat i) (scalarElem v (c.g 0))
    (⟨i, x, elemPoison v a f.b.toNat i || c.gpois 0⟩, fl)))

/-- The one-source form. -/
def intV1 (op : Nat → Nat → Nat) (f : FV) (c : Cmd) (s : State) : CRes :=
  let v := s.me.vec
  let a := v.lay
  checked c s none (finish s a f.a.toNat ((c.acts v f.msk).map fun i =>
    (⟨i, op a.sew (elemGet v a f.b.toNat i), elemPoison v a f.b.toNat i⟩, 0)))

/-- An operation that sets no flag. -/
def quiet (op : Nat → Nat → Nat → Nat) (n a b : Nat) : Nat × Flags := (op n a b, 0)

/-- A sum or difference saturated to SEW bits, with SAT (R190, R191). -/
def saturate (n : Nat) (x : Int) : Nat × Flags :=
  if x < -(2 ^ (n - 1)) then (2 ^ (n - 1), fSAT)
  else if 2 ^ (n - 1) - 1 < x then (2 ^ (n - 1) - 1, fSAT)
  else (wrap n x, 0)

/-! The operations of R190 on elements of `n` bits. -/

def eAdd (n a b : Nat) : Nat := (a + b) % 2 ^ n
def eSub (n a b : Nat) : Nat := wrap n (a - b)
def eRsub (n a b : Nat) : Nat := wrap n (b - a)
def eMul (n a b : Nat) : Nat := a * b % 2 ^ n
def eMulh (n a b : Nat) : Nat := wrap n (sInt n a * sInt n b / 2 ^ n)
def eMulhu (n a b : Nat) : Nat := a * b / 2 ^ n
def eDiv (n a b : Nat) : Nat := if b = 0 then 2 ^ n - 1 else wrap n ((sInt n a).tdiv (sInt n b))
def eMod (n a b : Nat) : Nat := if b = 0 then a else wrap n ((sInt n a).tmod (sInt n b))
def eAnd (_ a b : Nat) : Nat := a &&& b
def eOr (_ a b : Nat) : Nat := a ||| b
def eXor (_ a b : Nat) : Nat := a ^^^ b
def eShl (n a b : Nat) : Nat := a * 2 ^ (b % n) % 2 ^ n
def eShr (n a b : Nat) : Nat := a / 2 ^ (b % n)
def eSar (n a b : Nat) : Nat := wrap n (sInt n a / 2 ^ (b % n))
def eMin (n a b : Nat) : Nat := if sInt n b < sInt n a then b else a
def eMax (n a b : Nat) : Nat := if sInt n a < sInt n b then b else a
def eMinu (_ a b : Nat) : Nat := min a b
def eMaxu (_ a b : Nat) : Nat := max a b
def eAdds (n a b : Nat) : Nat × Flags := saturate n (sInt n a + sInt n b)
def eSubs (n a b : Nat) : Nat × Flags := saturate n (sInt n a - sInt n b)

def runVadd (f : FV) (c : Cmd) (s : State) : CRes := intVV (quiet eAdd) f c s
def execVadd (f : FV) (s : State) : Out := issue s (.vadd f) [] none (runVadd f)
def runVsub (f : FV) (c : Cmd) (s : State) : CRes := intVV (quiet eSub) f c s
def execVsub (f : FV) (s : State) : Out := issue s (.vsub f) [] none (runVsub f)
def runVrsub (f : FV) (c : Cmd) (s : State) : CRes := intVV (quiet eRsub) f c s
def execVrsub (f : FV) (s : State) : Out := issue s (.vrsub f) [] none (runVrsub f)
def runVmul (f : FV) (c : Cmd) (s : State) : CRes := intVV (quiet eMul) f c s
def execVmul (f : FV) (s : State) : Out := issue s (.vmul f) [] none (runVmul f)
def runVmulh (f : FV) (c : Cmd) (s : State) : CRes := intVV (quiet eMulh) f c s
def execVmulh (f : FV) (s : State) : Out := issue s (.vmulh f) [] none (runVmulh f)
def runVmulhu (f : FV) (c : Cmd) (s : State) : CRes := intVV (quiet eMulhu) f c s
def execVmulhu (f : FV) (s : State) : Out := issue s (.vmulhu f) [] none (runVmulhu f)
def runVdiv (f : FV) (c : Cmd) (s : State) : CRes := intVV (quiet eDiv) f c s
def execVdiv (f : FV) (s : State) : Out := issue s (.vdiv f) [] none (runVdiv f)
def runVmod (f : FV) (c : Cmd) (s : State) : CRes := intVV (quiet eMod) f c s
def execVmod (f : FV) (s : State) : Out := issue s (.vmod f) [] none (runVmod f)
def runVand (f : FV) (c : Cmd) (s : State) : CRes := intVV (quiet eAnd) f c s
def execVand (f : FV) (s : State) : Out := issue s (.vand f) [] none (runVand f)
def runVor (f : FV) (c : Cmd) (s : State) : CRes := intVV (quiet eOr) f c s
def execVor (f : FV) (s : State) : Out := issue s (.vor f) [] none (runVor f)
def runVxor (f : FV) (c : Cmd) (s : State) : CRes := intVV (quiet eXor) f c s
def execVxor (f : FV) (s : State) : Out := issue s (.vxor f) [] none (runVxor f)
def runVshl (f : FV) (c : Cmd) (s : State) : CRes := intVV (quiet eShl) f c s
def execVshl (f : FV) (s : State) : Out := issue s (.vshl f) [] none (runVshl f)
def runVshr (f : FV) (c : Cmd) (s : State) : CRes := intVV (quiet eShr) f c s
def execVshr (f : FV) (s : State) : Out := issue s (.vshr f) [] none (runVshr f)
def runVsar (f : FV) (c : Cmd) (s : State) : CRes := intVV (quiet eSar) f c s
def execVsar (f : FV) (s : State) : Out := issue s (.vsar f) [] none (runVsar f)
def runVmin (f : FV) (c : Cmd) (s : State) : CRes := intVV (quiet eMin) f c s
def execVmin (f : FV) (s : State) : Out := issue s (.vmin f) [] none (runVmin f)
def runVmax (f : FV) (c : Cmd) (s : State) : CRes := intVV (quiet eMax) f c s
def execVmax (f : FV) (s : State) : Out := issue s (.vmax f) [] none (runVmax f)
def runVminu (f : FV) (c : Cmd) (s : State) : CRes := intVV (quiet eMinu) f c s
def execVminu (f : FV) (s : State) : Out := issue s (.vminu f) [] none (runVminu f)
def runVmaxu (f : FV) (c : Cmd) (s : State) : CRes := intVV (quiet eMaxu) f c s
def execVmaxu (f : FV) (s : State) : Out := issue s (.vmaxu f) [] none (runVmaxu f)
def runVadds (f : FV) (c : Cmd) (s : State) : CRes := intVV eAdds f c s
def execVadds (f : FV) (s : State) : Out := issue s (.vadds f) [] none (runVadds f)
def runVsubs (f : FV) (c : Cmd) (s : State) : CRes := intVV eSubs f c s
def execVsubs (f : FV) (s : State) : Out := issue s (.vsubs f) [] none (runVsubs f)

def runVaddVs (f : FV) (c : Cmd) (s : State) : CRes := intVS (quiet eAdd) f c s
def execVaddVs (f : FV) (s : State) : Out := issue s (.vaddVs f) [f.c.toNat] none (runVaddVs f)
def runVsubVs (f : FV) (c : Cmd) (s : State) : CRes := intVS (quiet eSub) f c s
def execVsubVs (f : FV) (s : State) : Out := issue s (.vsubVs f) [f.c.toNat] none (runVsubVs f)
def runVrsubVs (f : FV) (c : Cmd) (s : State) : CRes := intVS (quiet eRsub) f c s
def execVrsubVs (f : FV) (s : State) : Out := issue s (.vrsubVs f) [f.c.toNat] none (runVrsubVs f)
def runVmulVs (f : FV) (c : Cmd) (s : State) : CRes := intVS (quiet eMul) f c s
def execVmulVs (f : FV) (s : State) : Out := issue s (.vmulVs f) [f.c.toNat] none (runVmulVs f)
def runVmulhVs (f : FV) (c : Cmd) (s : State) : CRes := intVS (quiet eMulh) f c s
def execVmulhVs (f : FV) (s : State) : Out := issue s (.vmulhVs f) [f.c.toNat] none (runVmulhVs f)
def runVmulhuVs (f : FV) (c : Cmd) (s : State) : CRes := intVS (quiet eMulhu) f c s
def execVmulhuVs (f : FV) (s : State) : Out := issue s (.vmulhuVs f) [f.c.toNat] none (runVmulhuVs f)
def runVdivVs (f : FV) (c : Cmd) (s : State) : CRes := intVS (quiet eDiv) f c s
def execVdivVs (f : FV) (s : State) : Out := issue s (.vdivVs f) [f.c.toNat] none (runVdivVs f)
def runVmodVs (f : FV) (c : Cmd) (s : State) : CRes := intVS (quiet eMod) f c s
def execVmodVs (f : FV) (s : State) : Out := issue s (.vmodVs f) [f.c.toNat] none (runVmodVs f)
def runVandVs (f : FV) (c : Cmd) (s : State) : CRes := intVS (quiet eAnd) f c s
def execVandVs (f : FV) (s : State) : Out := issue s (.vandVs f) [f.c.toNat] none (runVandVs f)
def runVorVs (f : FV) (c : Cmd) (s : State) : CRes := intVS (quiet eOr) f c s
def execVorVs (f : FV) (s : State) : Out := issue s (.vorVs f) [f.c.toNat] none (runVorVs f)
def runVxorVs (f : FV) (c : Cmd) (s : State) : CRes := intVS (quiet eXor) f c s
def execVxorVs (f : FV) (s : State) : Out := issue s (.vxorVs f) [f.c.toNat] none (runVxorVs f)
def runVshlVs (f : FV) (c : Cmd) (s : State) : CRes := intVS (quiet eShl) f c s
def execVshlVs (f : FV) (s : State) : Out := issue s (.vshlVs f) [f.c.toNat] none (runVshlVs f)
def runVshrVs (f : FV) (c : Cmd) (s : State) : CRes := intVS (quiet eShr) f c s
def execVshrVs (f : FV) (s : State) : Out := issue s (.vshrVs f) [f.c.toNat] none (runVshrVs f)
def runVsarVs (f : FV) (c : Cmd) (s : State) : CRes := intVS (quiet eSar) f c s
def execVsarVs (f : FV) (s : State) : Out := issue s (.vsarVs f) [f.c.toNat] none (runVsarVs f)
def runVminVs (f : FV) (c : Cmd) (s : State) : CRes := intVS (quiet eMin) f c s
def execVminVs (f : FV) (s : State) : Out := issue s (.vminVs f) [f.c.toNat] none (runVminVs f)
def runVmaxVs (f : FV) (c : Cmd) (s : State) : CRes := intVS (quiet eMax) f c s
def execVmaxVs (f : FV) (s : State) : Out := issue s (.vmaxVs f) [f.c.toNat] none (runVmaxVs f)
def runVminuVs (f : FV) (c : Cmd) (s : State) : CRes := intVS (quiet eMinu) f c s
def execVminuVs (f : FV) (s : State) : Out := issue s (.vminuVs f) [f.c.toNat] none (runVminuVs f)
def runVmaxuVs (f : FV) (c : Cmd) (s : State) : CRes := intVS (quiet eMaxu) f c s
def execVmaxuVs (f : FV) (s : State) : Out := issue s (.vmaxuVs f) [f.c.toNat] none (runVmaxuVs f)
def runVaddsVs (f : FV) (c : Cmd) (s : State) : CRes := intVS eAdds f c s
def execVaddsVs (f : FV) (s : State) : Out := issue s (.vaddsVs f) [f.c.toNat] none (runVaddsVs f)
def runVsubsVs (f : FV) (c : Cmd) (s : State) : CRes := intVS eSubs f c s
def execVsubsVs (f : FV) (s : State) : Out := issue s (.vsubsVs f) [f.c.toNat] none (runVsubsVs f)

def runVclz (f : FV) (c : Cmd) (s : State) : CRes := intV1 clz f c s
def execVclz (f : FV) (s : State) : Out := issue s (.vclz f) [] none (runVclz f)
def runVpope (f : FV) (c : Cmd) (s : State) : CRes := intV1 popc f c s
def execVpope (f : FV) (s : State) : Out := issue s (.vpope f) [] none (runVpope f)

end Sys2Proof.Machine
end

