-- ==== Sys2Proof/Machine/VCmp.lean ====
section
/-! DEFINITION. Vector compares to mask (R192). -/

namespace Sys2Proof.Machine

/-- md[i] := cond(vs1[i], vs2[i]) for each active i (R192). -/
def cmpVV (cond : Nat → Nat → Nat → Bool) (f : FV) (c : Cmd) (s : State) : CRes :=
  let v := s.me.vec
  let a := v.lay
  checked c s none (finishMask s f.a.toNat ((c.acts v f.msk).map fun i =>
    (i, cond a.sew (elemGet v a f.b.toNat i) (elemGet v a f.c.toNat i),
      elemPoison v a f.b.toNat i || elemPoison v a f.c.toNat i)))

/-- The vector-scalar form (R179, R192). -/
def cmpVS (cond : Nat → Nat → Nat → Bool) (f : FV) (c : Cmd) (s : State) : CRes :=
  let v := s.me.vec
  let a := v.lay
  checked c s none (finishMask s f.a.toNat ((c.acts v f.msk).map fun i =>
    (i, cond a.sew (elemGet v a f.b.toNat i) (scalarElem v (c.g 0)), elemPoison v a f.b.toNat i || c.gpois 0)))

/-- A floating compare: Compare class, sources held under R180 (R192). -/
def cmpFlt (cond : Num → Num → Bool) (f : FV) (c : Cmd) (s : State) : CRes :=
  let v := s.me.vec
  let a := v.lay
  let f' := FW.of c.fw
  let la := layOf a (storageWidth f'.src1)
  checked c s (some (fwCmp c.fw true && extent a (storageWidth f'.src1) != 0))
    (finishMask s f.a.toNat ((c.acts v f.msk).map fun i =>
      (i, cond (readFlt f'.src1 (elemGet v la f.b.toNat i)) (readFlt f'.src1 (elemGet v la f.c.toNat i)),
        elemPoison v la f.b.toNat i || elemPoison v la f.c.toNat i)))

/-! The conditions of R192. -/

def cEq (_ a b : Nat) : Bool := a == b
def cNe (_ a b : Nat) : Bool := a != b
def cLt (n a b : Nat) : Bool := decide (sInt n a < sInt n b)
def cLe (n a b : Nat) : Bool := decide (sInt n a ≤ sInt n b)
def cLtu (_ a b : Nat) : Bool := decide (a < b)
def cLeu (_ a b : Nat) : Bool := decide (a ≤ b)
def cFne (x y : Num) : Bool := !eqNum x y
def cFord (x y : Num) : Bool := x != .nan && y != .nan

def runVceq (f : FV) (c : Cmd) (s : State) : CRes := cmpVV cEq f c s
def execVceq (f : FV) (s : State) : Out := issue s (.vceq f) [] none (runVceq f)
def runVcne (f : FV) (c : Cmd) (s : State) : CRes := cmpVV cNe f c s
def execVcne (f : FV) (s : State) : Out := issue s (.vcne f) [] none (runVcne f)
def runVclt (f : FV) (c : Cmd) (s : State) : CRes := cmpVV cLt f c s
def execVclt (f : FV) (s : State) : Out := issue s (.vclt f) [] none (runVclt f)
def runVcle (f : FV) (c : Cmd) (s : State) : CRes := cmpVV cLe f c s
def execVcle (f : FV) (s : State) : Out := issue s (.vcle f) [] none (runVcle f)
def runVcltu (f : FV) (c : Cmd) (s : State) : CRes := cmpVV cLtu f c s
def execVcltu (f : FV) (s : State) : Out := issue s (.vcltu f) [] none (runVcltu f)
def runVcleu (f : FV) (c : Cmd) (s : State) : CRes := cmpVV cLeu f c s
def execVcleu (f : FV) (s : State) : Out := issue s (.vcleu f) [] none (runVcleu f)

def runVceqVs (f : FV) (c : Cmd) (s : State) : CRes := cmpVS cEq f c s
def execVceqVs (f : FV) (s : State) : Out := issue s (.vceqVs f) [f.c.toNat] none (runVceqVs f)
def runVcneVs (f : FV) (c : Cmd) (s : State) : CRes := cmpVS cNe f c s
def execVcneVs (f : FV) (s : State) : Out := issue s (.vcneVs f) [f.c.toNat] none (runVcneVs f)
def runVcltVs (f : FV) (c : Cmd) (s : State) : CRes := cmpVS cLt f c s
def execVcltVs (f : FV) (s : State) : Out := issue s (.vcltVs f) [f.c.toNat] none (runVcltVs f)
def runVcleVs (f : FV) (c : Cmd) (s : State) : CRes := cmpVS cLe f c s
def execVcleVs (f : FV) (s : State) : Out := issue s (.vcleVs f) [f.c.toNat] none (runVcleVs f)
def runVcltuVs (f : FV) (c : Cmd) (s : State) : CRes := cmpVS cLtu f c s
def execVcltuVs (f : FV) (s : State) : Out := issue s (.vcltuVs f) [f.c.toNat] none (runVcltuVs f)
def runVcleuVs (f : FV) (c : Cmd) (s : State) : CRes := cmpVS cLeu f c s
def execVcleuVs (f : FV) (s : State) : Out := issue s (.vcleuVs f) [f.c.toNat] none (runVcleuVs f)

def runVfeq (f : FV) (c : Cmd) (s : State) : CRes := cmpFlt eqNum f c s
def execVfeq (f : FV) (s : State) : Out := issue s (.vfeq f) [] (some f.fs) (runVfeq f)
def runVfne (f : FV) (c : Cmd) (s : State) : CRes := cmpFlt cFne f c s
def execVfne (f : FV) (s : State) : Out := issue s (.vfne f) [] (some f.fs) (runVfne f)
def runVflt (f : FV) (c : Cmd) (s : State) : CRes := cmpFlt ltNum f c s
def execVflt (f : FV) (s : State) : Out := issue s (.vflt f) [] (some f.fs) (runVflt f)
def runVfle (f : FV) (c : Cmd) (s : State) : CRes := cmpFlt leNum f c s
def execVfle (f : FV) (s : State) : Out := issue s (.vfle f) [] (some f.fs) (runVfle f)
def runVford (f : FV) (c : Cmd) (s : State) : CRes := cmpFlt cFord f c s
def execVford (f : FV) (s : State) : Out := issue s (.vford f) [] (some f.fs) (runVford f)

end Sys2Proof.Machine
end

