-- ==== Sys2Proof/Machine/VMove.lean ====
section
/-! DEFINITION. Moves and permutes (R196, R197). -/

namespace Sys2Proof.Machine

/-- Elements of the destination group written, with no flag. -/
def moved (s : State) (f : FV) (ws : List EWr) : CRes :=
  .done (s.setMe { s.me with vec := writeElems s.me.vec s.me.vec.lay f.a.toNat ws })

/-- Element `j` of a group as a move reads it: value and poison. -/
def pick1 (v : VecRegs) (r : BitVec 5) (j : Nat) : Nat × Bool := (elemGet v v.lay r.toNat j, elemPoison v v.lay r.toNat j)

/-- vd[i] := value i, for each active i (R403: from the resume point on). -/
def moveEach (value : VecRegs → Nat → Nat × Bool) (f : FV) (c : Cmd) (s : State) : CRes :=
  let v := s.me.vec
  checked c s none (moved s f ((c.acts v f.msk).map fun i => let (x, p) := value v i; ⟨i, x, p⟩))

/-- VMERGE writes every position below VL (R196). -/
def runVmerge (f : FV) (c : Cmd) (s : State) : CRes :=
  let v := s.me.vec
  checked c s none (moved s f ((c.belowVl v).map fun i =>
    let (x, p) := pick1 v (if mkPermits v f.msk i then f.b else f.c) i
    ⟨i, x, p⟩))
def execVmerge (f : FV) (s : State) : Out := issue s (.vmerge f) [] none (runVmerge f)

def runVmov (f : FV) (c : Cmd) (s : State) : CRes := moveEach (fun v i => pick1 v f.b i) f c s
def execVmov (f : FV) (s : State) : Out := issue s (.vmov f) [] none (runVmov f)

def runVsplat (f : FV) (c : Cmd) (s : State) : CRes := moveEach (fun v _ => (scalarElem v (c.g 0), c.gpois 0)) f c s
def execVsplat (f : FV) (s : State) : Out := issue s (.vsplat f) [f.b.toNat] none (runVsplat f)

/-- VFROMG writes element 0 if it is active (R196). -/
def runVfromg (f : FV) (c : Cmd) (s : State) : CRes :=
  let v := s.me.vec
  checked c s none (moved s f (((c.acts v f.msk).filter (· == 0)).map fun i => ⟨i, scalarElem v (c.g 0), c.gpois 0⟩))
def execVfromg (f : FV) (s : State) : Out := issue s (.vfromg f) [f.b.toNat] none (runVfromg f)

/-- Element `k` of a group, sign-extended; 0 at or above the capacity (R196). -/
def elemOut (v : VecRegs) (r : BitVec 5) (k : Nat) : W × Bool :=
  if k < v.cap then let (x, p) := pick1 v r k; (sext64 v.lay.sew x, p) else (0, false)

def execVtog (f : FV) (s : State) : Out := vecScalar s (.vtog f) f.a [] fun s => elemOut s.me.vec f.b 0
def execVext (f : FV) (s : State) : Out :=
  vecScalar s (.vext f) f.a [f.c.toNat] fun s =>
    let (x, p) := elemOut s.me.vec f.b (s.me.rd f.c.toNat).toNat
    (x, p || s.me.rdP f.c.toNat)

def runVindex (f : FV) (c : Cmd) (s : State) : CRes := moveEach (fun v i => (i % 2 ^ v.lay.sew, false)) f c s
def execVindex (f : FV) (s : State) : Out := issue s (.vindex f) [] none (runVindex f)

/-- The running sums of a list of elements, with the poison of all that went in (R196, R409). -/
def prefixSums (n acc : Nat) (p : Bool) : List (Nat × Nat × Bool) → List EWr
  | [] => []
  | (i, x, q) :: r =>
    let acc := (acc + x) % 2 ^ n
    let p := p || q
    ⟨i, acc, p⟩ :: prefixSums n acc p r

def runVprefix (f : FV) (c : Cmd) (s : State) : CRes :=
  let v := s.me.vec
  checked c s none
    (moved s f ((prefixSums v.lay.sew 0 false ((v.actives f.msk).map fun i => (i, pick1 v f.b i))).filter fun e =>
      decide (c.resume ≤ e.i)))
def execVprefix (f : FV) (s : State) : Out := issue s (.vprefix f) [] none (runVprefix f)

/-- VSLUP: positions below k are not written (R196). -/
def runVslup (f : FV) (c : Cmd) (s : State) : CRes :=
  let v := s.me.vec
  let k := (c.g 0).toNat
  checked c s none (moved s f (((c.acts v f.msk).filter (decide <| k ≤ ·)).map fun i =>
    let (x, p) := pick1 v f.b (i - k)
    ⟨i, x, p || c.gpois 0⟩))
def execVslup (f : FV) (s : State) : Out := issue s (.vslup f) [f.c.toNat] none (runVslup f)

def runVsldn (f : FV) (c : Cmd) (s : State) : CRes :=
  let k := (c.g 0).toNat
  moveEach (fun v i =>
    let (x, p) := if i + k < v.vl then pick1 v f.b (i + k) else (0, false)
    (x, p || c.gpois 0)) f c s
def execVsldn (f : FV) (s : State) : Out := issue s (.vsldn f) [f.c.toNat] none (runVsldn f)

def runVsl1up (f : FV) (c : Cmd) (s : State) : CRes :=
  moveEach (fun v i => if i = 0 then (scalarElem v (c.g 0), c.gpois 0) else pick1 v f.b (i - 1)) f c s
def execVsl1up (f : FV) (s : State) : Out := issue s (.vsl1up f) [f.c.toNat] none (runVsl1up f)

def runVsl1dn (f : FV) (c : Cmd) (s : State) : CRes :=
  moveEach (fun v i => if i + 1 = v.vl then (scalarElem v (c.g 0), c.gpois 0) else pick1 v f.b (i + 1)) f c s
def execVsl1dn (f : FV) (s : State) : Out := issue s (.vsl1dn f) [f.c.toNat] none (runVsl1dn f)

/-- VPERM: an index at or above VL gives 0 (R196). -/
def runVperm (f : FV) (c : Cmd) (s : State) : CRes :=
  moveEach (fun v i =>
    let (k, q) := pick1 v f.c i
    let (x, p) := if k < v.vl then pick1 v f.b k else (0, false)
    (x, p || q)) f c s
def execVperm (f : FV) (s : State) : Out := issue s (.vperm f) [] none (runVperm f)

/-- VPACK: the active elements go to positions 0 to n − 1 (R196). -/
def runVpack (f : FV) (c : Cmd) (s : State) : CRes :=
  let v := s.me.vec
  let as_ := v.actives f.msk
  checked c s none (moved s f (((as_.zip (upTo 0 as_.length)).filter fun e => decide (c.resume ≤ e.1)).map fun (j, i) =>
    let (x, p) := pick1 v f.b j
    ⟨i, x, p⟩))
def execVpack (f : FV) (s : State) : Out := issue s (.vpack f) [] none (runVpack f)

end Sys2Proof.Machine
end

