-- ==== Sys2Proof/Machine/VMask.lean ====
section
/-! DEFINITION. Mask instructions (R198). -/

namespace Sys2Proof.Machine

/-- Whether any position below VL is in PM. -/
def pmBelow (v : VecRegs) : Bool := (upTo 0 v.vl).any fun i => maskBit v.pm v.lay i

/-- md[i] := bit i, for each i < VL. Every source bit is read before (R198). `mix`: a bit combines every position, so one in
PM sets the position of each bit written (R409); DEDUCED, log 9. -/
def maskEach (mix : Bool) (bitAt : VecRegs → Nat → Bool) (f : FV) (c : Cmd) (s : State) : CRes :=
  let v := s.me.vec
  checked c s none (finishMask s f.a.toNat ((c.belowVl v).map fun i => (i, bitAt v i, mix && pmBelow v)))

/-- Bit `i` of the mask that a field names. -/
def mBit (v : VecRegs) (r : BitVec 5) (i : Nat) : Bool := maskBit (v.mask r.toNat) v.lay i

/-- The lowest i < VL with the bit set, or VL (R198). -/
def firstSet (v : VecRegs) (r : BitVec 5) : Nat := (findUp (mBit v r) 0 v.vl).getD v.vl

def runMand (f : FV) (c : Cmd) (s : State) : CRes := maskEach false (fun v i => mBit v f.b i && mBit v f.c i) f c s
def execMand (f : FV) (s : State) : Out := issue s (.mand f) [] none (runMand f)
def runMor (f : FV) (c : Cmd) (s : State) : CRes := maskEach false (fun v i => mBit v f.b i || mBit v f.c i) f c s
def execMor (f : FV) (s : State) : Out := issue s (.mor f) [] none (runMor f)
def runMxor (f : FV) (c : Cmd) (s : State) : CRes := maskEach false (fun v i => mBit v f.b i != mBit v f.c i) f c s
def execMxor (f : FV) (s : State) : Out := issue s (.mxor f) [] none (runMxor f)
def runMandn (f : FV) (c : Cmd) (s : State) : CRes := maskEach false (fun v i => mBit v f.b i && !mBit v f.c i) f c s
def execMandn (f : FV) (s : State) : Out := issue s (.mandn f) [] none (runMandn f)
def runMmov (f : FV) (c : Cmd) (s : State) : CRes := maskEach false (fun v i => mBit v f.b i) f c s
def execMmov (f : FV) (s : State) : Out := issue s (.mmov f) [] none (runMmov f)
def runMbefore (f : FV) (c : Cmd) (s : State) : CRes := maskEach true (fun v i => decide (i < firstSet v f.b)) f c s
def execMbefore (f : FV) (s : State) : Out := issue s (.mbefore f) [] none (runMbefore f)
def runMthrough (f : FV) (c : Cmd) (s : State) : CRes := maskEach true (fun v i => decide (i ≤ firstSet v f.b)) f c s
def execMthrough (f : FV) (s : State) : Out := issue s (.mthrough f) [] none (runMthrough f)
def runMonly (f : FV) (c : Cmd) (s : State) : CRes := maskEach true (fun v i => i == firstSet v f.b) f c s
def execMonly (f : FV) (s : State) : Out := issue s (.monly f) [] none (runMonly f)

/-- MFROMV: a poisoned element sets its position in PM (R198, R409). -/
def runMfromv (f : FV) (c : Cmd) (s : State) : CRes :=
  let v := s.me.vec
  checked c s none (finishMask s f.a.toNat ((c.belowVl v).map fun i =>
    (i, elemGet v v.lay f.b.toNat i != 0, elemPoison v v.lay f.b.toNat i)))
def execMfromv (f : FV) (s : State) : Out := issue s (.mfromv f) [] none (runMfromv f)

/-- MTOV (R198). A position in PM gives a poisoned element. DEDUCED, log 9. -/
def runMtov (f : FV) (c : Cmd) (s : State) : CRes :=
  let v := s.me.vec
  checked c s none (moved s f
    ((c.belowVl v).map fun i => ⟨i, if mBit v f.b i then 1 else 0, maskBit v.pm v.lay i⟩))
def execMtov (f : FV) (s : State) : Out := issue s (.mtov f) [] none (runMtov f)

def execMpopc (f : FV) (s : State) : Out :=
  vecScalar s (.mpopc f) f.a [] fun s =>
    let v := s.me.vec
    (BitVec.ofNat 64 ((upTo 0 v.vl).filter (mBit v f.b)).length, pmBelow v)

def execMffs (f : FV) (s : State) : Out :=
  vecScalar s (.mffs f) f.a [] fun s =>
    let v := s.me.vec
    (if firstSet v f.b < v.vl then BitVec.ofNat 64 (firstSet v f.b) else BitVec.allOnes 64, pmBelow v)

end Sys2Proof.Machine
end

