-- ==== Sys2Proof/Machine/Run.lean ====
section
/-! DEFINITION. Dispatch of queued commands and the ends of their waits (R171, R268, R335, R346, R377, R380), taking vector causes and
asynchronous events (R62, R399 to R402, R411), causes of fetch and decode (R103, R127), time (R53), and the order in which a
hart's next move is found. -/

namespace Sys2Proof.Machine

/-- What a queued command does; no other instruction is queued (R171). -/
def runCmd : Instr → Cmd → State → CRes
  | .setvl f => runSetvl f
  | .setvlk f => runSetvlk f
  | .shape f => runShape f
  | .vfold f => runVfold f
  | .vfoldto f => runVfoldto f
  | .vadd f => runVadd f
  | .vsub f => runVsub f
  | .vrsub f => runVrsub f
  | .vmul f => runVmul f
  | .vmulh f => runVmulh f
  | .vmulhu f => runVmulhu f
  | .vdiv f => runVdiv f
  | .vmod f => runVmod f
  | .vand f => runVand f
  | .vor f => runVor f
  | .vxor f => runVxor f
  | .vshl f => runVshl f
  | .vshr f => runVshr f
  | .vsar f => runVsar f
  | .vmin f => runVmin f
  | .vmax f => runVmax f
  | .vminu f => runVminu f
  | .vmaxu f => runVmaxu f
  | .vadds f => runVadds f
  | .vsubs f => runVsubs f
  | .vclz f => runVclz f
  | .vpope f => runVpope f
  | .vaddVs f => runVaddVs f
  | .vsubVs f => runVsubVs f
  | .vrsubVs f => runVrsubVs f
  | .vmulVs f => runVmulVs f
  | .vmulhVs f => runVmulhVs f
  | .vmulhuVs f => runVmulhuVs f
  | .vdivVs f => runVdivVs f
  | .vmodVs f => runVmodVs f
  | .vandVs f => runVandVs f
  | .vorVs f => runVorVs f
  | .vxorVs f => runVxorVs f
  | .vshlVs f => runVshlVs f
  | .vshrVs f => runVshrVs f
  | .vsarVs f => runVsarVs f
  | .vminVs f => runVminVs f
  | .vmaxVs f => runVmaxVs f
  | .vminuVs f => runVminuVs f
  | .vmaxuVs f => runVmaxuVs f
  | .vaddsVs f => runVaddsVs f
  | .vsubsVs f => runVsubsVs f
  | .vceq f => runVceq f
  | .vcne f => runVcne f
  | .vclt f => runVclt f
  | .vcle f => runVcle f
  | .vcltu f => runVcltu f
  | .vcleu f => runVcleu f
  | .vceqVs f => runVceqVs f
  | .vcneVs f => runVcneVs f
  | .vcltVs f => runVcltVs f
  | .vcleVs f => runVcleVs f
  | .vcltuVs f => runVcltuVs f
  | .vcleuVs f => runVcleuVs f
  | .vfeq f => runVfeq f
  | .vfne f => runVfne f
  | .vflt f => runVflt f
  | .vfle f => runVfle f
  | .vford f => runVford f
  | .vfadd f => runVfadd f
  | .vfsub f => runVfsub f
  | .vfmul f => runVfmul f
  | .vfdiv f => runVfdiv f
  | .vfsqrt f => runVfsqrt f
  | .vfma f => runVfma f
  | .vfms f => runVfms f
  | .vfnma f => runVfnma f
  | .vfmin f => runVfmin f
  | .vfmax f => runVfmax f
  | .vfsgn f => runVfsgn f
  | .vfcvt f => runVfcvt f
  | .vfclass f => runVfclass f
  | .vfexp f => runVfexp f
  | .vflog f => runVflog f
  | .vmerge f => runVmerge f
  | .vmov f => runVmov f
  | .vsplat f => runVsplat f
  | .vfromg f => runVfromg f
  | .vindex f => runVindex f
  | .vprefix f => runVprefix f
  | .vslup f => runVslup f
  | .vsldn f => runVsldn f
  | .vsl1up f => runVsl1up f
  | .vsl1dn f => runVsl1dn f
  | .vperm f => runVperm f
  | .vpack f => runVpack f
  | .mand f => runMand f
  | .mor f => runMor f
  | .mxor f => runMxor f
  | .mandn f => runMandn f
  | .mmov f => runMmov f
  | .mfromv f => runMfromv f
  | .mtov f => runMtov f
  | .mbefore f => runMbefore f
  | .mthrough f => runMthrough f
  | .monly f => runMonly f
  | .vrsum f => runVrsum f
  | .vrmax f => runVrmax f
  | .vrmin f => runVrmin f
  | .vrand f => runVrand f
  | .vror f => runVror f
  | .vrxor f => runVrxor f
  | .vwrsum f => runVwrsum f
  | .vfrsum f => runVfrsum f
  | .vfrsumt f => runVfrsumt f
  | .vfrmax f => runVfrmax f
  | .vfrmin f => runVfrmin f
  | .vld f => runVld f
  | .vlds f => runVlds f
  | .vldx f => runVldx f
  | .vldff f => runVldff f
  | .vldm f => runVldm f
  | .vst f => runVst f
  | .vsts f => runVsts f
  | .vstx f => runVstx f
  | .vstxo f => runVstxo f
  | .vstm f => runVstm f
  | .vamoswap f => runVamoswap f
  | .vamoadd f => runVamoadd f
  | .vamoand f => runVamoand f
  | .vamoor f => runVamoor f
  | .vamoxor f => runVamoxor f
  | .vamomin f => runVamomin f
  | .vamomax f => runVamomax f
  | .vamominu f => runVamominu f
  | .vamomaxu f => runVamomaxu f
  | .vamofadd f => runVamofadd f
  | .vgll f => runVgll f
  | .vscc f => runVscc f
  | .vwait f => runVwait f
  | .vsredadd f => runVsredadd f
  | .vsredmax f => runVsredmax f
  | .vsredmin f => runVsredmin f
  | .vsredfadd f => runVsredfadd f
  | .vmredadd f => runVmredadd f
  | .vmredmax f => runVmredmax f
  | .vmredmin f => runVmredmin f
  | .vmredfadd f => runVmredfadd f
  | .tres f => runTres f
  | .tevict f => runTevict f
  | .tdemote f => runTdemote f
  | .stmap f => runStmap f
  | .cways f => runCways f
  | .vmmad f => runVmmad f
  | .vmmar f => runVmmar f
  | .vmmao f => runVmmao f
  | .vmmas f => runVmmas f
  | .vlgmul f => runVlgmul f
  | .vlgacc f => runVlgacc f
  | .vlgcvt f => runVlgcvt f
  | .vscale f => runVscale f
  | .vamax f => runVamax f
  | .vquant f => runVquant f
  | .bxg f => runBxg f
  | .bxc f => runBxc f
  | .bxsRow f => runBxsRow f
  | .bxsStream f => runBxsStream f
  | .shinit f => runShinit f
  | .shacq f => runShacq f
  | .shcom f => runShcom f
  | .shwait f => runShwait f
  | .shrel f => runShrel f
  | .bset f => runBset f
  | .barv f => runBarv f
  | .bwait f => runBwait f
  | .bexp f => runBexp f
  | .bret f => runBret f
  | .tkdef f => runTkdef f
  | .tkdep f => runTkdep f
  | .tksig f => runTksig f
  | .tkspawn f => runTkspawn f
  | .tkend f => runTkend f
  | .tkfree f => runTkfree f
  | .sfstart f => runSfstart f
  | .sfnext f => runSfnext f
  | .sfend f => runSfend f
  | .drpush f => runDrpush f
  | .drpop f => runDrpop f
  | .drgn f => runDrgn f
  | .dmode f => runDmode f
  | .dtape f => runDtape f
  | .drest f => runDrest f
  | .dmark f => runDmark f
  | .kpage f => runKpage f
  | .ksel f => runKsel f
  | .kgat f => runKgat f
  | .ksync f => runKsync f
  | _ => CRes.illegal

/-! ### Dispatch from the queue -/

/-- The first `b` positions of a command at place `j` carried out ahead of its producer's fault; it stays queued, stopped there
(R174, R401 step 2). None: it meets a cause, or waits. -/
def runAhead (s : State) (j b : Nat) (c : Cmd) : Option State :=
  let v := s.me.vec
  let s := s.setMe { s.me with queue := s.me.queue.eraseIdx j, vec := { v with vl := b } }
  match runAt (runCmd c.ins) c s with
  | .done t =>
    let c := { c with started := true, stopped := true, resume := b, first := some (v.sewc, v.gc, v.vl) }
    some (t.setMe { t.me with queue := putAt j c t.me.queue, vec := { t.me.vec with vl := v.vl } })
  | _ => none

/-- Consumers chained to the command at place `k`, which has delivered its first `b` positions, begin on them (R174): each is the
next of the vector queue, reads what its producer writes through set chain bits alone, and depends on nothing else that is
queued. Whether a consumer has begun is a choice; log 47. -/
def chainFrom : Nat → State → Nat → Nat → State
  | 0, s, _, _ => s
  | n + 1, s, k, b =>
    let q := s.me.queue
    let a := s.me.vec.lay
    match findUp (fun j => (q[j]?.map fun c => unitOf c.ins) == some 1) (k + 1) (q.length - (k + 1)) with
    | none => s
    | some j =>
      match q[j]?, q[k]? with
      | some c, some e =>
        let alone := ((upTo 0 j).filter (· != k)).all fun i => !(q[i]?.any (dependsOn a c))
        if b = 0 ∨ c.started = true ∨ chainsOn a c e = false ∨ alone = false then s
        else
          let (go, s) := s.pick 2
          if go = 0 then s
          else match runAhead s j b c with
            | some t => chainFrom n t j b
            | none => s
      | _, _ => s

/-- The command at place `k` dispatches. At a fault of a load that delivers its elements in order, chained consumers may have
begun on the element groups that it has written (R174, R401). -/
def attemptAt (s : State) (k : Nat) (c : Cmd) : State :=
  let t := attempt (s.setQueue (s.me.queue.eraseIdx k)) k c (runCmd c.ins)
  match t.me.flt.pending with
  | some f =>
    let g := t.me.vec.lay.cap 32
    if deliversInOrder c.ins && t.me.mode != 2 && decide (g ≠ 0) then chainFrom 64 t k (f.rix / g * g) else t
  | none => t

/-- The queued commands that may start (R335), with their places. -/
def startables (s : State) : List (Nat × Cmd) :=
  let q := s.me.queue
  ((upTo 0 q.length).zip q).filter fun (k, c) => startable s c (q.take k)

/-- Whether vector causes wait at this boundary: nothing more dispatches before they are taken (R173, R411). -/
def causePending (h : Hart) : Bool := h.flt.pending.isSome || h.flt.record.isSome

/-- One of the moving hart's queued commands dispatches and does more than wait; none: there is no such command. -/
def queueStep (s : State) : Option State :=
  if causePending s.me then none
  else (startables s).findSome? fun (k, c) =>
    let t := attemptAt s k c
    if t = s then none else some t

/-- A waiting command that `p` picks out completes, when it now can. -/
def waitEnd (p : Cmd → Bool) (s : State) : State :=
  if causePending s.me then s
  else ((startables s).findSome? fun (k, c) =>
    if p c then
      let t := attemptAt s k c
      if t.me.queue.length < s.me.queue.length then some t else none
    else none).getD s

/-- COMMAND_DISPATCH (R171, R335). -/
def execCommandDispatch (s : State) : Out := .next ((queueStep s).getD s)

/-- VWAIT_TIMEOUT (R268). -/
def execVwaitTimeout (s : State) : Out :=
  .next (waitEnd (fun c => (match c.ins with
    | .vwait _ => true
    | _ => false) && c.t0.isSome && vwaitLate s c) s)

/-- VWAIT_SATISFIED (R268). -/
def execVwaitSatisfied (s : State) : Out :=
  .next (waitEnd (fun c => (match c.ins with
    | .vwait _ => true
    | _ => false) && c.t0.isSome && !vwaitLate s c) s)

/-- SHELF_WAIT_END: a command that holds its ticket reads the value it waits for (R350, R377). -/
def execShelfWaitEnd (s : State) : Out :=
  .next (waitEnd (fun c => (match c.ins with
    | .shacq _ => true
    | .shwait _ => true
    | _ => false) && c.ticket.isSome) s)

/-- BARRIER_WAIT_END (R380). -/
def execBarrierWaitEnd (s : State) : Out :=
  .next (waitEnd (fun c => (match c.ins with
    | .bwait _ => true
    | _ => false) && c.watch.isSome) s)

/-- The drawer that a command takes a token from (R347, R388). -/
def takesFrom (i : Instr) : Option (Nat × Nat) :=
  match i with
  | .drpop f => some (f.imm.toNat / 4 % 4, f.imm.toNat % 4)
  | .bxg f => if f.pop = 0 then none else some (1, 2)
  | .bxc f => if f.pop = 0 then none else some (1, 2)
  | .bxsRow f => if f.pop = 0 then none else some (1, 2)
  | .bxsStream f => if f.pop = 0 then none else some (1, 2)
  | .kpage f => if f.pop = 0 then none else some (1, 3)
  | .ksel f => if f.pop = 0 then none else some (1, 3)
  | .kgat f => if f.pop = 0 then none else some (1, 3)
  | .ksync f => if f.pop = 0 then none else some (1, 3)
  | _ => none

/-- TOKEN_ARRIVAL: a command that waited for a token goes on, now that its drawer holds one (R346). -/
def execTokenArrival (s : State) : Out :=
  let ready (c : Cmd) : Bool := match takesFrom c.ins with
    | some (p, q) => s.me.drawers.get 0 (drawerNo p q) != 0
    | none => false
  if causePending s.me then .next s
  else .next (((startables s).findSome? fun (k, c) => if ready c then some (attemptAt s k c) else none).getD s)

/-- DRAWER_ROOM: a deposit that waited for room is made (R346). -/
def execDrawerRoom (s : State) : Out :=
  match s.xfers.find? fun x => x.owing && x.hart == s.cur && (xferStep s x).isSome with
  | some x => .next ((payXfer s x).getD s)
  | none => .next (waitEnd (·.owes) s)

/-- AMAX_DRAIN_APPLY: one update of the moving hart's drain, in any order (R220). -/
def execAmaxDrainApply (k : Nat) (s : State) : Out :=
  let h := s.me
  match h.vec.drain[k]? with
  | some u => .next ((applyAmax s h.ctx u).setMe { h with vec := { h.vec with drain := h.vec.drain.eraseIdx k } })
  | none => .next s

/-! ### Vector causes (R164, R399 to R402, R411) -/

/-- A hart that leaves its PARK without writing gd (R400). -/
def leavePark (h : Hart) : Hart :=
  match h.run with
  | .parked _ _ _ _ => { h with run := .running }
  | _ => h

/-- A vector cause of a kind taken at the boundary; a hart that has stopped takes none (R63). -/
def deliver (s : State) (kind : Nat) : Option State :=
  let h := s.me
  match h.flt.pending with
  | some f =>
    if f.kind = kind ∧ runsNow h.run = true then
      some (takeTrap (s.setMe (leavePark { h with flt := { h.flt with pending := none } })) false f.cause h.pc f.tval (some f))
    else none
  | none => none

/-- VECTOR_FAULT_DELIVERY (R400). -/
def execVectorFaultDelivery (s : State) : Out := .next ((deliver s 0).getD s)

/-- GRANT_LOSS (R164). -/
def execGrantLoss (s : State) : Out := .next ((deliver s 1).getD s)

/-- The record of a scalar store, taken after it (R411); a hart that has stopped takes none (R63). -/
def deliverRecord (s : State) : Option State :=
  let h := s.me
  (if runsNow h.run then h.flt.record else none).map fun f =>
    takeTrap (s.setMe (leavePark { h with flt := { h.flt with record := none } })) false f.cause h.pc f.tval none

/-- POISON_RECORD (R411). -/
def execPoisonRecord (s : State) : Out :=
  .next (match deliver s 2 with
    | some t => t
    | none => (deliverRecord s).getD s)

/-- The vector cause that a hart takes first: of a command, then of a scalar store (R399). -/
def causeStep (s : State) : Option State :=
  match s.me.flt.pending with
  | some f => deliver s f.kind
  | none => deliverRecord s

/-! ### Asynchronous events, fetch causes, time -/

/-- ASYNC_EVENT_TAKE: of the pending events the oldest, where STAT allows it and no vector cause comes first (R62, R399). That it
is the oldest is a DESIGN CHOICE, log 52. -/
def execAsyncEventTake (s : State) : Out :=
  let h := s.me
  match h.flt.events with
  | e :: r =>
    if h.run = .running ∧ eventOpen h = true ∧ causePending h = false then
      .next (takeTrap (s.setMe { h with flt := { h.flt with events := r } }) true e.code h.pc e.tval none)
    else .next s
  | [] => .next s

/-- DECODE_TABLE_MISS: a fetched word that decodes to no instruction (R103). -/
noncomputable def execDecodeTableMiss (w : IWord) (s : State) : Out :=
  if s.me.run ≠ .running then .next s
  else match decodeFor s s.cur w with
    | .ok _ => .next s
    | .err e => .next (trapAt (s.setMe { s.me with ir := w }) ⟨if e = .miss then 0x03 else 0x02, w.setWidth 64⟩)

/-- INSTRUCTION_FETCH_FAULT: EPC and TVAL hold the address fetched (R127, R237). -/
def execInstructionFetchFault (s : State) : Out :=
  if s.me.run ≠ .running then .next s
  else match fetchWord s s.cur with
    | .error c => .next (trapAt s c)
    | .ok _ => .next s

/-- Time passes: every core's CYCLE, and TIME (R53). -/
def passTime (s : State) (cycles ticks : Nat) : State :=
  { s with time := s.time + BitVec.ofNat 64 ticks,
           cores := (upTo 0 256).map fun n =>
             let c := s.core n
             (n, { c with cycle := c.cycle + BitVec.ofNat 64 cycles,
                          wakes := c.wakes.map fun w => { w with age := w.age + cycles } }) }

/-- TIME_TICK (R53). -/
def execTimeTick (cycles ticks : Nat) (s : State) : Out := .next (passTime s cycles ticks)

/-! ### The step of a hart -/

/-- A hart that can do nothing: the turn passes to another running hart, and with none time passes, one tick of TIME
and 14 cycles (R53). -/
def rest (s : State) : State := if nextRunning s s.cur = s.cur then passTime s 14 1 else stall s

/-- What goes on while the moving hart's front end stands: its queue, the engines, or nothing. -/
def workStep (s : State) : State :=
  match queueStep s with
  | some t => t
  | none => match engineStep s with
    | some t => t
    | none => rest s

/-- Work that the device may do before the hart's next instruction, or hold (log 4). -/
def mayWork (work : State → Option State) (s : State) (go : State → Out) : Out :=
  match work s with
  | none => go s
  | some t =>
    let (hold, u) := s.pick 2
    if hold = 0 then .next ((if s.choices.isEmpty then some t else work u).getD u) else go u

/-- The front end issues nothing behind a gating command (R268, R305, R331, R384, R385, R387, R388). -/
def gated (h : Hart) : Bool := h.queue.any fun c => gates c.ins

/-- Fetch, decode and run the instruction at PC. -/
noncomputable def fetchStep (run : Instr → State → Out) (s : State) : Out :=
  match fetchWord s s.cur with
  | .error _ => execInstructionFetchFault s
  | .ok (t, w) =>
    match fetchHole s s.cur with
    | some loc => .fault (.deviceRegister loc)
    | none =>
      match decodeFor t t.cur w with
      | .err _ => execDecodeTableMiss w t
      | .ok i => run i (t.setMe { t.me with ir := w })

/-- The moving hart owes a token to a full drawer: it is not saved before that is paid, and runs on; DESIGN CHOICE, log 54. -/
def owesToken (s : State) : Bool := s.xfers.any fun x => x.owing && x.hart == s.cur

/-- Whether the moving hart stands where the strip-boundary form stops it, before its next SETVL (R415); a loop context of a farm
is never saved (R417). -/
noncomputable def atStrip (s : State) : Bool :=
  s.me.preempt.isSome && s.me.farm.isNone && s.me.priv == 0 && !owesToken s && (match nextInstr s s.cur with
    | some (.setvl _) => true
    | some (.setvlk _) => true
    | _ => false)

/-- Whether it can be saved there now: every earlier command has completed, and every transfer has retired (R415, R420). -/
def stripReady (s : State) : Bool := s.me.queue.isEmpty && mayLeave s s.cur

/-- The moving hart runs a farm that a pre-emption asks for and that still hands out strips (R417). -/
def farmToStop (s : State) : Bool :=
  match s.me.farm with
  | some (o, _) => (s.me.preempt.isSome || askedNow s s.me) && s.me.priv == 0 && (s.farm? o).any (!·.stop)
  | none => false

/-- The immediate form where it is asked for: the hart leaves, or waits for what CTXSV waits for, or stands (R415, R416). -/
def leaveStep (s : State) : Out :=
  if mayLeave s s.cur = false then .next (workStep s)
  else match execImmediatePreempt s with
    | .next t => .next (if t = s then workStep s else t)
    | x => x

/-- A running hart, with no vector cause to take. No rule orders a pre-emption or an empty quota (R364, R415) and an event (R62) that
meet at one boundary: the hart leaves, or stands, first, and the event stays pending; DESIGN CHOICE, log 52. -/
noncomputable def runningStep (run : Instr → State → Out) (s : State) : Out :=
  let h := s.me
  if farmToStop s then .next (stopFarm s s.cur)
  else if askedNow s h && h.priv == 0 && h.farm.isNone && !owesToken s then leaveStep s
  else if starved s h then .next (workStep s)
  else if atStrip s && stripReady s then execStripBoundaryPreempt s
  else if eventOpen h && !h.flt.events.isEmpty then execAsyncEventTake s
  else if gated h || atStrip s then .next (workStep s)
  else mayWork queueStep s fun s => mayWork engineStep s fun s => fetchStep run s

/-- The next move of the moving hart (R42, R62, R139, R399, R415). -/
noncomputable def hartStep (run : Instr → State → Out) (s : State) : Out :=
  match s.me.run with
  | .running =>
    (match causeStep s with
     | some t => .next t
     | none => runningStep run s)
  | .parked _ _ _ _ =>
    (match causeStep s with
     | some t => .next t
     | none => match wakeMe s with
       | some t => .next t
       | none => .next (workStep s))
  | _ => .next (workStep s)

/-- A byte that the host or a remote device writes in its own memory: coherent as any other store (R445, R449). -/
def outerWrite (s : State) (loc : Nat) (b : Byte) : State :=
  if (remoteBase ≤ loc ∧ loc < padBase) ∨ hostBase ≤ loc then
    clearMarks (clearLinks (rawPut (recallLines s none none loc 1) loc [b]) loc 1 none) loc 1
  else s

/-- One move of the machine, without what it leaves for later fetches. What the host and remote devices have written in their
own memory comes first. -/
noncomputable def oneMove (run : Instr → State → Out) (s : State) : Out :=
  match s.schedule with
  | [] => hartStep run s
  | m :: r =>
    let s := m.outer.foldl (fun s e => outerWrite s e.1 e.2) { s with schedule := r, cur := m.hart }
    match m.event with
    | none => hartStep run s
    | some i => if opcodeOf i = 0 then run i s else .next s

/-- One move of the machine: what the schedule lists, else the moving hart's own (log 3). The words that it replaces in
memory are kept for the fetches that may still see them (R56, R142). -/
noncomputable def machineStep (run : Instr → State → Out) (s : State) : Out := keepOld s (oneMove run s)

end Sys2Proof.Machine
end

