-- ==== Sys2Proof/Machine/ScalarFlt.lean ====
section
/-! DEFINITION. Scalar floating point (R42, R128 to R130): the format word is checked before anything else is
read. -/

namespace Sys2Proof.Machine

/-- The register of the format word (R42). -/
def fwReg (fs : BitVec 3) : Nat := 24 + fs.toNat

/-- A scalar floating instruction with a format check, the registers it reads beside the format word, and the value
and flags it writes. A poisoned source poisons the result and sets no flag (R409). Of a format word that is poisoned and fails its
check the poison comes first, here and in every vector command (R78, R409); DESIGN CHOICE, log 58. -/
def flt (check : W → Bool) (f : FS) (srcs : List Nat) (val : FW → Hart → W × Flags) (s : State) : Out :=
  let h := s.me
  let r := fwReg f.fs
  scalar s (f.a.toNat :: r :: srcs)
    (if farmBars h f.a then .trap (illegalCause s)
     else if h.rdP r then .trap (poisonCause s)
     else
       let w := h.rd r
       if !check w then .trap ⟨0x0A, w⟩
       else
         let (x, fl) := val (FW.of w) h
         let p := srcs.any h.rdP
         .ok (s.setMe (((h.wrP f.a.toNat x p).addFlags (if p then 0 else fl)).adv)))

/-- The pattern that a source format has in a g register (R74). -/
def gSrc (h : Hart) (code : Nat) (r : BitVec 5) : Nat := gPat code (h.rd r.toNat)

/-- A result in DST (R74). -/
def inDst (f : FW) (r : Nat × Flags) : W × Flags := (gResult f.dst r.1, r.2)

/-- An elementwise operation of two sources (R128). -/
def flt2 (op : FW → Nat → Nat → Nat × Flags) (f : FS) (s : State) : Out :=
  flt (fwElem · true) f [f.b.toNat, f.c.toNat]
    (fun w h => inDst w (op w (gSrc h w.src1 f.b) (gSrc h w.src1 f.c))) s

def execFadd (f : FS) (s : State) : Out := flt2 fAdd f s
def execFsub (f : FS) (s : State) : Out := flt2 fSub f s
def execFmul (f : FS) (s : State) : Out := flt2 fMul f s
def execFdiv (f : FS) (s : State) : Out := flt2 fDiv f s
def execFmin (f : FS) (s : State) : Out := flt2 fMin f s
def execFmax (f : FS) (s : State) : Out := flt2 fMax f s

def execFsqrt (f : FS) (s : State) : Out :=
  flt (fwElem · false) f [f.b.toNat] (fun w h => inDst w (fSqrt w (gSrc h w.src1 f.b))) s

/-- a × b + the old gd in ACC (R128). -/
def execFma (f : FS) (s : State) : Out :=
  flt fwFused f [f.b.toNat, f.c.toNat, f.a.toNat]
    (fun w h => inDst w (fFma w false false (gSrc h w.src1 f.b) (gSrc h w.src1 f.c) (gSrc h w.acc f.a))) s

/-- 1 or 0 by the condition in sub; no flag (R130). -/
def execFcmp (f : FS) (s : State) : Out :=
  flt (fwCmp · true) f [f.b.toNat, f.c.toNat]
    (fun w h => (if fCmp f.sub.toNat w (gSrc h w.src1 f.b) (gSrc h w.src1 f.c) then 1 else 0, 0)) s

/-- Conversion from SRC1 to DST (R92, R93). -/
def execFcvt (f : FS) (s : State) : Out :=
  flt (fwConv · true) f [f.b.toNat]
    (fun w h => inDst w (convert w.src1 w.dst w.rm w.ovf w.ts (some 0) false (gSrc h w.src1 f.b))) s

/-- The class mask of R130; no flag. -/
def execFclass (f : FS) (s : State) : Out :=
  flt (fwCmp · false) f [f.b.toNat] (fun w h => (BitVec.ofNat 64 (classOf w.src1 (gSrc h w.src1 f.b)), 0)) s

end Sys2Proof.Machine
end

