-- ==== Sys2Proof/Machine/ScalarInt.lean ====
section
/-! DEFINITION. Integer register and immediate operations, HIGH and PCREL (R117 to R121). -/

namespace Sys2Proof.Machine

/-- A register operation g[a] := op g[b] g[c] (R117). -/
def alu (op : W → W → W) (f : FS) (s : State) : Out :=
  scalar s [f.a.toNat, f.b.toNat, f.c.toNat]
    (writeBack s f.a (op (s.me.rd f.b.toNat) (s.me.rd f.c.toNat)) (s.me.rdP f.b.toNat || s.me.rdP f.c.toNat))

/-- A one-source register operation (R117). -/
def alu1 (op : W → W) (f : FS) (s : State) : Out :=
  scalar s [f.a.toNat, f.b.toNat] (writeBack s f.a (op (s.me.rd f.b.toNat)) (s.me.rdP f.b.toNat))

/-- An immediate operation with the operand already extended (R119). -/
def aluK (op : W → W → W) (k : BitVec 12 → W) (f : FI) (s : State) : Out :=
  scalar s [f.a.toNat, f.b.toNat] (writeBack s f.a (op (s.me.rd f.b.toNat) (k f.imm)) (s.me.rdP f.b.toNat))

def opMulh (a b : W) : W := BitVec.ofInt 64 (a.toInt * b.toInt / 2 ^ 64)
def opMulhu (a b : W) : W := BitVec.ofNat 64 (a.toNat * b.toNat / 2 ^ 64)

/-- Signed division toward zero; by zero all ones; −2^63 by −1 is −2^63 (R118). -/
def opDiv (a b : W) : W := if b = 0 then BitVec.allOnes 64 else BitVec.ofInt 64 (a.toInt.tdiv b.toInt)
def opDivu (a b : W) : W := if b = 0 then BitVec.allOnes 64 else BitVec.ofNat 64 (a.toNat / b.toNat)
def opMod (a b : W) : W := if b = 0 then a else BitVec.ofInt 64 (a.toInt.tmod b.toInt)
def opModu (a b : W) : W := if b = 0 then a else BitVec.ofNat 64 (a.toNat % b.toNat)

/-- Shifts take b[5:0] (R117). -/
def opShl (a b : W) : W := a <<< (b.toNat % 64)
def opShr (a b : W) : W := a >>> (b.toNat % 64)
def opSar (a b : W) : W := a.sshiftRight (b.toNat % 64)

def opLt (a b : W) : W := if a.toInt < b.toInt then 1 else 0
def opLtu (a b : W) : W := if a.toNat < b.toNat then 1 else 0
def opMin (a b : W) : W := if b.toInt < a.toInt then b else a
def opMax (a b : W) : W := if a.toInt < b.toInt then b else a
def opMinu (a b : W) : W := if b.toNat < a.toNat then b else a
def opMaxu (a b : W) : W := if a.toNat < b.toNat then b else a

def execAdd (f : FS) (s : State) : Out := alu (· + ·) f s
def execSub (f : FS) (s : State) : Out := alu (· - ·) f s
def execMul (f : FS) (s : State) : Out := alu (· * ·) f s
def execMulh (f : FS) (s : State) : Out := alu opMulh f s
def execMulhu (f : FS) (s : State) : Out := alu opMulhu f s
def execDiv (f : FS) (s : State) : Out := alu opDiv f s
def execDivu (f : FS) (s : State) : Out := alu opDivu f s
def execMod (f : FS) (s : State) : Out := alu opMod f s
def execModu (f : FS) (s : State) : Out := alu opModu f s
def execAnd (f : FS) (s : State) : Out := alu (· &&& ·) f s
def execOr (f : FS) (s : State) : Out := alu (· ||| ·) f s
def execXor (f : FS) (s : State) : Out := alu (· ^^^ ·) f s
def execShl (f : FS) (s : State) : Out := alu opShl f s
def execShr (f : FS) (s : State) : Out := alu opShr f s
def execSar (f : FS) (s : State) : Out := alu opSar f s
def execCmplt (f : FS) (s : State) : Out := alu opLt f s
def execCmpltu (f : FS) (s : State) : Out := alu opLtu f s
def execMin (f : FS) (s : State) : Out := alu opMin f s
def execMax (f : FS) (s : State) : Out := alu opMax f s
def execMinu (f : FS) (s : State) : Out := alu opMinu f s
def execMaxu (f : FS) (s : State) : Out := alu opMaxu f s
def execClz (f : FS) (s : State) : Out := alu1 (fun a => BitVec.ofNat 64 (clz 64 a.toNat)) f s
def execCtz (f : FS) (s : State) : Out := alu1 (fun a => BitVec.ofNat 64 (ctz 64 a.toNat)) f s
def execPopc (f : FS) (s : State) : Out := alu1 (fun a => BitVec.ofNat 64 (popc 64 a.toNat)) f s

def execAddk (f : FI) (s : State) : Out := aluK (· + ·) simm f s
def execAndk (f : FI) (s : State) : Out := aluK (· &&& ·) simm f s
def execOrk (f : FI) (s : State) : Out := aluK (· ||| ·) zimm f s
def execXork (f : FI) (s : State) : Out := aluK (· ^^^ ·) zimm f s
def execShlk (f : FI) (s : State) : Out := aluK opShl zimm f s
def execShrk (f : FI) (s : State) : Out := aluK opShr zimm f s
def execSark (f : FI) (s : State) : Out := aluK opSar zimm f s
def execCmpltk (f : FI) (s : State) : Out := aluK opLt simm f s
def execCmpltuk (f : FI) (s : State) : Out := aluK opLtu simm f s

/-- g[a] := imm17 × 2^47 (R120). -/
def execHigh (f : FU) (s : State) : Out :=
  scalar s [f.a.toNat] (writeBack s f.a (BitVec.ofNat 64 (f.imm.toNat * 2 ^ 47)) false)

/-- g[a] := PC + sext(imm17) × 4 (R121). -/
def execPcrel (f : FU) (s : State) : Out :=
  scalar s [f.a.toNat] (writeBack s f.a (s.me.pc + (f.imm.signExtend 64) <<< 2) false)

end Sys2Proof.Machine
end

