-- ==== Sys2Proof/Machine/Dispatch.lean ====
section
/-! DEFINITION. One arm per instruction or event, each a direct call of its meaning. -/

namespace Sys2Proof.Machine

open Host in noncomputable
def exec (i : Instr) (s : State) : Host.Outcome State Fault Refusal :=
  match i with
  | .add f => Sys2Proof.Machine.execAdd f s
  | .sub f => Sys2Proof.Machine.execSub f s
  | .mul f => Sys2Proof.Machine.execMul f s
  | .mulh f => Sys2Proof.Machine.execMulh f s
  | .mulhu f => Sys2Proof.Machine.execMulhu f s
  | .div f => Sys2Proof.Machine.execDiv f s
  | .divu f => Sys2Proof.Machine.execDivu f s
  | .mod f => Sys2Proof.Machine.execMod f s
  | .modu f => Sys2Proof.Machine.execModu f s
  | .and f => Sys2Proof.Machine.execAnd f s
  | .or f => Sys2Proof.Machine.execOr f s
  | .xor f => Sys2Proof.Machine.execXor f s
  | .shl f => Sys2Proof.Machine.execShl f s
  | .shr f => Sys2Proof.Machine.execShr f s
  | .sar f => Sys2Proof.Machine.execSar f s
  | .cmplt f => Sys2Proof.Machine.execCmplt f s
  | .cmpltu f => Sys2Proof.Machine.execCmpltu f s
  | .min f => Sys2Proof.Machine.execMin f s
  | .max f => Sys2Proof.Machine.execMax f s
  | .minu f => Sys2Proof.Machine.execMinu f s
  | .maxu f => Sys2Proof.Machine.execMaxu f s
  | .clz f => Sys2Proof.Machine.execClz f s
  | .ctz f => Sys2Proof.Machine.execCtz f s
  | .popc f => Sys2Proof.Machine.execPopc f s
  | .addk f => Sys2Proof.Machine.execAddk f s
  | .andk f => Sys2Proof.Machine.execAndk f s
  | .ork f => Sys2Proof.Machine.execOrk f s
  | .xork f => Sys2Proof.Machine.execXork f s
  | .shlk f => Sys2Proof.Machine.execShlk f s
  | .shrk f => Sys2Proof.Machine.execShrk f s
  | .sark f => Sys2Proof.Machine.execSark f s
  | .cmpltk f => Sys2Proof.Machine.execCmpltk f s
  | .cmpltuk f => Sys2Proof.Machine.execCmpltuk f s
  | .high f => Sys2Proof.Machine.execHigh f s
  | .pcrel f => Sys2Proof.Machine.execPcrel f s
  | .ld8 f => Sys2Proof.Machine.execLd8 f s
  | .ld8s f => Sys2Proof.Machine.execLd8s f s
  | .ld16 f => Sys2Proof.Machine.execLd16 f s
  | .ld16s f => Sys2Proof.Machine.execLd16s f s
  | .ld32 f => Sys2Proof.Machine.execLd32 f s
  | .ld32s f => Sys2Proof.Machine.execLd32s f s
  | .ld64 f => Sys2Proof.Machine.execLd64 f s
  | .st8 f => Sys2Proof.Machine.execSt8 f s
  | .st16 f => Sys2Proof.Machine.execSt16 f s
  | .st32 f => Sys2Proof.Machine.execSt32 f s
  | .st64 f => Sys2Proof.Machine.execSt64 f s
  | .beq f => Sys2Proof.Machine.execBeq f s
  | .bne f => Sys2Proof.Machine.execBne f s
  | .blt f => Sys2Proof.Machine.execBlt f s
  | .bge f => Sys2Proof.Machine.execBge f s
  | .bltu f => Sys2Proof.Machine.execBltu f s
  | .bgeu f => Sys2Proof.Machine.execBgeu f s
  | .jl f => Sys2Proof.Machine.execJl f s
  | .jlr f => Sys2Proof.Machine.execJlr f s
  | .fadd f => Sys2Proof.Machine.execFadd f s
  | .fsub f => Sys2Proof.Machine.execFsub f s
  | .fmul f => Sys2Proof.Machine.execFmul f s
  | .fdiv f => Sys2Proof.Machine.execFdiv f s
  | .fsqrt f => Sys2Proof.Machine.execFsqrt f s
  | .fma f => Sys2Proof.Machine.execFma f s
  | .fmin f => Sys2Proof.Machine.execFmin f s
  | .fmax f => Sys2Proof.Machine.execFmax f s
  | .fcmp f => Sys2Proof.Machine.execFcmp f s
  | .fcvt f => Sys2Proof.Machine.execFcvt f s
  | .fclass f => Sys2Proof.Machine.execFclass f s
  | .llinkw f => Sys2Proof.Machine.execLlinkw f s
  | .llinkd f => Sys2Proof.Machine.execLlinkd f s
  | .scondw f => Sys2Proof.Machine.execScondw f s
  | .scondd f => Sys2Proof.Machine.execScondd f s
  | .amoswapw f => Sys2Proof.Machine.execAmoswapw f s
  | .amoaddw f => Sys2Proof.Machine.execAmoaddw f s
  | .amoandw f => Sys2Proof.Machine.execAmoandw f s
  | .amoorw f => Sys2Proof.Machine.execAmoorw f s
  | .amoxorw f => Sys2Proof.Machine.execAmoxorw f s
  | .amominw f => Sys2Proof.Machine.execAmominw f s
  | .amomaxw f => Sys2Proof.Machine.execAmomaxw f s
  | .amominuw f => Sys2Proof.Machine.execAmominuw f s
  | .amomaxuw f => Sys2Proof.Machine.execAmomaxuw f s
  | .amoswapd f => Sys2Proof.Machine.execAmoswapd f s
  | .amoaddd f => Sys2Proof.Machine.execAmoaddd f s
  | .amoandd f => Sys2Proof.Machine.execAmoandd f s
  | .amoord f => Sys2Proof.Machine.execAmoord f s
  | .amoxord f => Sys2Proof.Machine.execAmoxord f s
  | .amomind f => Sys2Proof.Machine.execAmomind f s
  | .amomaxd f => Sys2Proof.Machine.execAmomaxd f s
  | .amominud f => Sys2Proof.Machine.execAmominud f s
  | .amomaxud f => Sys2Proof.Machine.execAmomaxud f s
  | .trap f => Sys2Proof.Machine.execTrap f s
  | .eret f => Sys2Proof.Machine.execEret f s
  | .eretReplay f => Sys2Proof.Machine.execEretReplay f s
  | .brk f => Sys2Proof.Machine.execBrk f s
  | .park f => Sys2Proof.Machine.execPark f s
  | .fence f => Sys2Proof.Machine.execFence f s
  | .crd f => Sys2Proof.Machine.execCrd f s
  | .cwr f => Sys2Proof.Machine.execCwr f s
  | .cset f => Sys2Proof.Machine.execCset f s
  | .cclr f => Sys2Proof.Machine.execCclr f s
  | .dtload f => Sys2Proof.Machine.execDtload f s
  | .iflush f => Sys2Proof.Machine.execIflush f s
  | .tlbinv f => Sys2Proof.Machine.execTlbinv f s
  | .ctxsv f => Sys2Proof.Machine.execCtxsv f s
  | .ctxld f => Sys2Proof.Machine.execCtxld f s
  | .setvl f => Sys2Proof.Machine.execSetvl f s
  | .setvlk f => Sys2Proof.Machine.execSetvlk f s
  | .shape f => Sys2Proof.Machine.execShape f s
  | .vfold f => Sys2Proof.Machine.execVfold f s
  | .vfoldto f => Sys2Proof.Machine.execVfoldto f s
  | .vadd f => Sys2Proof.Machine.execVadd f s
  | .vsub f => Sys2Proof.Machine.execVsub f s
  | .vrsub f => Sys2Proof.Machine.execVrsub f s
  | .vmul f => Sys2Proof.Machine.execVmul f s
  | .vmulh f => Sys2Proof.Machine.execVmulh f s
  | .vmulhu f => Sys2Proof.Machine.execVmulhu f s
  | .vdiv f => Sys2Proof.Machine.execVdiv f s
  | .vmod f => Sys2Proof.Machine.execVmod f s
  | .vand f => Sys2Proof.Machine.execVand f s
  | .vor f => Sys2Proof.Machine.execVor f s
  | .vxor f => Sys2Proof.Machine.execVxor f s
  | .vshl f => Sys2Proof.Machine.execVshl f s
  | .vshr f => Sys2Proof.Machine.execVshr f s
  | .vsar f => Sys2Proof.Machine.execVsar f s
  | .vmin f => Sys2Proof.Machine.execVmin f s
  | .vmax f => Sys2Proof.Machine.execVmax f s
  | .vminu f => Sys2Proof.Machine.execVminu f s
  | .vmaxu f => Sys2Proof.Machine.execVmaxu f s
  | .vadds f => Sys2Proof.Machine.execVadds f s
  | .vsubs f => Sys2Proof.Machine.execVsubs f s
  | .vclz f => Sys2Proof.Machine.execVclz f s
  | .vpope f => Sys2Proof.Machine.execVpope f s
  | .vaddVs f => Sys2Proof.Machine.execVaddVs f s
  | .vsubVs f => Sys2Proof.Machine.execVsubVs f s
  | .vrsubVs f => Sys2Proof.Machine.execVrsubVs f s
  | .vmulVs f => Sys2Proof.Machine.execVmulVs f s
  | .vmulhVs f => Sys2Proof.Machine.execVmulhVs f s
  | .vmulhuVs f => Sys2Proof.Machine.execVmulhuVs f s
  | .vdivVs f => Sys2Proof.Machine.execVdivVs f s
  | .vmodVs f => Sys2Proof.Machine.execVmodVs f s
  | .vandVs f => Sys2Proof.Machine.execVandVs f s
  | .vorVs f => Sys2Proof.Machine.execVorVs f s
  | .vxorVs f => Sys2Proof.Machine.execVxorVs f s
  | .vshlVs f => Sys2Proof.Machine.execVshlVs f s
  | .vshrVs f => Sys2Proof.Machine.execVshrVs f s
  | .vsarVs f => Sys2Proof.Machine.execVsarVs f s
  | .vminVs f => Sys2Proof.Machine.execVminVs f s
  | .vmaxVs f => Sys2Proof.Machine.execVmaxVs f s
  | .vminuVs f => Sys2Proof.Machine.execVminuVs f s
  | .vmaxuVs f => Sys2Proof.Machine.execVmaxuVs f s
  | .vaddsVs f => Sys2Proof.Machine.execVaddsVs f s
  | .vsubsVs f => Sys2Proof.Machine.execVsubsVs f s
  | .vceq f => Sys2Proof.Machine.execVceq f s
  | .vcne f => Sys2Proof.Machine.execVcne f s
  | .vclt f => Sys2Proof.Machine.execVclt f s
  | .vcle f => Sys2Proof.Machine.execVcle f s
  | .vcltu f => Sys2Proof.Machine.execVcltu f s
  | .vcleu f => Sys2Proof.Machine.execVcleu f s
  | .vceqVs f => Sys2Proof.Machine.execVceqVs f s
  | .vcneVs f => Sys2Proof.Machine.execVcneVs f s
  | .vcltVs f => Sys2Proof.Machine.execVcltVs f s
  | .vcleVs f => Sys2Proof.Machine.execVcleVs f s
  | .vcltuVs f => Sys2Proof.Machine.execVcltuVs f s
  | .vcleuVs f => Sys2Proof.Machine.execVcleuVs f s
  | .vfeq f => Sys2Proof.Machine.execVfeq f s
  | .vfne f => Sys2Proof.Machine.execVfne f s
  | .vflt f => Sys2Proof.Machine.execVflt f s
  | .vfle f => Sys2Proof.Machine.execVfle f s
  | .vford f => Sys2Proof.Machine.execVford f s
  | .vfadd f => Sys2Proof.Machine.execVfadd f s
  | .vfsub f => Sys2Proof.Machine.execVfsub f s
  | .vfmul f => Sys2Proof.Machine.execVfmul f s
  | .vfdiv f => Sys2Proof.Machine.execVfdiv f s
  | .vfsqrt f => Sys2Proof.Machine.execVfsqrt f s
  | .vfma f => Sys2Proof.Machine.execVfma f s
  | .vfms f => Sys2Proof.Machine.execVfms f s
  | .vfnma f => Sys2Proof.Machine.execVfnma f s
  | .vfmin f => Sys2Proof.Machine.execVfmin f s
  | .vfmax f => Sys2Proof.Machine.execVfmax f s
  | .vfsgn f => Sys2Proof.Machine.execVfsgn f s
  | .vfcvt f => Sys2Proof.Machine.execVfcvt f s
  | .vfclass f => Sys2Proof.Machine.execVfclass f s
  | .vfexp f => Sys2Proof.Machine.execVfexp f s
  | .vflog f => Sys2Proof.Machine.execVflog f s
  | .vmerge f => Sys2Proof.Machine.execVmerge f s
  | .vmov f => Sys2Proof.Machine.execVmov f s
  | .vsplat f => Sys2Proof.Machine.execVsplat f s
  | .vtog f => Sys2Proof.Machine.execVtog f s
  | .vfromg f => Sys2Proof.Machine.execVfromg f s
  | .vext f => Sys2Proof.Machine.execVext f s
  | .vindex f => Sys2Proof.Machine.execVindex f s
  | .vprefix f => Sys2Proof.Machine.execVprefix f s
  | .vslup f => Sys2Proof.Machine.execVslup f s
  | .vsldn f => Sys2Proof.Machine.execVsldn f s
  | .vsl1up f => Sys2Proof.Machine.execVsl1up f s
  | .vsl1dn f => Sys2Proof.Machine.execVsl1dn f s
  | .vperm f => Sys2Proof.Machine.execVperm f s
  | .vpack f => Sys2Proof.Machine.execVpack f s
  | .mand f => Sys2Proof.Machine.execMand f s
  | .mor f => Sys2Proof.Machine.execMor f s
  | .mxor f => Sys2Proof.Machine.execMxor f s
  | .mandn f => Sys2Proof.Machine.execMandn f s
  | .mmov f => Sys2Proof.Machine.execMmov f s
  | .mfromv f => Sys2Proof.Machine.execMfromv f s
  | .mtov f => Sys2Proof.Machine.execMtov f s
  | .mpopc f => Sys2Proof.Machine.execMpopc f s
  | .mffs f => Sys2Proof.Machine.execMffs f s
  | .mbefore f => Sys2Proof.Machine.execMbefore f s
  | .mthrough f => Sys2Proof.Machine.execMthrough f s
  | .monly f => Sys2Proof.Machine.execMonly f s
  | .vrsum f => Sys2Proof.Machine.execVrsum f s
  | .vrmax f => Sys2Proof.Machine.execVrmax f s
  | .vrmin f => Sys2Proof.Machine.execVrmin f s
  | .vrand f => Sys2Proof.Machine.execVrand f s
  | .vror f => Sys2Proof.Machine.execVror f s
  | .vrxor f => Sys2Proof.Machine.execVrxor f s
  | .vwrsum f => Sys2Proof.Machine.execVwrsum f s
  | .vfrsum f => Sys2Proof.Machine.execVfrsum f s
  | .vfrsumt f => Sys2Proof.Machine.execVfrsumt f s
  | .vfrmax f => Sys2Proof.Machine.execVfrmax f s
  | .vfrmin f => Sys2Proof.Machine.execVfrmin f s
  | .vld f => Sys2Proof.Machine.execVld f s
  | .vlds f => Sys2Proof.Machine.execVlds f s
  | .vldx f => Sys2Proof.Machine.execVldx f s
  | .vldff f => Sys2Proof.Machine.execVldff f s
  | .vldm f => Sys2Proof.Machine.execVldm f s
  | .vst f => Sys2Proof.Machine.execVst f s
  | .vsts f => Sys2Proof.Machine.execVsts f s
  | .vstx f => Sys2Proof.Machine.execVstx f s
  | .vstxo f => Sys2Proof.Machine.execVstxo f s
  | .vstm f => Sys2Proof.Machine.execVstm f s
  | .vamoswap f => Sys2Proof.Machine.execVamoswap f s
  | .vamoadd f => Sys2Proof.Machine.execVamoadd f s
  | .vamoand f => Sys2Proof.Machine.execVamoand f s
  | .vamoor f => Sys2Proof.Machine.execVamoor f s
  | .vamoxor f => Sys2Proof.Machine.execVamoxor f s
  | .vamomin f => Sys2Proof.Machine.execVamomin f s
  | .vamomax f => Sys2Proof.Machine.execVamomax f s
  | .vamominu f => Sys2Proof.Machine.execVamominu f s
  | .vamomaxu f => Sys2Proof.Machine.execVamomaxu f s
  | .vamofadd f => Sys2Proof.Machine.execVamofadd f s
  | .vgll f => Sys2Proof.Machine.execVgll f s
  | .vscc f => Sys2Proof.Machine.execVscc f s
  | .vwait f => Sys2Proof.Machine.execVwait f s
  | .vsredadd f => Sys2Proof.Machine.execVsredadd f s
  | .vsredmax f => Sys2Proof.Machine.execVsredmax f s
  | .vsredmin f => Sys2Proof.Machine.execVsredmin f s
  | .vsredfadd f => Sys2Proof.Machine.execVsredfadd f s
  | .vmredadd f => Sys2Proof.Machine.execVmredadd f s
  | .vmredmax f => Sys2Proof.Machine.execVmredmax f s
  | .vmredmin f => Sys2Proof.Machine.execVmredmin f s
  | .vmredfadd f => Sys2Proof.Machine.execVmredfadd f s
  | .tres f => Sys2Proof.Machine.execTres f s
  | .tevict f => Sys2Proof.Machine.execTevict f s
  | .tdemote f => Sys2Proof.Machine.execTdemote f s
  | .stmap f => Sys2Proof.Machine.execStmap f s
  | .cways f => Sys2Proof.Machine.execCways f s
  | .vmmad f => Sys2Proof.Machine.execVmmad f s
  | .vmmar f => Sys2Proof.Machine.execVmmar f s
  | .vmmao f => Sys2Proof.Machine.execVmmao f s
  | .vmmas f => Sys2Proof.Machine.execVmmas f s
  | .vlgmul f => Sys2Proof.Machine.execVlgmul f s
  | .vlgacc f => Sys2Proof.Machine.execVlgacc f s
  | .vlgcvt f => Sys2Proof.Machine.execVlgcvt f s
  | .vscale f => Sys2Proof.Machine.execVscale f s
  | .vamax f => Sys2Proof.Machine.execVamax f s
  | .vquant f => Sys2Proof.Machine.execVquant f s
  | .bxg f => Sys2Proof.Machine.execBxg f s
  | .bxc f => Sys2Proof.Machine.execBxc f s
  | .bxsRow f => Sys2Proof.Machine.execBxsRow f s
  | .bxsStream f => Sys2Proof.Machine.execBxsStream f s
  | .shinit f => Sys2Proof.Machine.execShinit f s
  | .shacq f => Sys2Proof.Machine.execShacq f s
  | .shcom f => Sys2Proof.Machine.execShcom f s
  | .shwait f => Sys2Proof.Machine.execShwait f s
  | .shrel f => Sys2Proof.Machine.execShrel f s
  | .bset f => Sys2Proof.Machine.execBset f s
  | .barv f => Sys2Proof.Machine.execBarv f s
  | .bwait f => Sys2Proof.Machine.execBwait f s
  | .bexp f => Sys2Proof.Machine.execBexp f s
  | .bret f => Sys2Proof.Machine.execBret f s
  | .tkdef f => Sys2Proof.Machine.execTkdef f s
  | .tkdep f => Sys2Proof.Machine.execTkdep f s
  | .tksig f => Sys2Proof.Machine.execTksig f s
  | .tkspawn f => Sys2Proof.Machine.execTkspawn f s
  | .tkend f => Sys2Proof.Machine.execTkend f s
  | .tkfree f => Sys2Proof.Machine.execTkfree f s
  | .sfstart f => Sys2Proof.Machine.execSfstart f s
  | .sfnext f => Sys2Proof.Machine.execSfnext f s
  | .sfend f => Sys2Proof.Machine.execSfend f s
  | .drpush f => Sys2Proof.Machine.execDrpush f s
  | .drpop f => Sys2Proof.Machine.execDrpop f s
  | .drgn f => Sys2Proof.Machine.execDrgn f s
  | .dmode f => Sys2Proof.Machine.execDmode f s
  | .dtape f => Sys2Proof.Machine.execDtape f s
  | .drest f => Sys2Proof.Machine.execDrest f s
  | .dmark f => Sys2Proof.Machine.execDmark f s
  | .kpage f => Sys2Proof.Machine.execKpage f s
  | .ksel f => Sys2Proof.Machine.execKsel f s
  | .kgat f => Sys2Proof.Machine.execKgat f s
  | .ksync f => Sys2Proof.Machine.execKsync f s
  | .packageReset => Sys2Proof.Machine.execPackageReset s
  | .bootHartStart => Sys2Proof.Machine.execBootHartStart s
  | .hrun x => Sys2Proof.Machine.execHrun x s
  | .controlRegisterWrite n x => Sys2Proof.Machine.execControlRegisterWrite n x s
  | .atpWrite x => Sys2Proof.Machine.execAtpWrite x s
  | .timeWrite x => Sys2Proof.Machine.execTimeWrite x s
  | .poolCarveWrite n x => Sys2Proof.Machine.execPoolCarveWrite n x s
  | .callotWrite x => Sys2Proof.Machine.execCallotWrite x s
  | .droopClear => Sys2Proof.Machine.execDroopClear s
  | .keyLoad => Sys2Proof.Machine.execKeyLoad s
  | .keyErase => Sys2Proof.Machine.execKeyErase s
  | .contextExport => Sys2Proof.Machine.execContextExport s
  | .contextImport => Sys2Proof.Machine.execContextImport s
  | .blkownWrite x => Sys2Proof.Machine.execBlkownWrite x s
  | .doorbell ctx x => Sys2Proof.Machine.execDoorbell ctx x s
  | .ckrun x => Sys2Proof.Machine.execCkrun x s
  | .snapshotPoint => Sys2Proof.Machine.execSnapshotPoint s
  | .checkpointBlockStream block => Sys2Proof.Machine.execCheckpointBlockStream block s
  | .asyncEventTake => Sys2Proof.Machine.execAsyncEventTake s
  | .vectorFaultDelivery => Sys2Proof.Machine.execVectorFaultDelivery s
  | .grantLoss => Sys2Proof.Machine.execGrantLoss s
  | .poisonRecord => Sys2Proof.Machine.execPoisonRecord s
  | .memoryError loc => Sys2Proof.Machine.execMemoryError loc s
  | .laneError core lane reg unc => Sys2Proof.Machine.execLaneError core lane reg unc s
  | .unitError kind index unc => Sys2Proof.Machine.execUnitError kind index unc s
  | .errorAgeOut kind index => Sys2Proof.Machine.execErrorAgeOut kind index s
  | .budgetRefresh x => Sys2Proof.Machine.execBudgetRefresh x s
  | .quotaRefill ctx => Sys2Proof.Machine.execQuotaRefill ctx s
  | .hardShrink lanes => Sys2Proof.Machine.execHardShrink lanes s
  | .scriptShrinkCount => Sys2Proof.Machine.execScriptShrinkCount s
  | .currentLimitEmergency core => Sys2Proof.Machine.execCurrentLimitEmergency core s
  | .phaseTrip region phase unc => Sys2Proof.Machine.execPhaseTrip region phase unc s
  | .phaseReturn region phase pass => Sys2Proof.Machine.execPhaseReturn region phase pass s
  | .supplyDroop region millivolts step => Sys2Proof.Machine.execSupplyDroop region millivolts step s
  | .regulatorFail region dirty => Sys2Proof.Machine.execRegulatorFail region dirty s
  | .sensorSample die x => Sys2Proof.Machine.execSensorSample die x s
  | .clusterWakeRequest core clusters => Sys2Proof.Machine.execClusterWakeRequest core clusters s
  | .wakeNeighbourClear core => Sys2Proof.Machine.execWakeNeighbourClear core s
  | .wakeWaitTimeout core => Sys2Proof.Machine.execWakeWaitTimeout core s
  | .wakeStageStep core => Sys2Proof.Machine.execWakeStageStep core s
  | .taskPlace ctx slot harts => Sys2Proof.Machine.execTaskPlace ctx slot harts s
  | .preemptWaitExpiry ctx slot => Sys2Proof.Machine.execPreemptWaitExpiry ctx slot s
  | .stripBoundaryPreempt => Sys2Proof.Machine.execStripBoundaryPreempt s
  | .immediatePreempt => Sys2Proof.Machine.execImmediatePreempt s
  | .stripPreemptTimeout => Sys2Proof.Machine.execStripPreemptTimeout s
  | .farmRecruit hart => Sys2Proof.Machine.execFarmRecruit hart s
  | .parkWake => Sys2Proof.Machine.execParkWake s
  | .parkTimeout => Sys2Proof.Machine.execParkTimeout s
  | .vwaitTimeout => Sys2Proof.Machine.execVwaitTimeout s
  | .vwaitSatisfied => Sys2Proof.Machine.execVwaitSatisfied s
  | .shelfWaitEnd => Sys2Proof.Machine.execShelfWaitEnd s
  | .barrierWaitEnd => Sys2Proof.Machine.execBarrierWaitEnd s
  | .tokenArrival => Sys2Proof.Machine.execTokenArrival s
  | .drawerRoom => Sys2Proof.Machine.execDrawerRoom s
  | .chunkComplete x j => Sys2Proof.Machine.execChunkComplete x j s
  | .transferRetire x => Sys2Proof.Machine.execTransferRetire x s
  | .amaxDrainApply k => Sys2Proof.Machine.execAmaxDrainApply k s
  | .migrateLineCopy block => Sys2Proof.Machine.execMigrateLineCopy block s
  | .migrateCommit block => Sys2Proof.Machine.execMigrateCommit block s
  | .wpMigrateLineCopy block line => Sys2Proof.Machine.execWpMigrateLineCopy block line s
  | .wpMigrateCommit block => Sys2Proof.Machine.execWpMigrateCommit block s
  | .flitReceive port ok => Sys2Proof.Machine.execFlitReceive port ok s
  | .portDown port => Sys2Proof.Machine.execPortDown port s
  | .remoteRequest x => Sys2Proof.Machine.execRemoteRequest x s
  | .remoteAck id => Sys2Proof.Machine.execRemoteAck id s
  | .hostMemWrite off bytes => Sys2Proof.Machine.execHostMemWrite off bytes s
  | .hostMemRead off n => Sys2Proof.Machine.execHostMemRead off n s
  | .cxlLinkUp width flit => Sys2Proof.Machine.execCxlLinkUp width flit s
  | .cxlLinkDown => Sys2Proof.Machine.execCxlLinkDown s
  | .getVersion => Sys2Proof.Machine.execGetVersion s
  | .getCapabilities => Sys2Proof.Machine.execGetCapabilities s
  | .negotiateAlgorithms p521 sha512 => Sys2Proof.Machine.execNegotiateAlgorithms p521 sha512 s
  | .getDigests => Sys2Proof.Machine.execGetDigests s
  | .getCertificate => Sys2Proof.Machine.execGetCertificate s
  | .challenge nonce => Sys2Proof.Machine.execChallenge nonce s
  | .getMeasurements index ctx => Sys2Proof.Machine.execGetMeasurements index ctx s
  | .unsupportedRequest code => Sys2Proof.Machine.execUnsupportedRequest code s
  | .decodeTableMiss w => Sys2Proof.Machine.execDecodeTableMiss w s
  | .instructionFetchFault => Sys2Proof.Machine.execInstructionFetchFault s
  | .timeTick cycles ticks => Sys2Proof.Machine.execTimeTick cycles ticks s
  | .commandDispatch => Sys2Proof.Machine.execCommandDispatch s
  | .portUp port => Sys2Proof.Machine.execPortUp port s
  | .railRemoval => Sys2Proof.Machine.execRailRemoval s
  | .controlPageWrite off x => Sys2Proof.Machine.execControlPageWrite off x s
  | .pstatWrite x => Sys2Proof.Machine.execPstatWrite x s

end Sys2Proof.Machine
end

