-- ==== Sys2Proof/Machine/Step.lean ====
section
/-! DEFINITION. One move of the machine, and a word placed where the next move fetches. -/

namespace Sys2Proof.Machine

/-- One move: what the schedule lists, else the moving hart's own (R42; log 3). -/
noncomputable def step (s : State) : Host.Outcome State Fault Refusal := machineStep exec s

/-- The state with the bits `w` of an instruction stored where the moving hart fetches next. Every instruction is one
word (R94). -/
def State.withFetchWord (s : State) (_nbits w : Nat) : State := putFetch s w

end Sys2Proof.Machine
end

