-- ==== Sys2Proof/Safety.lean ====
section
/-! DEFINITION. What the claims speak of: a run that no stop ends, the states in which an instruction's own effect is what
its step does, and what an instruction leaves alone. -/

namespace Sys2Proof.Machine

/-- A run of `k` moves that no fault ends. -/
def StaysUp : Nat → State → Prop
  | 0, _ => True
  | k + 1, s => ∃ t, step s = .next t ∧ StaysUp k t

/-- Nothing that the moving hart began is unfinished: no command queued or reported, no transfer in flight, no grant
script in force, no farm, no vector access under way (R242), and no choice listed, so that a vector command dispatches
as it issues (R171, R335; log 4). -/
def Quiet (s : State) : Prop :=
  s.me.queue = [] ∧ s.me.gwait = [] ∧ s.me.flt.pending = none ∧ bit s.me.flt.vfstat 0 = false ∧
    bit s.me.vec.gsctl 15 = false ∧ s.me.farm = none ∧ s.choices = [] ∧ s.xfers = [] ∧
    s.pin = none

/-- Memory is plain: no checkpoint streams, no line was written under a key, no key-cache slot is bound, no region is
dark, and no word is marked. -/
def PlainMem (s : State) : Prop :=
  s.ckState ≠ 2 ∧ s.lineKeys = [] ∧ s.marks = [] ∧ s.regions = [] ∧ boundSlots s = []

/-- The moving hart alone may differ between two states: everything that belongs to no hart is the same, and so is
every other hart. -/
def OnlyMe (s t : State) : Prop := t = { s with harts := t.harts } ∧ ∀ n, n ≠ s.cur → t.hart n = s.hart n

/-- The same g register and the same poison of it. -/
def SameG (s t : State) (r : Nat) : Prop := t.me.rd r = s.me.rd r ∧ t.me.rdP r = s.me.rdP r

/-- The g registers outside a list are the same. -/
def SameGBut (s t : State) (ds : List Nat) : Prop := ∀ r, r < 32 → r ∉ ds → SameG s t r

/-- Every special register of the moving hart is the same: traps and saved state, vector registers, faults, queue,
tape, window, drawers, context, task and link. -/
def SameSpecial (s t : State) : Prop :=
  t.me.trap = s.me.trap ∧ t.me.vec = s.me.vec ∧ t.me.flt = s.me.flt ∧ t.me.queue = s.me.queue ∧ t.me.link = s.me.link ∧
    t.me.mode = s.me.mode ∧ t.me.tapeptr = s.me.tapeptr ∧ t.me.tapelim = s.me.tapelim ∧
    t.me.tapebase = s.me.tapebase ∧ t.me.lwin = s.me.lwin ∧ t.me.drawers = s.me.drawers ∧ t.me.ctx = s.me.ctx ∧
    t.me.task = s.me.task ∧ t.me.farm = s.me.farm ∧ t.me.run = s.me.run

/-- Every byte of memory reads as before. -/
def SameMem (s t : State) : Prop := ∀ a, memGet t.mem a = memGet s.mem a

/-- Every byte outside `n` bytes at `loc` reads as before. -/
def SameMemBut (s t : State) (loc n : Nat) : Prop := ∀ a, ¬ (loc ≤ a ∧ a < loc + n) → memGet t.mem a = memGet s.mem a

/-- The state after a vector command that gave the moving hart these vector registers and raised these flags: PC has
advanced and the command is counted (R43, R83, R162). -/
def ran (s : State) (v : VecRegs) (fl : Flags) : State :=
  s.setMe { s.me with pc := nextPc s.me.pc, fflags := s.me.fflags ||| fl, vec := { v with stripDone := v.stripDone + 1 } }

/-- The same of a command that also writes a g register. -/
def ranG (s : State) (v : VecRegs) (fl : Flags) (d : Nat) (x : W) (p : Bool) : State :=
  s.setMe { s.me.wrP d x p with
    pc := nextPc s.me.pc, fflags := s.me.fflags ||| fl, vec := { v with stripDone := v.stripDone + 1 } }

/-- The state after a vector command that left the state `u`: PC has advanced and the command is counted. -/
def ranTo (s u : State) : State :=
  u.setMe { u.me with pc := nextPc s.me.pc, vec := { u.me.vec with stripDone := u.me.vec.stripDone + 1 } }

end Sys2Proof.Machine
end

