-- ==== Sys2Proof/Certificates/Slice0/Obligations.lean ====
section
/-! DEFINITION. The statements for the provers. Values are written from the tables of the manual, as integers; what a
statement takes from the model's own choices says so, and names the log entry. -/

namespace Sys2Proof.Rules

open Sys2Proof.Machine

/-! ### Scalar values (R117 to R121) -/

/-- A scalar result: destination, the g registers read, and the value. -/
structure Result where
  d : BitVec 5
  srcs : List (BitVec 5)
  val : W

/-- A value of R117, from the integers that a and b stand for. -/
def two (g : BitVec 5 → W) (f : FS) (x : W → W → Int) : Option Result :=
  some ⟨f.a, [f.b, f.c], BitVec.ofInt 64 (x (g f.b) (g f.c))⟩

def one (g : BitVec 5 → W) (f : FS) (x : W → Nat) : Option Result := some ⟨f.a, [f.b], BitVec.ofNat 64 (x (g f.b))⟩

/-- A value of R119: b is the extended imm12. -/
def imm (g : BitVec 5 → W) (f : FI) (k : W) (x : W → W → Int) : Option Result :=
  some ⟨f.a, [f.b], BitVec.ofInt 64 (x (g f.b) k)⟩

/-- Quotients rounded toward zero, and the borderline operands of R118. -/
def sdiv (a b : W) : Int := if b = 0 then -1 else a.toInt.tdiv b.toInt
def udiv (a b : W) : Int := if b = 0 then -1 else (a.toNat / b.toNat : Nat)
def smod (a b : W) : Int := if b = 0 then a.toInt else a.toInt - a.toInt.tdiv b.toInt * b.toInt
def umod (a b : W) : Int := if b = 0 then a.toNat else (a.toNat : Int) - (a.toNat / b.toNat : Nat) * b.toNat

def flag (p : Prop) [Decidable p] : Int := if p then 1 else 0

/-- b[5:0]. -/
def low6 (b : W) : Nat := b.toNat % 64

/-- The scalar integer instructions: `g` reads a register, `pc` is the instruction's own address. -/
def scalarRule (g : BitVec 5 → W) (pc : W) : Instr → Option Result
  | .add f => two g f fun a b => a.toInt + b.toInt
  | .sub f => two g f fun a b => a.toInt - b.toInt
  | .mul f => two g f fun a b => a.toInt * b.toInt
  | .mulh f => two g f fun a b => (a.toInt * b.toInt).fdiv (2 ^ 64)
  | .mulhu f => two g f fun a b => (a.toNat * b.toNat / 2 ^ 64 : Nat)
  | .div f => two g f sdiv
  | .divu f => two g f udiv
  | .mod f => two g f smod
  | .modu f => two g f umod
  | .and f => some ⟨f.a, [f.b, f.c], g f.b &&& g f.c⟩
  | .or f => some ⟨f.a, [f.b, f.c], g f.b ||| g f.c⟩
  | .xor f => some ⟨f.a, [f.b, f.c], g f.b ^^^ g f.c⟩
  | .shl f => two g f fun a b => a.toInt * 2 ^ low6 b
  | .shr f => two g f fun a b => (a.toNat / 2 ^ low6 b : Nat)
  | .sar f => two g f fun a b => a.toInt.fdiv (2 ^ low6 b)
  | .cmplt f => two g f fun a b => flag (a.toInt < b.toInt)
  | .cmpltu f => two g f fun a b => flag (a.toNat < b.toNat)
  | .min f => two g f fun a b => Min.min a.toInt b.toInt
  | .max f => two g f fun a b => Max.max a.toInt b.toInt
  | .minu f => two g f fun a b => (Min.min a.toNat b.toNat : Nat)
  | .maxu f => two g f fun a b => (Max.max a.toNat b.toNat : Nat)
  | .clz f => one g f fun a => if a = 0 then 64 else 63 - Nat.log2 a.toNat
  | .ctz f => one g f fun a => ((List.range 64).find? fun i => a.getLsbD i).getD 64
  | .popc f => one g f fun a => ((List.range 64).filter fun i => a.getLsbD i).length
  | .addk f => imm g f (f.imm.signExtend 64) fun a b => a.toInt + b.toInt
  | .andk f => some ⟨f.a, [f.b], g f.b &&& f.imm.signExtend 64⟩
  | .ork f => some ⟨f.a, [f.b], g f.b ||| f.imm.setWidth 64⟩
  | .xork f => some ⟨f.a, [f.b], g f.b ^^^ f.imm.setWidth 64⟩
  | .shlk f => imm g f (f.imm.setWidth 64) fun a b => a.toInt * 2 ^ low6 b
  | .shrk f => imm g f (f.imm.setWidth 64) fun a b => (a.toNat / 2 ^ low6 b : Nat)
  | .sark f => imm g f (f.imm.setWidth 64) fun a b => a.toInt.fdiv (2 ^ low6 b)
  | .cmpltk f => imm g f (f.imm.signExtend 64) fun a b => flag (a.toInt < b.toInt)
  | .cmpltuk f => imm g f (f.imm.signExtend 64) fun a b => flag (a.toNat < b.toNat)
  | .high f => some ⟨f.a, [], BitVec.ofNat 64 (f.imm.toNat * 2 ^ 47)⟩
  | .pcrel f => some ⟨f.a, [], BitVec.ofInt 64 (pc.toInt + f.imm.toInt * 4)⟩
  | _ => none

/-- The register numbers of a result. -/
def Result.regs (r : Result) : List Nat := r.d.toNat :: r.srcs.map (·.toNat)

/-- The g registers as an instruction of the moving hart reads them. -/
def gv (s : State) (r : BitVec 5) : W := s.me.rd r.toNat

/-- The condition of a branch (R125). -/
def branchRule : Instr → Option (FI × (W → W → Bool))
  | .beq f => some (f, fun a b => decide (a = b))
  | .bne f => some (f, fun a b => decide (a ≠ b))
  | .blt f => some (f, fun a b => decide (a.toInt < b.toInt))
  | .bge f => some (f, fun a b => decide (b.toInt ≤ a.toInt))
  | .bltu f => some (f, fun a b => decide (a.toNat < b.toNat))
  | .bgeu f => some (f, fun a b => decide (b.toNat ≤ a.toNat))
  | _ => none

/-- A scalar floating instruction: fields, the registers it reads beside the format word, the check of its class (R77),
and the value and flags of R128 to R130 on the g registers. -/
structure FltRule where
  f : FS
  srcs : List (BitVec 5)
  ok : W → Bool
  val : FW → W × Flags

/-- A result that the operations of R80 give, as DST stands in a g register (R74). -/
def inG (w : FW) (r : Nat × Flags) : W × Flags := (gResult w.dst r.1, r.2)

def fltRule (g : BitVec 5 → W) : Instr → Option FltRule
  | .fadd f => some ⟨f, [f.b, f.c], (fwElem · true), fun w => inG w (fAdd w (gPat w.src1 (g f.b)) (gPat w.src1 (g f.c)))⟩
  | .fsub f => some ⟨f, [f.b, f.c], (fwElem · true), fun w => inG w (fSub w (gPat w.src1 (g f.b)) (gPat w.src1 (g f.c)))⟩
  | .fmul f => some ⟨f, [f.b, f.c], (fwElem · true), fun w => inG w (fMul w (gPat w.src1 (g f.b)) (gPat w.src1 (g f.c)))⟩
  | .fdiv f => some ⟨f, [f.b, f.c], (fwElem · true), fun w => inG w (fDiv w (gPat w.src1 (g f.b)) (gPat w.src1 (g f.c)))⟩
  | .fmin f => some ⟨f, [f.b, f.c], (fwElem · true), fun w => inG w (fMin w (gPat w.src1 (g f.b)) (gPat w.src1 (g f.c)))⟩
  | .fmax f => some ⟨f, [f.b, f.c], (fwElem · true), fun w => inG w (fMax w (gPat w.src1 (g f.b)) (gPat w.src1 (g f.c)))⟩
  | .fsqrt f => some ⟨f, [f.b], (fwElem · false), fun w => inG w (fSqrt w (gPat w.src1 (g f.b)))⟩
  | .fma f => some ⟨f, [f.b, f.c, f.a], fwFused, fun w =>
      inG w (fFma w false false (gPat w.src1 (g f.b)) (gPat w.src1 (g f.c)) (gPat w.acc (g f.a)))⟩
  | .fcmp f => some ⟨f, [f.b, f.c], (fwCmp · true), fun w =>
      (if fCmp f.sub.toNat w (gPat w.src1 (g f.b)) (gPat w.src1 (g f.c)) then 1 else 0, 0)⟩
  | .fcvt f => some ⟨f, [f.b], (fwConv · true), fun w =>
      inG w (convert w.src1 w.dst w.rm w.ovf w.ts (some 0) false (gPat w.src1 (g f.b)))⟩
  | .fclass f => some ⟨f, [f.b], (fwCmp · false), fun w => (BitVec.ofNat 64 (classOf w.src1 (gPat w.src1 (g f.b))), 0)⟩
  | _ => none

/-- The registers of a scalar floating instruction: destination, format word (R42), sources. -/
def FltRule.regs (r : FltRule) : List Nat := r.f.a.toNat :: (24 + r.f.fs.toNat) :: r.srcs.map (·.toNat)

/-- `n` is the significand `m` with its `sh` low bits rounded away under RM (R79): one of the two neighbours, the nearest where
RM asks for that, and on a tie the even one or the greater. -/
def Rounded (rm : Nat) (neg : Bool) (m sh n : Nat) : Prop :=
  let lo := m / 2 ^ sh
  let rest := m % 2 ^ sh
  (rest = 0 → n = lo) ∧ (n = lo ∨ n = lo + 1) ∧
    (rest ≠ 0 →
      (rm = 0 → (2 * rest < 2 ^ sh → n = lo) ∧ (2 ^ sh < 2 * rest → n = lo + 1) ∧ (2 * rest = 2 ^ sh → n % 2 = 0)) ∧
      (rm = 1 → (2 * rest < 2 ^ sh → n = lo) ∧ (2 ^ sh ≤ 2 * rest → n = lo + 1)) ∧
      (rm = 2 → n = if neg then lo else lo + 1) ∧ (rm = 3 → n = if neg then lo + 1 else lo) ∧ (rm = 4 → n = lo))

/-! ### Traps (R59, R61) -/

/-- The moving hart has taken a synchronous cause of its own instruction into the kernel, and nothing else has changed:
EPC, CAUSE, TVAL and PC, the g registers, FFLAGS, memory, and everything that is not the hart's. -/
def TrapsAt (s t : State) (code : Nat) (tval : W) : Prop :=
  t.me.trap.cause = BitVec.ofNat 64 code ∧ t.me.trap.tval = tval ∧ t.me.trap.epc = s.me.pc ∧ t.me.pc = s.me.trap.tbase ∧
    SameGBut s t [] ∧ t.me.fflags = s.me.fflags ∧ SameMem s t ∧ OnlyMe s t

/-! ### Scalar memory (R122 to R136) -/

/-- A scalar load: fields, width in bytes, and whether it sign-extends (R122). -/
def loadRule : Instr → Option (FI × Nat × Bool)
  | .ld8 f => some (f, 1, false)
  | .ld8s f => some (f, 1, true)
  | .ld16 f => some (f, 2, false)
  | .ld16s f => some (f, 2, true)
  | .ld32 f => some (f, 4, false)
  | .ld32s f => some (f, 4, true)
  | .ld64 f => some (f, 8, false)
  | _ => none

/-- A scalar store: fields and width in bytes (R122). -/
def storeRule : Instr → Option (FI × Nat)
  | .st8 f => some (f, 1)
  | .st16 f => some (f, 2)
  | .st32 f => some (f, 4)
  | .st64 f => some (f, 8)
  | _ => none

/-- The effective address of a load or a store (R122): a register plus the sign-extended displacement. -/
def eaOf (s : State) (f : FI) : W := s.me.rd f.b.toNat + f.imm.signExtend 64

/-- A scalar store of poison at `ea` (R410, R411): nothing is stored, and the first since REP was cleared sets REP and leaves a
record of kind 2, cause 0x1A, with the address. -/
def suppressed (s : State) (ea : W) : State :=
  if s.me.flt.rep then s
  else s.setMe { s.me with flt := { s.me.flt with rep := true, record := some ⟨2, 0x1A, ea, 0, 127, []⟩ } }

/-- An AMO: fields, width, and the new value from the old value and g[C], as unsigned numbers of that width (R135). -/
def amoRule : Instr → Option (FA × Nat × (Nat → Nat → Nat))
  | .amoswapw f => some (f, 4, fun _ b => b)
  | .amoaddw f => some (f, 4, fun a b => (a + b) % 2 ^ 32)
  | .amoandw f => some (f, 4, fun a b => a &&& b)
  | .amoorw f => some (f, 4, fun a b => a ||| b)
  | .amoxorw f => some (f, 4, fun a b => a ^^^ b)
  | .amominw f => some (f, 4, fun a b => if (BitVec.ofNat 32 b).toInt < (BitVec.ofNat 32 a).toInt then b else a)
  | .amomaxw f => some (f, 4, fun a b => if (BitVec.ofNat 32 a).toInt < (BitVec.ofNat 32 b).toInt then b else a)
  | .amominuw f => some (f, 4, fun a b => Min.min a b)
  | .amomaxuw f => some (f, 4, fun a b => Max.max a b)
  | .amoswapd f => some (f, 8, fun _ b => b)
  | .amoaddd f => some (f, 8, fun a b => (a + b) % 2 ^ 64)
  | .amoandd f => some (f, 8, fun a b => a &&& b)
  | .amoord f => some (f, 8, fun a b => a ||| b)
  | .amoxord f => some (f, 8, fun a b => a ^^^ b)
  | .amomind f => some (f, 8, fun a b => if (BitVec.ofNat 64 b).toInt < (BitVec.ofNat 64 a).toInt then b else a)
  | .amomaxd f => some (f, 8, fun a b => if (BitVec.ofNat 64 a).toInt < (BitVec.ofNat 64 b).toInt then b else a)
  | .amominud f => some (f, 8, fun a b => Min.min a b)
  | .amomaxud f => some (f, 8, fun a b => Max.max a b)
  | _ => none

/-- An AMO whose new value does not come from the old one (R135). -/
def isSwap : Instr → Bool
  | .amoswapw _ | .amoswapd _ => true
  | _ => false

/-! ### Control registers (R44, R46 to R54) -/

/-- The least level of a number's range (R46), 3 for the reserved one. -/
def rangeLevel (n : Nat) : Nat := if n < 0x100 then 0 else if n < 0x800 then 1 else if n < 0xC00 then 2 else 3

/-- The registers of the sequential machine: number, and the least levels that read and write it, 3 for never (R48). -/
def r48 : List (Nat × Nat × Nat) :=
  [(0x001, 0, 0), (0x010, 0, 2), (0x011, 0, 2), (0x012, 0, 3), (0x100, 1, 1), (0x101, 1, 1), (0x102, 1, 1), (0x103, 1, 1),
    (0x104, 1, 1), (0x105, 1, 1), (0x800, 2, 2), (0x801, 2, 2), (0x802, 2, 2), (0x803, 2, 2), (0x804, 2, 2), (0x808, 2, 2),
    (0x809, 2, 2)]

/-- Bit k of STAT after a write of `x` at a level (R44, R49): NEST, PIE and IE take the bit; PPRIV takes user or kernel and else
stays; FNEST, FPIE and FPPRIV stay but at firmware level, where FPPRIV never takes 0b11; PRIV and the reserved bits stay. -/
def statBit (old x : W) (priv k : Nat) : Bool :=
  if k = 7 ∨ k = 5 ∨ k = 4 then bit x k
  else if k = 3 ∨ k = 2 then (if fld x 2 2 < 2 then bit x k else bit old k)
  else if k = 15 ∨ k = 14 then (if priv = 2 then bit x k else bit old k)
  else if k = 13 ∨ k = 12 then (if priv = 2 ∧ fld x 12 2 < 3 then bit x k else bit old k)
  else bit old k

/-- Bit k of TBASE and FTBASE after a write of `x` (R50): 0 below bit 8, and copies of bit 55 from bit 56 up. -/
def baseBit (x : W) (k : Nat) : Bool := if k < 8 then false else bit x (min k 55)

/-- Bit k of CAUSE and FCAUSE after a write of `x` (R51). -/
def causeBit (x : W) (k : Nat) : Bool := (decide (k < 8) || k == 62 || k == 63) && bit x k

end Sys2Proof.Rules

open Sys2Proof Sys2Proof.Machine Sys2Proof.Rules

/-! ### Encoding -/

/-- Decoding the word of a well-formed instruction gives it back, with every field at every value (R94, R96, R102). -/
def Obligations.DecodeOfEncode : Prop :=
  ∀ i : Instr, i.wf = true → i.encodable = true → decodeWord (encode i) = .ok i

/-- A word that decodes is the word of the instruction it decodes to, which is well formed: no bit is dropped. -/
def Obligations.EncodeOfDecode : Prop :=
  ∀ (w : IWord) (i : Instr), decodeWord w = .ok i → i.wf = true ∧ i.encodable = true ∧ encode i = w

/-- A move of the machine runs the decoded instruction: a running hart with nothing pending, queued or asked of it,
and no schedule, fetches the word at its PC, which is no device register that the manual leaves undescribed, and the
move is exec of the instruction that the word decodes to, in the state that holds that word (R42, R43, R56). What step adds around exec: what the fetch's translation leaves, ir, and
the words that the move replaces in memory, kept for the fetches that may still see them. -/
def Obligations.StepRunsTheDecodedInstruction : Prop :=
  ∀ (s t : State) (w : IWord) (i : Instr), s.schedule = [] → s.me.run = .running → s.me.flt.pending = none →
    s.me.flt.record = none → s.me.flt.events = [] → s.me.queue = [] → s.xfers = [] → s.me.farm = none →
    s.me.preempt = none → s.me.task = none →
    fetchWord s s.cur = .ok (t, w) → fetchHole s s.cur = none → decodeFor t t.cur w = .ok i →
    step s = keepOld s (exec i (t.setMe { t.me with ir := w }))

/-! ### Scalar integer instructions -/

/-- Every scalar integer instruction completes, whatever its operands: its destination holds the value of R117 to
R121, poisoned if a source is (R409), PC has advanced by 4 and is sign-extended from bit 55 (R43), and nothing else
differs. It waits only for a register
that an earlier command still writes (R172), and inside a strip farm it may not write g24 to g31 (R176). -/
def Obligations.ScalarIntegerCompletes : Prop :=
  ∀ (s : State) (i : Instr) (r : Result), scalarRule (gv s) s.me.pc i = some r → mustWait s.me r.regs = false →
    farmBars s.me r.d = false →
    exec i s = .next (s.setMe { s.me.wrP r.d.toNat r.val (r.srcs.any fun q => s.me.rdP q.toNat) with pc := nextPc s.me.pc })

/-- The frame of a scalar integer instruction that completes: the other g registers, FFLAGS, every special register of
the hart, every other hart and every byte of memory stay as they were. -/
def Obligations.ScalarIntegerFrame : Prop :=
  ∀ (s t : State) (i : Instr) (r : Result), scalarRule (gv s) s.me.pc i = some r → mustWait s.me r.regs = false →
    farmBars s.me r.d = false → exec i s = .next t →
    OnlyMe s t ∧ SameGBut s t [r.d.toNat] ∧ t.me.fflags = s.me.fflags ∧ SameSpecial s t ∧ SameMem s t

/-- Division never traps, and its borderline operands give the results of the table (R118). -/
def Obligations.DivisionBorderlines : Prop :=
  ∀ (s : State) (f : FS), f.a ≠ 0 → mustWait s.me [f.a.toNat, f.b.toNat, f.c.toNat] = false → farmBars s.me f.a = false →
    ∃ d u m v : State, exec (.div f) s = .next d ∧ exec (.divu f) s = .next u ∧ exec (.mod f) s = .next m ∧
      exec (.modu f) s = .next v ∧ (∀ x, x ∈ [d, u, m, v] → x.me.fflags = s.me.fflags ∧ x.me.pc = nextPc s.me.pc ∧ x.me.trap = s.me.trap) ∧
      (gv s f.c = 0 → d.me.rd f.a.toNat = 0xFFFFFFFFFFFFFFFF#64 ∧ u.me.rd f.a.toNat = 0xFFFFFFFFFFFFFFFF#64 ∧
        m.me.rd f.a.toNat = gv s f.b ∧ v.me.rd f.a.toNat = gv s f.b) ∧
      (gv s f.b = 0x8000000000000000#64 → gv s f.c = 0xFFFFFFFFFFFFFFFF#64 →
        d.me.rd f.a.toNat = 0x8000000000000000#64 ∧ u.me.rd f.a.toNat = 0 ∧ m.me.rd f.a.toNat = 0 ∧
        v.me.rd f.a.toNat = gv s f.b)

/-! ### Branches and jumps -/

/-- Branches, JL and JLR complete: PC goes where R125 to R127 say, JL and JLR write the address of the next
instruction, and nothing else differs. The condition and the target are not poisoned (R409), and the target of JLR is
a multiple of 4 (R58). -/
def Obligations.BranchesAndJumpsComplete : Prop :=
  (∀ (s : State) (i : Instr) (f : FI) (c : W → W → Bool), branchRule i = some (f, c) →
    mustWait s.me [f.a.toNat, f.b.toNat] = false → s.me.rdP f.a.toNat = false → s.me.rdP f.b.toNat = false →
    exec i s = .next (s.setMe { s.me with
      pc := if c (gv s f.a) (gv s f.b) then BitVec.ofInt 64 (s.me.pc.toInt + f.imm.toInt * 4) else nextPc s.me.pc })) ∧
  (∀ (s : State) (f : FU), mustWait s.me [f.a.toNat] = false → farmBars s.me f.a = false →
    exec (.jl f) s = .next (s.setMe { s.me.wr f.a.toNat (s.me.pc + 4) with
      pc := BitVec.ofInt 64 (s.me.pc.toInt + f.imm.toInt * 4) })) ∧
  (∀ (s : State) (f : FI), mustWait s.me [f.a.toNat, f.b.toNat] = false → farmBars s.me f.a = false →
    s.me.rdP f.b.toNat = false → (gv s f.b + f.imm.signExtend 64).toNat % 4 = 0 →
    exec (.jlr f) s = .next (s.setMe { s.me.wr f.a.toNat (s.me.pc + 4) with pc := gv s f.b + f.imm.signExtend 64 }))

/-- Where an instruction traps, precisely: EPC holds its own address, TVAL what the cause says, PC the kernel's entry, and
neither a g register, nor FFLAGS, nor memory, nor another hart changes. A JLR whose target has bit 1 or bit 0 set raises
cause 0x04 (R58). A format word that fails the check of its class is a format fault, 0x0A, and no flag is set (R78). A
load or store that is not aligned raises 0x05 or 0x06 (R57, R123), once no acquire is queued (R284). A control access
below the register's least level, or a write of one that is read-only at the level, is an illegal instruction, 0x02
(R46, R47). Stated at user and kernel level, outside a handler, where the cause enters the kernel (R61). -/
def Obligations.PreciseTraps : Prop :=
  (∀ (s : State) (f : FI), mustWait s.me [f.a.toNat, f.b.toNat] = false → farmBars s.me f.a = false →
    s.me.rdP f.b.toNat = false → (gv s f.b + f.imm.signExtend 64).toNat % 4 ≠ 0 → s.me.priv ≤ 1 →
    bit s.me.trap.stat 7 = false →
    ∃ t, exec (.jlr f) s = .next t ∧ TrapsAt s t 4 (gv s f.b + f.imm.signExtend 64)) ∧
  (∀ (s : State) (i : Instr) (r : FltRule), fltRule (gv s) i = some r → mustWait s.me r.regs = false →
    farmBars s.me r.f.a = false → s.me.rdP (24 + r.f.fs.toNat) = false → r.ok (s.me.rd (24 + r.f.fs.toNat)) = false →
    s.me.priv ≤ 1 → bit s.me.trap.stat 7 = false →
    ∃ t, exec i s = .next t ∧ TrapsAt s t 0x0A (s.me.rd (24 + r.f.fs.toNat))) ∧
  (∀ (s : State) (i : Instr) (f : FI) (w : Nat) (sg : Bool), loadRule i = some (f, w, sg) →
    mustWait s.me [f.a.toNat, f.b.toNat] = false → farmBars s.me f.a = false → s.me.rdP f.b.toNat = false →
    acquiring s.me = false → (eaOf s f).toNat % w ≠ 0 → s.me.priv ≤ 1 → bit s.me.trap.stat 7 = false →
    ∃ t, exec i s = .next t ∧ TrapsAt s t 5 (eaOf s f)) ∧
  (∀ (s : State) (i : Instr) (f : FI) (w : Nat), storeRule i = some (f, w) →
    mustWait s.me [f.a.toNat, f.b.toNat] = false → s.me.rdP f.b.toNat = false → acquiring s.me = false →
    (eaOf s f).toNat % w ≠ 0 → s.me.priv ≤ 1 → bit s.me.trap.stat 7 = false →
    ∃ t, exec i s = .next t ∧ TrapsAt s t 6 (eaOf s f)) ∧
  (∀ (s : State) (f : FI), s.me.priv ≤ 1 → bit s.me.trap.stat 7 = false → mustWait s.me [f.a.toNat, f.b.toNat] = false →
    mustWait s.me [f.a.toNat] = false →
    (csrAllowed f.imm.toNat s.me.priv false = false →
      ∃ t, exec (.crd f) s = .next t ∧ TrapsAt s t 2 (s.me.ir.setWidth 64)) ∧
    (csrAllowed f.imm.toNat s.me.priv true = false → ∀ i, i ∈ [Instr.cwr f, .cset f, .cclr f] →
      ∃ t, exec i s = .next t ∧ TrapsAt s t 2 (s.me.ir.setWidth 64)))

/-! ### Scalar floating point -/

/-- Every scalar floating instruction whose format word passes the check of its class completes: gd takes the value of
R128 to R130, the flags of R83 are set, and PC advances. A poisoned source poisons gd and sets no flag (R409). What the
values are, for the vector instructions as well: a NaN operand gives the canonical NaN of DST and no flag (R71, R83); ∞ − ∞,
0 × ∞, 0 / 0 and the root of a negative number give it with IV, and x / 0 an infinity with ZD (R83); zeros sum as R80 says; a
significand is rounded as R79 says, and a finite result that fits reads back as what it was rounded to, with IX and UN as R83
gives; and the example of R81 comes out as its table has it. -/
def Obligations.ScalarFloatCompletes : Prop :=
  (∀ (s : State) (i : Instr) (r : FltRule), fltRule (gv s) i = some r → mustWait s.me r.regs = false →
    farmBars s.me r.f.a = false → s.me.rdP (24 + r.f.fs.toNat) = false → r.ok (s.me.rd (24 + r.f.fs.toNat)) = true →
    let p := r.srcs.any fun q => s.me.rdP q.toNat
    let y := r.val (FW.of (s.me.rd (24 + r.f.fs.toNat)))
    exec i s = .next (s.setMe { s.me.wrP r.f.a.toNat y.1 p with
      pc := nextPc s.me.pc, fflags := if p then s.me.fflags else s.me.fflags ||| y.2 })) ∧
  (∀ (w : FW) (a b : Nat), inF w.src1 = true → inF w.dst = true →
    let x := readFlt w.src1 a
    let y := readFlt w.src1 b
    (x = .nan ∨ y = .nan → ∀ op, op ∈ [fAdd, fSub, fMul, fDiv] → op w a b = (canonNaN w.dst, 0)) ∧
    (∀ s, x = .inf s → y = .inf (!s) → fAdd w a b = (canonNaN w.dst, fIV)) ∧
    (∀ s, x = .inf s → y = .inf s → fSub w a b = (canonNaN w.dst, fIV)) ∧
    (∀ s t, x = .inf s → y = .zero t → fMul w a b = (canonNaN w.dst, fIV) ∧ fMul w b a = (canonNaN w.dst, fIV)) ∧
    (∀ s t, x = .zero s → y = .zero t → fDiv w a b = (canonNaN w.dst, fIV) ∧
      fAdd w a b = (signFlt w.dst (if s = t then s else w.rm == 3), 0)) ∧
    (∀ s m e t, x = .fin s m e false → y = .zero t →
      fDiv w a b = (signFlt w.dst (s != t) + infFlt w.dst, fZD)) ∧
    (∀ s m e, x = .fin s m e false → y = .fin (!s) m e false → fAdd w a b = (signFlt w.dst (w.rm == 3), 0)) ∧
    (∀ m e, x = .fin true m e false → fSqrt w a = (canonNaN w.dst, fIV))) ∧
  (∀ (rm : Nat) (neg : Bool) (m sh : Nat) (e : Int), rm ≤ 4 → 0 < sh →
    let r := roundAt rm neg m e false (e + sh)
    Rounded rm neg m sh r.1 ∧ (r.2 = true ↔ m % 2 ^ sh ≠ 0)) ∧
  (∀ (code eb fb bias rm : Nat) (ovf s : Bool) (m : Nat) (e : Int), inF code = true → fltShape code = some (eb, fb, bias) →
    0 < m →
    let q : Int := max ((m.log2 : Int) + e) (1 - bias) - fb
    let r := roundAt rm s m e false q
    let z := writeFlt code rm ovf (.fin s m e false)
    r.1 < 2 ^ (fb + 1) → q + fb + bias < 2 ^ eb - 1 →
    readFlt code z.1 = Num.mk s r.1 q ∧
      z.2 = (if r.2 then fIX else 0) ||| (if r.2 = true ∧ r.1 ≠ 0 ∧ r.1 < 2 ^ fb then fUN else 0)) ∧
  (convert 10 6 0 false 0 (some 0) false 0x43FA0000 = (0x7F, fOV ||| fIX) ∧
    convert 10 6 4 false 0 (some 0) false 0x43FA0000 = (0x7E, fOV ||| fIX) ∧
    convert 10 6 0 true 0 (some 0) false 0x43FA0000 = (0x7E, fSAT ||| fIX))

/-! ### Scalar loads, stores and atomics -/

/-- Every scalar load completes where its address is good: the base register is not poisoned, no acquire is queued
(R284), the address is a multiple of the width (R57), it translates for a load (R237), it is no device register, and the
access is not inverted (R315). gd takes the bytes at the place, extended as R122 says, and their poison (R408), and PC advances. -/
def Obligations.ScalarLoadsComplete : Prop :=
  ∀ (s : State) (i : Instr) (f : FI) (w : Nat) (sg : Bool) (p : Placed), loadRule i = some (f, w, sg) →
    mustWait s.me [f.a.toNat, f.b.toNat] = false → farmBars s.me f.a = false → s.me.rdP f.b.toNat = false →
    acquiring s.me = false → (eaOf s f).toNat % w = 0 → xlateMe s .scalar .load (eaOf s f) w = .ok p → isDevReg p.phys.loc = false →
    s.me.mode ≠ 2 →
    exec i s = .next (p.st.setMe { p.st.me.wrP f.a.toNat
        (if sg then BitVec.ofInt 64 (sInt (8 * w) (loadAt p.st p.phys w)) else BitVec.ofNat 64 (loadAt p.st p.phys w))
        (marked p.st p.phys.loc w) with pc := nextPc p.st.me.pc })

/-- A load reads the lowest byte at the lowest address (R10): in plain memory the number loaded is the sum of the
bytes, byte k times 256^k. A load of the place and width that a store wrote gives back the low bytes of what was
stored (R55, R122). -/
def Obligations.BytesOfMemory : Prop :=
  (∀ (s : State) (p : Phys) (w : Nat), s.lineKeys = [] → p.key = none →
    loadAt s p w = ((List.range w).map fun k => (memGet s.mem (p.loc + k)).toNat * 256 ^ k).sum) ∧
  (∀ (s : State) (p : Phys) (w : Nat) (x : W) (k : Option Nat), PlainMem s → p.key = none → 0 < w → w ≤ 8 →
    loadAt (storeAt s p (leBytes w x.toNat) k) p w = x.toNat % 256 ^ w)

/-- Every scalar store completes where its address is good: the base is not poisoned and the data is not, no acquire is
queued (R284), the address is a multiple of the width (R57), it translates for a store (R237), it is no device register,
and it lies in no differentiable region (R311, R315). The bytes at the place are those of g[A], lowest first (R10,
R122), every other byte reads as before, PC advances, and the g registers and the flags stay as they were. So does every
special register of the hart but its links, and everything of every other hart but its links, which the store may clear
(R133). A store of poisoned data, outside REV or outside the regions, stores nothing, records nothing on the tape, and PC
advances; it leaves the poison record, with its address, when it is the first since REP was cleared (R410, R411). -/
def Obligations.ScalarStoresComplete : Prop :=
  (∀ (s : State) (i : Instr) (f : FI) (w : Nat) (p : Placed), storeRule i = some (f, w) → PlainMem s → p.phys.key = none →
    mustWait s.me [f.a.toNat, f.b.toNat] = false → s.me.rdP f.a.toNat = false → s.me.rdP f.b.toNat = false →
    acquiring s.me = false → (eaOf s f).toNat % w = 0 → xlateMe s .scalar .store (eaOf s f) w = .ok p → isDevReg p.phys.loc = false →
    myRegion s (eaOf s f) w = none →
    ∃ t, exec i s = .next t ∧ t.me.pc = nextPc p.st.me.pc ∧
      (∀ k, k < w → memGet t.mem (p.phys.loc + k) = BitVec.ofNat 8 ((s.me.rd f.a.toNat).toNat / 256 ^ k)) ∧
      SameMemBut p.st t p.phys.loc w ∧ SameGBut s t [] ∧ t.me.fflags = s.me.fflags ∧
      SameSpecial (s.setMe { s.me with link := t.me.link, vec := { s.me.vec with vlinks := t.me.vec.vlinks } }) t ∧
      ∀ n, n ≠ s.cur → t.hart n = { s.hart n with
        link := (t.hart n).link, vec := { (s.hart n).vec with vlinks := (t.hart n).vec.vlinks } }) ∧
  (∀ (s : State) (i : Instr) (f : FI) (w : Nat) (p : Placed), storeRule i = some (f, w) →
    mustWait s.me [f.a.toNat, f.b.toNat] = false → s.me.rdP f.a.toNat = true → s.me.rdP f.b.toNat = false →
    acquiring s.me = false → (eaOf s f).toNat % w = 0 → xlateMe s .scalar .store (eaOf s f) w = .ok p →
    myRegion s (eaOf s f) w = none ∨ (s.me.mode ≠ 2 ∧ s.me.farm = none) →
    let t := suppressed p.st (eaOf s f)
    exec i s = .next (t.setMe { t.me with pc := nextPc t.me.pc }))

/-- LLINK, SCOND and AMO complete where the access is good (R57, R123, R131). LLINK loads, sign-extended, and sets the link
(R132); SCOND stores and writes 0 when the hart's link, once the access is translated, names the address and the width, else it
stores nothing, releases nothing and writes 1 (R132, R136), and clears the link either way; an LLINK, an AMO and a SCOND that
stores first write back the core's dirty stash bytes when they release at sys scope (R292); AMO writes the old value,
sign-extended and with its poison (R408), and stores the new one (R135). Data that is poisoned, and a new value formed from a
poisoned old one, is not stored, and leaves the poison record (R409 to R411); for an AMO that is the model's choice (log 13). -/
def Obligations.LinksAndAtomicsComplete : Prop :=
  (∀ (s : State) (f : FA) (w : Nat) (i : Instr) (p : Placed), (i = .llinkw f ∧ w = 4) ∨ (i = .llinkd f ∧ w = 8) →
    mustWait s.me [f.a.toNat, f.b.toNat] = false → farmBars s.me f.a = false → s.me.rdP f.b.toNat = false →
    s.me.queue = [] → (gv s f.b).toNat % w = 0 → xlateMe s .scalar .load (gv s f.b) w = .ok p →
    isDevReg p.phys.loc = false → s.me.mode ≠ 2 ∨ myRegion s (gv s f.b) w = none →
    let q := releaseTo p.st (f.rl == 1 && f.scope == 4)
    exec i s = .next (q.setMe { q.me.wrP f.a.toNat (BitVec.ofInt 64 (sInt (8 * w) (loadAt q p.phys w)))
        (marked q p.phys.loc w) with
      pc := nextPc q.me.pc, link := some ⟨gv s f.b, w, p.phys.loc / 64⟩ })) ∧
  (∀ (s : State) (f : FA) (w : Nat) (i : Instr) (p : Placed), (i = .scondw f ∧ w = 4) ∨ (i = .scondd f ∧ w = 8) →
    mustWait s.me [f.a.toNat, f.b.toNat, f.c.toNat] = false → farmBars s.me f.a = false → s.me.rdP f.b.toNat = false →
    s.me.queue = [] → (gv s f.b).toNat % w = 0 →
    xlateMe s .scalar .store (gv s f.b) w = .ok p → isDevReg p.phys.loc = false → s.me.mode = 0 ∨ myRegion s (gv s f.b) w = none →
    let held := match p.st.me.link with
      | some l => decide (l.ea = gv s f.b ∧ l.width = w)
      | none => false
    let q := p.st.setMe { p.st.me with link := none }
    let u := releaseTo q (f.rl == 1 && f.scope == 4)
    let v := if held = false then q
      else if s.me.rdP f.c.toNat then suppressed u (gv s f.b)
      else storeAt u p.phys (leBytes w (gv s f.c).toNat) none
    exec i s = .next (v.setMe { v.me.wr f.a.toNat (if held then 0 else 1) with pc := nextPc v.me.pc })) ∧
  (∀ (s : State) (i : Instr) (f : FA) (w : Nat) (op : Nat → Nat → Nat) (p : Placed), amoRule i = some (f, w, op) →
    mustWait s.me [f.a.toNat, f.b.toNat, f.c.toNat] = false → farmBars s.me f.a = false → s.me.rdP f.b.toNat = false →
    s.me.queue = [] → (gv s f.b).toNat % w = 0 →
    xlateMe s .scalar .amo (gv s f.b) w = .ok p → isDevReg p.phys.loc = false → s.me.mode = 0 ∨ myRegion s (gv s f.b) w = none →
    let q := releaseTo p.st (f.rl == 1 && f.scope == 4)
    let old := loadAt q p.phys w
    let bad := marked q p.phys.loc w
    let v := if s.me.rdP f.c.toNat || (bad && !isSwap i) then suppressed q (gv s f.b)
      else storeAt q p.phys (leBytes w (op old ((gv s f.c).toNat % 256 ^ w))) none
    exec i s = .next (v.setMe { v.me.wrP f.a.toNat (BitVec.ofInt 64 (sInt (8 * w) old)) bad with pc := nextPc v.me.pc }))

/-! ### Traps and returns -/

/-- Kernel trap entry, step by step (R61): EPC, CAUSE and TVAL; PPRIV, PIE, IE, NEST and PRIV; PC. Every other bit of
STAT stays, and so do the g registers, FFLAGS, memory and the other harts. -/
def Obligations.TrapEntersKernel : Prop :=
  ∀ (s : State) (async : Bool) (code : Nat) (epc tval : W), s.me.priv ≤ 1 → bit s.me.trap.stat 7 = false → code < 256 →
    let t := takeTrap s async code epc tval none
    t.me.trap.epc = epc ∧ t.me.trap.cause.toNat = (if async then 2 ^ 63 else 0) + code ∧ t.me.trap.tval = tval ∧
      fld t.me.trap.stat 2 2 = fld s.me.trap.stat 0 2 ∧ bit t.me.trap.stat 5 = bit s.me.trap.stat 4 ∧
      bit t.me.trap.stat 4 = false ∧ bit t.me.trap.stat 7 = true ∧ fld t.me.trap.stat 0 2 = 1 ∧
      t.me.pc = s.me.trap.tbase ∧
      (∀ k, k < 64 → k ∉ [0, 1, 2, 3, 4, 5, 7] → bit t.me.trap.stat k = bit s.me.trap.stat k) ∧
      OnlyMe s t ∧ SameGBut s t [] ∧ t.me.fflags = s.me.fflags ∧ t.me.link = none

/-- A synchronous trap at user or kernel level while NEST = 1 is a double trap: firmware level is entered, and EPC,
CAUSE and TVAL of the first trap are unchanged (R62). A trap at firmware level while FNEST = 0 is a firmware trap
(R62); a synchronous one while FNEST = 1 stops the hart, with every loop context that it runs (R63, R176), and the stop is
reported as cause 0x13 with the index of the hart (R398, R414). -/
def Obligations.DoubleTrapsAndStops : Prop :=
  (∀ (s : State) (code : Nat) (epc tval : W), s.me.priv ≤ 1 → bit s.me.trap.stat 7 = true →
    let t := takeTrap s false code epc tval none
    t.me.trap.fepc = epc ∧ t.me.trap.fcause.toNat = 2 ^ 62 + 1 ∧ t.me.trap.ftval = tval ∧
      fld t.me.trap.stat 12 2 = fld s.me.trap.stat 0 2 ∧ bit t.me.trap.stat 14 = bit s.me.trap.stat 4 ∧
      bit t.me.trap.stat 4 = false ∧ bit t.me.trap.stat 15 = true ∧ fld t.me.trap.stat 0 2 = 2 ∧
      t.me.pc = s.me.trap.ftbase ∧ t.me.trap.epc = s.me.trap.epc ∧ t.me.trap.cause = s.me.trap.cause ∧
      t.me.trap.tval = s.me.trap.tval ∧ OnlyMe s t ∧ SameGBut s t []) ∧
  (∀ (s : State) (async : Bool) (code : Nat) (epc tval : W), s.me.priv = 2 → bit s.me.trap.stat 15 = false → code < 256 →
    let t := takeTrap s async code epc tval none
    t.me.trap.fepc = epc ∧ t.me.trap.fcause.toNat = (if async then 2 ^ 63 else 0) + code ∧ t.me.trap.ftval = tval ∧
      bit t.me.trap.stat 15 = true ∧ fld t.me.trap.stat 0 2 = 2 ∧ fld t.me.trap.stat 12 2 = 2 ∧
      t.me.pc = s.me.trap.ftbase ∧ OnlyMe s t) ∧
  (∀ (s : State) (code : Nat) (epc tval : W), s.me.priv = 2 → bit s.me.trap.stat 15 = true →
    let t := takeTrap s false code epc tval none
    t.me.run = .halted ∧ t.mem = s.mem ∧
      (∀ x, x ∈ s.harts → hartOf x.1 = hartOf s.cur → (t.hart x.1).run = .halted) ∧
      ∃ n e, e ∈ (t.hart n).flt.events ∧ e.code = 0x13 ∧ e.tval = BitVec.ofNat 64 (hartOf s.cur))

/-- TRAP and BRK take system call and breakpoint, with the instruction word in TVAL and their own address in EPC (R59,
R137): at user or kernel level, outside a handler, the kernel is entered. -/
def Obligations.TrapAndBreakEnterKernel : Prop :=
  ∀ (s : State) (f : FU), s.me.priv ≤ 1 → bit s.me.trap.stat 7 = false →
    (exec (.trap f) s = .next (takeTrap s false 8 s.me.pc (s.me.ir.setWidth 64) none) ∧
      (takeTrap s false 8 s.me.pc (s.me.ir.setWidth 64) none).me.trap.cause = 8) ∧
    (exec (.brk f) s = .next (takeTrap s false 9 s.me.pc (s.me.ir.setWidth 64) none) ∧
      (takeTrap s false 9 s.me.pc (s.me.ir.setWidth 64) none).me.trap.cause = 9)

/-- ERET returns as R64 gives at kernel and at firmware level, with the links cleared (R133, R138), and the replay
form puts the saved queue back before what is queued (R138, R406), under ATP as it stands, which is the model's reading (log 21),
and acts as ERET without one. At user level both
are illegal instructions (R64). -/
def Obligations.EretReturns : Prop :=
  (∀ (s : State) (f : FS), 1 ≤ s.me.priv → s.me.priv ≤ 2 →
    ∃ t u, exec (.eret f) s = .next t ∧ exec (.eretReplay f) s = .next u ∧ OnlyMe s t ∧ OnlyMe s u ∧
      (s.me.priv = 1 → t.me.pc = s.me.trap.epc ∧ t.me.priv = fld s.me.trap.stat 2 2 ∧
        bit t.me.trap.stat 4 = bit s.me.trap.stat 5 ∧ bit t.me.trap.stat 7 = false) ∧
      (s.me.priv = 2 → t.me.pc = s.me.trap.fepc ∧ t.me.priv = fld s.me.trap.stat 12 2 ∧
        bit t.me.trap.stat 4 = bit s.me.trap.stat 14 ∧ bit t.me.trap.stat 15 = false) ∧
      t.me.link = none ∧ t.me.vec.vlinks = [] ∧ t.me.flt.saved = [] ∧ SameGBut s t [] ∧
      u.me.pc = t.me.pc ∧ u.me.trap = t.me.trap ∧ u.me.link = none ∧ u.me.flt.saved = [] ∧ SameGBut s u [] ∧
      (bit s.me.flt.vfstat 0 = false → u = t) ∧
      (bit s.me.flt.vfstat 0 = true → u.me.queue = replayed s.me s.myCtx.atp ++ s.me.queue ∧ bit u.me.flt.vfstat 0 = false)) ∧
  (∀ (s : State) (f : FS), s.me.priv = 0 →
    exec (.eret f) s = .next (takeTrap s false 2 s.me.pc (s.me.ir.setWidth 64) none) ∧
      exec (.eretReplay f) s = .next (takeTrap s false 2 s.me.pc (s.me.ir.setWidth 64) none))

/-! ### Waiting, fences, control registers -/

/-- PARK (R139): with an asynchronous event pending it completes at once, with code 1; with none the hart parks with its
ticks, and no wake has come yet. Either way a wake of the scheduler that had come before is cleared, and nothing else
changes. That gd is not poisoned, whatever g[gs1], is the model's choice (log 29). FENCE completes when no earlier
command is queued: PC advances, and a release or a full FENCE at sys scope writes back the core's dirty stash bytes
(R140, R292). IFLUSH completes: no later fetch of the hart sees a word that a store has replaced so far (R142); the
list of replaced words in which that is said is the model's choice (logs 3 and 19), and so is that vector stores which
are still queued do not count (log 58). TLBINV completes at kernel level when no command that stores is queued: no entry
that R143 selects is left in a TLB or walk cache. That every other one stays, and that the device has one list of them
for all its harts, is the model's reading (log 21). Where it selects by a poisoned address it is cause 0x1A (R409); that
an address which it does not use, with selector bit 13 set, and a poisoned selector count with their values, is the model's reading
(log 8). -/
def Obligations.ParkAndFencesComplete : Prop :=
  (∀ (s : State) (f : FI), mustWait s.me [f.a.toNat, f.b.toNat] = false → farmBars s.me f.a = false →
    exec (.park f) s = .next
      (if s.me.flt.events ≠ [] then s.setMe { s.me.wr f.a.toNat 1 with pc := nextPc s.me.pc, run := .running, wake := false }
       else s.setMe { s.me with run := .parked f.a.toNat s.time (s.me.rd f.b.toNat) none, wake := false })) ∧
  (∀ (s : State) (f : FA), s.me.queue = [] →
    exec (.fence f) s = .next ((releaseTo s (f.scope == 4 && !(f.aq == 1 && f.rl == 0))).setMe
      { s.me with pc := nextPc s.me.pc })) ∧
  (∀ (s : State) (f : FS), ∃ t, exec (.iflush f) s = .next t ∧ t.me.pc = nextPc s.me.pc ∧ OnlyMe s t ∧ SameGBut s t [] ∧
    SameSpecial s t ∧ ∀ loc, oldWords t t.me loc = []) ∧
  (∀ (s : State) (f : FS), 1 ≤ s.me.priv → mustWait s.me [f.b.toNat, f.c.toNat] = false →
    let poison := s.me.rdP f.b.toNat = true ∧ bit (gv s f.c) 13 = false
    (poison → exec (.tlbinv f) s = .next (takeTrap s false 0x1A s.me.pc (s.me.ir.setWidth 64) none)) ∧
    (¬ poison → storesQueued s.me = false →
      exec (.tlbinv f) s = .next { s.setMe { s.me with pc := nextPc s.me.pc } with
        tlb := s.tlb.filter fun e => !tlbSelected (gv s f.b) (gv s f.c) e }))

/-- CRD, CWR, CSET and CCLR complete where the level allows them (R46, R47, R141): CRD writes the register to gd; the
others write gd with the old value, and the register with g[B], with old or g[B], with old and not g[B]. A write that
R47 or the register's own rule refuses answers none in csrWrite. Registers that wait for earlier commands (R148) find
the queue empty; a read of an AMAX register waits for no command but a VAMAX (R172, R220). Which levels reach a register: none below the least level of its range, none in the reserved range (R46), and
for the registers of the sequential machine those of R48. What they read, and what a write of any value leaves, is that of R49
to R53, with reserved bits zero and read-only fields ignored (R12), HARTID as R53 builds it, and the privilege fields of STAT
never 0b11 (R44). That a read of TIME shows the count of a write at once, where R54 lets it show the old one for 1 µs, is the model's
choice (log 58). -/
def Obligations.ControlAccessesComplete : Prop :=
  (∀ (n lv : Nat) (w : Bool), lv ≤ 2 → csrAllowed n lv w = true → rangeLevel n ≤ lv) ∧
  (∀ r, r ∈ r48 → ∀ (lv : Nat) (w : Bool), lv ≤ 2 →
    csrAllowed r.1 lv w = decide ((if w then max r.2.1 r.2.2 else r.2.1) ≤ lv)) ∧
  (∀ (s : State) (x : W),
    let put (t : TrapRegs) : Option State := some (s.setMe { s.me with trap := t })
    let core := coreOf s.cur
    (csrRead s 0x001 = BitVec.ofNat 64 s.me.fflags.toNat ∧
      csrWrite s 0x001 x = some (s.setMe { s.me with fflags := BitVec.ofNat 6 (x.toNat % 64) })) ∧
    (csrRead s 0x010 = (s.core core).cycle ∧ csrWrite s 0x010 x = some (s.setCore core { s.core core with cycle := x })) ∧
    (csrRead s 0x011 = s.time ∧ csrWrite s 0x011 x = some { s with time := x }) ∧
    csrRead s 0x012 = BitVec.ofNat 64 (s.devid.toNat * 2 ^ 11 + s.cur % 2048) ∧
    (csrRead s 0x100 = s.me.trap.stat ∧ ∃ y, csrWrite s 0x100 x = put { s.me.trap with stat := y } ∧
      ∀ k, k < 64 → bit y k = statBit s.me.trap.stat x s.me.priv k) ∧
    (csrRead s 0x101 = s.me.trap.tbase ∧ ∃ y, csrWrite s 0x101 x = put { s.me.trap with tbase := y } ∧
      ∀ k, k < 64 → bit y k = baseBit x k) ∧
    (csrRead s 0x102 = s.me.trap.epc ∧
      csrWrite s 0x102 x = put { s.me.trap with epc := BitVec.ofNat 64 (x.toNat / 4 * 4) }) ∧
    (csrRead s 0x103 = s.me.trap.cause ∧ ∃ y, csrWrite s 0x103 x = put { s.me.trap with cause := y } ∧
      ∀ k, k < 64 → bit y k = causeBit x k) ∧
    (csrRead s 0x104 = s.me.trap.tval ∧ csrWrite s 0x104 x = put { s.me.trap with tval := x }) ∧
    (csrRead s 0x105 = s.me.trap.kscr ∧ csrWrite s 0x105 x = put { s.me.trap with kscr := x }) ∧
    (csrRead s 0x800 = s.me.trap.ftbase ∧ ∃ y, csrWrite s 0x800 x = put { s.me.trap with ftbase := y } ∧
      ∀ k, k < 64 → bit y k = baseBit x k) ∧
    (csrRead s 0x801 = s.me.trap.fepc ∧
      csrWrite s 0x801 x = put { s.me.trap with fepc := BitVec.ofNat 64 (x.toNat / 4 * 4) }) ∧
    (csrRead s 0x802 = s.me.trap.fcause ∧ ∃ y, csrWrite s 0x802 x = put { s.me.trap with fcause := y } ∧
      ∀ k, k < 64 → bit y k = causeBit x k) ∧
    (csrRead s 0x803 = s.me.trap.ftval ∧ csrWrite s 0x803 x = put { s.me.trap with ftval := x }) ∧
    (csrRead s 0x804 = s.me.trap.fscr ∧ csrWrite s 0x804 x = put { s.me.trap with fscr := x }) ∧
    csrRead s 0x808 = s.me.trap.hraddr ∧ csrRead s 0x809 = 0) ∧
  (∀ (s : State) (f : FI), 0x040 ≤ f.imm.toNat → f.imm.toNat ≤ 0x047 → mustWait s.me [f.a.toNat] = false →
    (∀ c ∈ s.me.queue, ∀ x, c.ins ≠ .vamax x) → s.me.farm = none → s.me.vec.drain = [] →
    exec (.crd f) s = .next (s.setMe { s.me.wr f.a.toNat (csrRead s f.imm.toNat) with pc := nextPc s.me.pc })) ∧
  ∀ (s : State) (f : FI), s.me.queue = [] → s.me.farm = none → s.me.gwait = [] → s.me.vec.drain = [] →
    (csrAllowed f.imm.toNat s.me.priv false = true →
      exec (.crd f) s = .next (s.setMe { s.me.wr f.a.toNat (csrRead s f.imm.toNat) with pc := nextPc s.me.pc })) ∧
    (csrAllowed f.imm.toNat s.me.priv true = true → s.me.rdP f.b.toNat = false →
      ∀ (i : Instr) (x : W) (t : State),
        (i = .cwr f ∧ x = gv s f.b) ∨ (i = .cset f ∧ x = csrRead s f.imm.toNat ||| gv s f.b) ∨
          (i = .cclr f ∧ x = csrRead s f.imm.toNat &&& ~~~(gv s f.b)) →
        csrWrite s f.imm.toNat x = some t →
        exec i s = .next (t.setMe { t.me.wr f.a.toNat (csrRead s f.imm.toNat) with pc := nextPc t.me.pc }))

/-- DTLOAD (R112, R113) at kernel or firmware level: address 0 puts base map version 1 in force with DTVER 1 and
status 0; an image that is read whole gives its status, and with status 0 its 1,024 entries and its version are put in
force, while any other status leaves the table and the version in force as they were. That marked words of an image
count with the values they hold is the model's choice (log 18). CTXSV (R420) writes the image of the loop context and
status 0. CTXLD (R421) takes over what a good image holds, with status 0; which headers it refuses, and that the values
of saved commands are not poisoned, is the model's choice (log 24). -/
def Obligations.TablesAndContextsComplete : Prop :=
  (∀ (s : State) (f : FI), 1 ≤ s.me.priv → mustWait s.me [f.a.toNat, f.b.toNat] = false → s.me.farm = none →
    s.me.rdP f.b.toNat = false → acquiring s.me = false →
    (eaOf s f = 0 → ∃ t, exec (.dtload f) s = .next t ∧ t.me.pc = nextPc s.me.pc ∧ (f.a ≠ 0 → t.me.rd f.a.toNat = 0) ∧
      (t.ctx s.me.ctx).dt = none ∧ (t.ctx s.me.ctx).dtver = 1) ∧
    (∀ u ds, eaOf s f ≠ 0 → (eaOf s f).toNat % 16 = 0 → readTable 258 s (eaOf s f) [] = .read u ds →
      ∃ t, exec (.dtload f) s = .next t ∧ t.me.pc = nextPc u.me.pc ∧
        (f.a ≠ 0 → t.me.rd f.a.toNat = BitVec.ofNat 64 ((tableStatus ds).1 + if (tableStatus ds).1 = 0 then 0
          else (tableStatus ds).2 * 65536)) ∧
        ((tableStatus ds).1 = 0 → (t.ctx s.me.ctx).dt = some (tableEntries ds) ∧
          (t.ctx s.me.ctx).dtver = BitVec.ofNat 16 (fld (ds.getD 0 0) 32 16)) ∧
        ((tableStatus ds).1 ≠ 0 → (t.ctx s.me.ctx).dt = (s.ctx s.me.ctx).dt ∧
          (t.ctx s.me.ctx).dtver = (s.ctx s.me.ctx).dtver))) ∧
  (∀ (s u : State) (f : FI), 1 ≤ s.me.priv → Quiet s → s.me.vec.drain = [] → s.me.rdP f.b.toNat = false →
    (gv s f.b).toNat % 4096 = 0 → f.imm = 0 →
    writeImage s s.cur true false (gv s f.b) (imageOf s.me 0 s.me.vec.lanes s.me.trap.epc) = .ok u →
    ∃ t, exec (.ctxsv f) s = .next t ∧ t.me.pc = nextPc u.me.pc ∧ (f.a ≠ 0 → t.me.rd f.a.toNat = 0) ∧ t.mem = u.mem ∧
      t.me.flt.saved = []) ∧
  (∀ (s u : State) (f : FI) (img : Nat), 1 ≤ s.me.priv → Quiet s → s.me.rdP f.b.toNat = false →
    loadImage s s.cur true (gv s f.b) = .loaded u img →
    ∃ t, exec (.ctxld f) s = .next t ∧ t.me.pc = nextPc u.me.pc ∧ (f.a ≠ 0 → t.me.rd f.a.toNat = 0) ∧ t.me.vec = u.me.vec ∧
      t.me.flt = u.me.flt)

namespace Sys2Proof.Rules

/-! ### Vector integer values (R190, R191) -/

/-- Where the second operand of a vector instruction comes from: field C names a vector group, field C names a g
register, or there is none (R179). -/
inductive Second where
  | vec | scal | none
deriving DecidableEq, Repr

/-- A value of R190 on elements of n bits, wrapped, with no flag. -/
def wraps (x : Nat → Nat → Nat → Int) (n a b : Nat) : Nat × Bool := (wrap n (x n a b), false)

/-- A saturated value, and whether SAT is set (R191). -/
def saturates (x : Nat → Nat → Nat → Int) (n a b : Nat) : Nat × Bool :=
  let y := x n a b
  (wrap n (max (-(2 ^ (n - 1) : Nat)) (min y ((2 ^ (n - 1) : Nat) - 1))),
    decide (y < -(2 ^ (n - 1) : Nat) ∨ ((2 ^ (n - 1) : Nat) - 1 : Int) < y))

/-- The integer of an element read signed. -/
def sg (n a : Nat) : Int := sInt n a

def vAdd := wraps fun _ a b => a + b
def vSub := wraps fun _ a b => (a : Int) - b
def vRsub := wraps fun _ a b => (b : Int) - a
def vMul := wraps fun _ a b => (a * b : Nat)
def vMulh := wraps fun n a b => (sg n a * sg n b).fdiv (2 ^ n)
def vMulhu := wraps fun n a b => (a * b / 2 ^ n : Nat)
def vDiv := wraps fun n a b => if b = 0 then -1 else (sg n a).tdiv (sg n b)
def vMod := wraps fun n a b => if b = 0 then a else sg n a - (sg n a).tdiv (sg n b) * sg n b
def vAnd := wraps fun _ a b => (a &&& b : Nat)
def vOr := wraps fun _ a b => (a ||| b : Nat)
def vXor := wraps fun _ a b => (a ^^^ b : Nat)
def vShl := wraps fun n a b => (a * 2 ^ (b % n) : Nat)
def vShr := wraps fun n a b => (a / 2 ^ (b % n) : Nat)
def vSar := wraps fun n a b => (sg n a).fdiv (2 ^ (b % n))
def vMin := wraps fun n a b => min (sg n a) (sg n b)
def vMax := wraps fun n a b => max (sg n a) (sg n b)
def vMinu := wraps fun _ a b => (min a b : Nat)
def vMaxu := wraps fun _ a b => (max a b : Nat)
def vAdds := saturates fun n a b => sg n a + sg n b
def vSubs := saturates fun n a b => sg n a - sg n b

/-- The vector integer instructions: fields, second operand, and the value from SEW, a and b. -/
def vintRule : Instr → Option (FV × Second × (Nat → Nat → Nat → Nat × Bool))
  | .vadd f => some (f, .vec, vAdd)
  | .vsub f => some (f, .vec, vSub)
  | .vrsub f => some (f, .vec, vRsub)
  | .vmul f => some (f, .vec, vMul)
  | .vmulh f => some (f, .vec, vMulh)
  | .vmulhu f => some (f, .vec, vMulhu)
  | .vdiv f => some (f, .vec, vDiv)
  | .vmod f => some (f, .vec, vMod)
  | .vand f => some (f, .vec, vAnd)
  | .vor f => some (f, .vec, vOr)
  | .vxor f => some (f, .vec, vXor)
  | .vshl f => some (f, .vec, vShl)
  | .vshr f => some (f, .vec, vShr)
  | .vsar f => some (f, .vec, vSar)
  | .vmin f => some (f, .vec, vMin)
  | .vmax f => some (f, .vec, vMax)
  | .vminu f => some (f, .vec, vMinu)
  | .vmaxu f => some (f, .vec, vMaxu)
  | .vadds f => some (f, .vec, vAdds)
  | .vsubs f => some (f, .vec, vSubs)
  | .vclz f => some (f, .none, wraps fun n a _ => if a = 0 then n else (n - 1 - Nat.log2 a : Nat))
  | .vpope f => some (f, .none, wraps fun n a _ => ((List.range n).filter fun i => a.testBit i).length)
  | .vaddVs f => some (f, .scal, vAdd)
  | .vsubVs f => some (f, .scal, vSub)
  | .vrsubVs f => some (f, .scal, vRsub)
  | .vmulVs f => some (f, .scal, vMul)
  | .vmulhVs f => some (f, .scal, vMulh)
  | .vmulhuVs f => some (f, .scal, vMulhu)
  | .vdivVs f => some (f, .scal, vDiv)
  | .vmodVs f => some (f, .scal, vMod)
  | .vandVs f => some (f, .scal, vAnd)
  | .vorVs f => some (f, .scal, vOr)
  | .vxorVs f => some (f, .scal, vXor)
  | .vshlVs f => some (f, .scal, vShl)
  | .vshrVs f => some (f, .scal, vShr)
  | .vsarVs f => some (f, .scal, vSar)
  | .vminVs f => some (f, .scal, vMin)
  | .vmaxVs f => some (f, .scal, vMax)
  | .vminuVs f => some (f, .scal, vMinu)
  | .vmaxuVs f => some (f, .scal, vMaxu)
  | .vaddsVs f => some (f, .scal, vAdds)
  | .vsubsVs f => some (f, .scal, vSubs)
  | _ => none

/-- The integer compares: fields, second operand, and the condition from SEW, a and b (R192). -/
def vcmpRule : Instr → Option (FV × Second × (Nat → Nat → Nat → Bool))
  | .vceq f => some (f, .vec, fun _ a b => decide (a = b))
  | .vcne f => some (f, .vec, fun _ a b => decide (a ≠ b))
  | .vclt f => some (f, .vec, fun n a b => decide (sg n a < sg n b))
  | .vcle f => some (f, .vec, fun n a b => decide (sg n a ≤ sg n b))
  | .vcltu f => some (f, .vec, fun _ a b => decide (a < b))
  | .vcleu f => some (f, .vec, fun _ a b => decide (a ≤ b))
  | .vceqVs f => some (f, .scal, fun _ a b => decide (a = b))
  | .vcneVs f => some (f, .scal, fun _ a b => decide (a ≠ b))
  | .vcltVs f => some (f, .scal, fun n a b => decide (sg n a < sg n b))
  | .vcleVs f => some (f, .scal, fun n a b => decide (sg n a ≤ sg n b))
  | .vcltuVs f => some (f, .scal, fun _ a b => decide (a < b))
  | .vcleuVs f => some (f, .scal, fun _ a b => decide (a ≤ b))
  | _ => none

/-- The floating compares (R192): a NaN makes every condition false but the negated equality. -/
def vfcmpRule : Instr → Option (FV × (Machine.Num → Machine.Num → Bool))
  | .vfeq f => some (f, eqNum)
  | .vfne f => some (f, fun x y => !eqNum x y)
  | .vflt f => some (f, ltNum)
  | .vfle f => some (f, leNum)
  | .vford f => some (f, fun x y => x != .nan && y != .nan)
  | _ => none

/-- Whether a register number is a multiple of the group multiplier in force (R99). -/
def onGroup (s : State) (r : BitVec 5) : Prop := r.toNat % gOf s.me.vec.gc = 0

/-- Element i of the group at a register, and of the second operand. -/
def el (s : State) (r : BitVec 5) (i : Nat) : Nat := elemGet s.me.vec s.me.vec.lay r.toNat i
def elP (s : State) (r : BitVec 5) (i : Nat) : Bool := elemPoison s.me.vec s.me.vec.lay r.toNat i

def Second.val (k : Second) (s : State) (r : BitVec 5) (i : Nat) : Nat :=
  match k with
  | .vec => el s r i
  | .scal => (s.me.rd r.toNat).toNat % 2 ^ s.me.vec.lay.sew
  | .none => 0

def Second.pois (k : Second) (s : State) (r : BitVec 5) (i : Nat) : Bool :=
  match k with
  | .vec => elP s r i
  | .scal => s.me.rdP r.toNat
  | .none => false

/-- The format word that a vector instruction names, and whether it is poisoned (R76, R179). -/
def fword (s : State) (fs : BitVec 3) : W := s.me.rd (24 + fs.toNat)
def fwordP (s : State) (fs : BitVec 3) : Bool := s.me.rdP (24 + fs.toNat)

/-- Flags of a list of elements: those of the elements that are not poisoned (R83, R409). -/
def flagsOf (is : List Nat) (p : Nat → Bool) (fl : Nat → Flags) : Flags :=
  is.foldl (fun acc i => if p i then acc else acc ||| fl i) 0

/-- The elementwise floating instructions: fields, whether there are two sources, and the operation (R193, R195). -/
def vfltRule : Instr → Option (FV × Bool × (FW → Nat → Nat → Nat × Flags))
  | .vfadd f => some (f, true, fAdd)
  | .vfsub f => some (f, true, fSub)
  | .vfmul f => some (f, true, fMul)
  | .vfdiv f => some (f, true, fDiv)
  | .vfmin f => some (f, true, fMin)
  | .vfmax f => some (f, true, fMax)
  | .vfsgn f => some (f, true, fSgn)
  | .vfsqrt f => some (f, false, fun w a _ => fSqrt w a)
  | .vfexp f => some (f, false, fun w a _ => fExp w a)
  | .vflog f => some (f, false, fun w a _ => fLog w a)
  | _ => none

/-- The fused instructions: whether the product and whether the addend is negated (R193). -/
def vfusedRule : Instr → Option (FV × Bool × Bool)
  | .vfma f => some (f, false, false)
  | .vfms f => some (f, false, true)
  | .vfnma f => some (f, true, false)
  | _ => none

/-! ### Moves and masks (R196, R198) -/

/-- An element copied from position `j` of the group at `r` to position `i`. -/
def cp (s : State) (r : BitVec 5) (i j : Nat) : EWr := ⟨i, el s r j, elP s r j⟩

/-- The scalar source as an element, at position `i`. -/
def sc (s : State) (r : BitVec 5) (i : Nat) : EWr := ⟨i, (s.me.rd r.toNat).toNat % 2 ^ s.me.vec.lay.sew, s.me.rdP r.toNat⟩

/-- The elements that a move or permute writes (R196). -/
def moveRule (s : State) : Instr → Option (FV × List EWr)
  | .vmerge f => some (f, (List.range s.me.vec.vl).map fun i => cp s (if mkPermits s.me.vec f.msk i then f.b else f.c) i i)
  | .vmov f => some (f, (s.me.vec.actives f.msk).map fun i => cp s f.b i i)
  | .vsplat f => some (f, (s.me.vec.actives f.msk).map fun i => sc s f.b i)
  | .vfromg f => some (f, if 0 ∈ s.me.vec.actives f.msk then [sc s f.b 0] else [])
  | .vindex f => some (f, (s.me.vec.actives f.msk).map fun i => ⟨i, i % 2 ^ s.me.vec.lay.sew, false⟩)
  | .vprefix f => some (f, (s.me.vec.actives f.msk).map fun i =>
      let js := (s.me.vec.actives f.msk).filter (decide <| · ≤ i)
      ⟨i, (js.map (el s f.b)).sum % 2 ^ s.me.vec.lay.sew, js.any (elP s f.b)⟩)
  | .vslup f =>
      let k := (s.me.rd f.c.toNat).toNat
      some (f, ((s.me.vec.actives f.msk).filter (decide <| k ≤ ·)).map fun i =>
        ⟨i, el s f.b (i - k), elP s f.b (i - k) || s.me.rdP f.c.toNat⟩)
  | .vsldn f =>
      let k := (s.me.rd f.c.toNat).toNat
      some (f, (s.me.vec.actives f.msk).map fun i =>
        if i + k < s.me.vec.vl then ⟨i, el s f.b (i + k), elP s f.b (i + k) || s.me.rdP f.c.toNat⟩
        else ⟨i, 0, s.me.rdP f.c.toNat⟩)
  | .vsl1up f => some (f, (s.me.vec.actives f.msk).map fun i => if i = 0 then sc s f.c 0 else cp s f.b i (i - 1))
  | .vsl1dn f => some (f, (s.me.vec.actives f.msk).map fun i =>
      if i + 1 = s.me.vec.vl then sc s f.c i else cp s f.b i (i + 1))
  | .vperm f => some (f, (s.me.vec.actives f.msk).map fun i =>
      if el s f.c i < s.me.vec.vl then ⟨i, el s f.b (el s f.c i), elP s f.b (el s f.c i) || elP s f.c i⟩
      else ⟨i, 0, elP s f.c i⟩)
  | .vpack f => some (f, (List.range (s.me.vec.actives f.msk).length).map fun n =>
      cp s f.b n ((s.me.vec.actives f.msk).getD n 0))
  | _ => none

/-- Bit i of the mask that a field names. -/
def mb (s : State) (r : BitVec 5) (i : Nat) : Bool := maskBit (s.me.vec.mask r.toNat) s.me.vec.lay i

/-- The mask instructions: fields, whether there are two sources, whether a bit combines every position, and the bit
written for i < VL (R198). -/
def maskRule (s : State) : Instr → Option (FV × Bool × Bool × (Nat → Bool))
  | .mand f => some (f, true, false, fun i => mb s f.b i && mb s f.c i)
  | .mor f => some (f, true, false, fun i => mb s f.b i || mb s f.c i)
  | .mxor f => some (f, true, false, fun i => mb s f.b i != mb s f.c i)
  | .mandn f => some (f, true, false, fun i => mb s f.b i && !mb s f.c i)
  | .mmov f => some (f, false, false, fun i => mb s f.b i)
  | .mbefore f => some (f, false, true, fun i => (List.range (i + 1)).all fun j => !mb s f.b j)
  | .mthrough f => some (f, false, true, fun i => (List.range i).all fun j => !mb s f.b j)
  | .monly f => some (f, false, true, fun i => mb s f.b i && (List.range i).all fun j => !mb s f.b j)
  | _ => none

/-! ### Reductions (R200, R201) -/

/-- The integer reductions: fields, and the operation on an accumulator and an element of n bits. -/
def vredRule : Instr → Option (FV × (Nat → Nat → Nat → Nat))
  | .vrsum f => some (f, fun n a b => (a + b) % 2 ^ n)
  | .vrmax f => some (f, fun n a b => if sg n a < sg n b then b else a)
  | .vrmin f => some (f, fun n a b => if sg n b < sg n a then b else a)
  | .vrand f => some (f, fun _ a b => a &&& b)
  | .vror f => some (f, fun _ a b => a ||| b)
  | .vrxor f => some (f, fun _ a b => a ^^^ b)
  | _ => none

/-- The tree of R202 over the active elements that `x` gives: each lane ascending, then the 32 lanes of each cluster,
then the 16 clusters, each a tree that combines neighbours and rounds once at each node. -/
def treeSum (w : FW) (v : VecRegs) (mk : BitVec 2) (x : Nat → Machine.Num × Bool) : Option Part × Flags :=
  let lane (l : Nat) : Option Part × Flags := if l < v.lanes then laneSum w x (laneElems v mk l) else (none, 0)
  let cluster (k : Nat) : Option Part × Flags :=
    let ls := (List.range 32).map fun j => lane (32 * k + j)
    let t := tree (partJoin w) 5 (ls.map (·.1))
    (t.1, ls.foldl (fun a e => a ||| e.2) 0 ||| t.2)
  let cs := (List.range 16).map cluster
  let t := tree (partJoin w) 4 (cs.map (·.1))
  (t.1, cs.foldl (fun a e => a ||| e.2) 0 ||| t.2)

/-- The seed alone: a NaN comes through as the canonical one (R71). -/
def seedOnly (w : FW) (seed : Part) : Part :=
  (if readFlt w.dst seed.1 = .nan then canonNaN w.dst else seed.1, seed.2)

/-- The floating reductions: fields, and the result and flags of R201 and R202 from the active elements in ascending
order, each value with its poison. -/
def vfredRule (w : FW) (v : VecRegs) (x : Nat → Machine.Num × Bool) (seed : Part) : Instr → Option (FV × Part × Flags)
  | .vfrsum f =>
    let z := (v.actives f.msk).foldl (fun (acc : Part × Flags) j =>
      ((partAdd w acc.1 (x j).1 (x j).2).1, acc.2 ||| (partAdd w acc.1 (x j).1 (x j).2).2)) (seedOnly w seed, 0)
    some (f, z.1, z.2)
  | .vfrsumt f =>
    let t := treeSum w v f.msk x
    some (match t.1 with
      | none => (f, seedOnly w seed, t.2)
      | some y => (f, (partAdd w seed (readFlt w.dst y.1) y.2).1, t.2 ||| (partAdd w seed (readFlt w.dst y.1) y.2).2))
  | .vfrmax f =>
    let p := seed.2 || (v.actives f.msk).any fun j => (x j).2
    let y := writeFlt w.dst w.rm w.ovf ((v.actives f.msk).foldl (fun acc j => maxNum acc (x j).1) (readFlt w.dst seed.1))
    some (f, (y.1, p), if p then 0 else y.2)
  | .vfrmin f =>
    let p := seed.2 || (v.actives f.msk).any fun j => (x j).2
    let y := writeFlt w.dst w.rm w.ovf ((v.actives f.msk).foldl (fun acc j => minNum acc (x j).1) (readFlt w.dst seed.1))
    some (f, (y.1, p), if p then 0 else y.2)
  | _ => none

end Sys2Proof.Rules

/-! ### Vector arithmetic -/

/-- Every vector integer instruction completes on a quiet hart with its groups on multiples of G (R99): each active
element of vd holds the value of R190, poisoned if a source element is (R409), SAT is set by the saturating forms
(R191), and nothing else of the state differs but PC and the count of commands. -/
def Obligations.VectorIntegerCompletes : Prop :=
  ∀ (s : State) (i : Instr) (f : FV) (k : Second) (op : Nat → Nat → Nat → Nat × Bool), vintRule i = some (f, k, op) →
    Quiet s → onGroup s f.a → onGroup s f.b → (k = .vec → onGroup s f.c) →
    let v := s.me.vec
    let p (j : Nat) : Bool := elP s f.b j || k.pois s f.c j
    let y (j : Nat) : Nat × Bool := op v.lay.sew (el s f.b j) (k.val s f.c j)
    exec i s = .next (ran s (writeElems v v.lay f.a.toNat ((v.actives f.msk).map fun j => ⟨j, (y j).1, p j⟩))
      (flagsOf (v.actives f.msk) p fun j => if (y j).2 then fSAT else 0))

/-- Every compare completes on a quiet hart: mask register A takes the condition of R192 at each active position,
positions of poisoned elements are set in PM (R409, R410), and no flag is set. -/
def Obligations.VectorComparesComplete : Prop :=
  (∀ (s : State) (i : Instr) (f : FV) (k : Second) (c : Nat → Nat → Nat → Bool), vcmpRule i = some (f, k, c) →
    Quiet s → f.a.toNat < 2 → onGroup s f.b → (k = .vec → onGroup s f.c) →
    let v := s.me.vec
    exec i s = .next (ran s (setPM
      (writeMask v f.a.toNat ((v.actives f.msk).map fun j => (j, c v.lay.sew (el s f.b j) (k.val s f.c j))))
      ((v.actives f.msk).filter fun j => elP s f.b j || k.pois s f.c j)) 0)) ∧
  (∀ (s : State) (i : Instr) (f : FV) (c : Machine.Num → Machine.Num → Bool), vfcmpRule i = some (f, c) → Quiet s →
    fwordP s f.fs = false → fwCmp (fword s f.fs) true = true →
    (descOf i s.me.vec.lay (fword s f.fs)).earlyOk = true → (descOf i s.me.vec.lay (fword s f.fs)).lateOk = true →
    let v := s.me.vec
    let w := FW.of (fword s f.fs)
    let la := layOf v.lay (storageWidth w.src1)
    exec i s = .next (ran s (setPM
      (writeMask v f.a.toNat ((v.actives f.msk).map fun j =>
        (j, c (readFlt w.src1 (elemGet v la f.b.toNat j)) (readFlt w.src1 (elemGet v la f.c.toNat j)))))
      ((v.actives f.msk).filter fun j => elemPoison v la f.b.toNat j || elemPoison v la f.c.toNat j)) 0))

/-- Every vector floating instruction completes on a quiet hart when its format word passes the check of its class
(R77) and its operands the checks of R99 and R100: each active element of vd holds the rounded result of R193 to R195,
and FFLAGS gains the flags of the elements that are not poisoned (R83, R409). The operations are those of the scalar
instructions, whose rounding, special values and flags ScalarFloatCompletes states. -/
def Obligations.VectorFloatCompletes : Prop :=
  (∀ (s : State) (i : Instr) (f : FV) (two : Bool) (op : FW → Nat → Nat → Nat × Flags), vfltRule i = some (f, two, op) →
    Quiet s → fwordP s f.fs = false → fwElem (fword s f.fs) two = true → heldOk s.me.vec.lay (fword s f.fs) = true →
    (descOf i s.me.vec.lay (fword s f.fs)).earlyOk = true → (descOf i s.me.vec.lay (fword s f.fs)).lateOk = true →
    let v := s.me.vec
    let w := FW.of (fword s f.fs)
    let la := layOf v.lay (storageWidth w.src1)
    let p (j : Nat) : Bool := elemPoison v la f.b.toNat j || (two && elemPoison v la f.c.toNat j)
    let y (j : Nat) : Nat × Flags := op w (elemGet v la f.b.toNat j) (elemGet v la f.c.toNat j)
    exec i s = .next (ran s (writeElems v (layOf v.lay (storageWidth w.dst)) f.a.toNat
      ((v.actives f.msk).map fun j => ⟨j, (y j).1, p j⟩)) (flagsOf (v.actives f.msk) p fun j => (y j).2))) ∧
  (∀ (s : State) (i : Instr) (f : FV) (np nc : Bool), vfusedRule i = some (f, np, nc) → Quiet s →
    fwordP s f.fs = false → fwFused (fword s f.fs) = true → heldOk s.me.vec.lay (fword s f.fs) = true →
    (descOf i s.me.vec.lay (fword s f.fs)).earlyOk = true → (descOf i s.me.vec.lay (fword s f.fs)).lateOk = true →
    let v := s.me.vec
    let w := FW.of (fword s f.fs)
    let la := layOf v.lay (storageWidth w.src1)
    let ld := layOf v.lay (storageWidth w.dst)
    let p (j : Nat) : Bool :=
      elemPoison v la f.b.toNat j || elemPoison v la f.c.toNat j || elemPoison v ld f.a.toNat j
    let y (j : Nat) : Nat × Flags :=
      fFma w np nc (elemGet v la f.b.toNat j) (elemGet v la f.c.toNat j) (elemGet v ld f.a.toNat j)
    exec i s = .next (ran s (writeElems v ld f.a.toNat ((v.actives f.msk).map fun j => ⟨j, (y j).1, p j⟩))
      (flagsOf (v.actives f.msk) p fun j => (y j).2)))

/-- VFCVT converts each active element (R92, R93, R194), scaled by its block scale when SCL1 is set (R85, R86), and
VFCLASS writes its class mask (R130, R194), on a quiet hart with good operands and a good format word. -/
def Obligations.VectorConversionsComplete : Prop :=
  (∀ (s : State) (f : FV), Quiet s → fwordP s f.fs = false → fwConv (fword s f.fs) false = true →
    heldOk s.me.vec.lay (fword s f.fs) = true →
    (descOf (.vfcvt f) s.me.vec.lay (fword s f.fs)).earlyOk = true →
    (descOf (.vfcvt f) s.me.vec.lay (fword s f.fs)).lateOk = true →
    let v := s.me.vec
    let w := FW.of (fword s f.fs)
    let la := layOf v.lay (storageWidth w.src1)
    let r := f.b.toNat + extent v.lay (storageWidth w.src1)
    let p (j : Nat) : Bool := elemPoison v la f.b.toNat j || (w.scl1 && elemPoison v ⟨8, 1⟩ r (j / 32))
    let y (j : Nat) : Nat × Flags :=
      convert w.src1 w.dst w.rm w.ovf w.ts (if w.scl1 then blockScale v r j else none) w.scl1
        (elemGet v la f.b.toNat j % 2 ^ fmtWidth w.src1)
    exec (.vfcvt f) s = .next (ran s (writeElems v (layOf v.lay (storageWidth w.dst)) f.a.toNat
      ((v.actives f.msk).map fun j => ⟨j, (y j).1, p j⟩)) (flagsOf (v.actives f.msk) p fun j => (y j).2))) ∧
  (∀ (s : State) (f : FV), Quiet s → fwordP s f.fs = false → fwCmp (fword s f.fs) false = true →
    extent s.me.vec.lay (storageWidth (FW.of (fword s f.fs)).src1) ≠ 0 → 16 ≤ s.me.vec.lay.sew →
    (descOf (.vfclass f) s.me.vec.lay (fword s f.fs)).earlyOk = true →
    (descOf (.vfclass f) s.me.vec.lay (fword s f.fs)).lateOk = true →
    let v := s.me.vec
    let w := FW.of (fword s f.fs)
    let la := layOf v.lay (storageWidth w.src1)
    exec (.vfclass f) s = .next (ran s (writeElems v v.lay f.a.toNat ((v.actives f.msk).map fun j =>
      ⟨j, classOf w.src1 (elemGet v la f.b.toNat j), elemPoison v la f.b.toNat j⟩)) 0))

/-- Every move and permute completes on a quiet hart with good operands: exactly the elements of R196 are written,
with their poison, and no flag is set. VTOG and VEXT write gd with an element, sign-extended, or 0 at or above the
capacity. -/
def Obligations.VectorMovesComplete : Prop :=
  (∀ (s : State) (i : Instr) (f : FV) (ws : List EWr), moveRule s i = some (f, ws) → Quiet s →
    (descOf i s.me.vec.lay 0).earlyOk = true →
    exec i s = .next (ran s (writeElems s.me.vec s.me.vec.lay f.a.toNat ws) 0)) ∧
  (∀ (s : State) (f : FV), Quiet s → onGroup s f.b →
    exec (.vtog f) s = .next (s.setMe { s.me.wrP f.a.toNat
      (if 0 < s.me.vec.cap then BitVec.ofInt 64 (sInt s.me.vec.lay.sew (el s f.b 0)) else 0)
      (decide (0 < s.me.vec.cap) && elP s f.b 0) with pc := nextPc s.me.pc }) ∧
    (let k := (s.me.rd f.c.toNat).toNat
     exec (.vext f) s = .next (s.setMe { s.me.wrP f.a.toNat
      (if k < s.me.vec.cap then BitVec.ofInt 64 (sInt s.me.vec.lay.sew (el s f.b k)) else 0)
      ((decide (k < s.me.vec.cap) && elP s f.b k) || s.me.rdP f.c.toNat) with pc := nextPc s.me.pc })))

/-- Every mask instruction completes on a quiet hart: the bits below VL are those of R198, and the others keep their
values. MPOPC counts the bits below VL, and MFFS gives the place of the lowest, or all ones. A result that combines several
inputs is poisoned if any of them is (R409): MBEFORE, MTHROUGH and MONLY set in PM every position below VL when one of those is
in it, and MPOPC and MFFS then give a poisoned value. That each of their results combines all the positions below VL, that MTOV
gives a poisoned element where its position is in PM, and that the others leave PM, is the model's reading (log 9). -/
def Obligations.MaskInstructionsComplete : Prop :=
  (∀ (s : State) (i : Instr) (f : FV) (two mix : Bool) (b : Nat → Bool), maskRule s i = some (f, two, mix, b) → Quiet s →
    f.a.toNat < 2 → f.b.toNat < 2 → (two = true → f.c.toNat < 2) →
    let v := s.me.vec
    let bad := (List.range v.vl).any fun j => maskBit v.pm v.lay j
    exec i s = .next (ran s (setPM (writeMask v f.a.toNat ((List.range v.vl).map fun j => (j, b j)))
      (if mix && bad then List.range v.vl else [])) 0)) ∧
  (∀ (s : State) (f : FV), Quiet s → f.a.toNat < 2 → onGroup s f.b →
    exec (.mfromv f) s = .next (ran s (setPM
      (writeMask s.me.vec f.a.toNat ((List.range s.me.vec.vl).map fun j => (j, decide (el s f.b j ≠ 0))))
      ((List.range s.me.vec.vl).filter (elP s f.b))) 0)) ∧
  (∀ (s : State) (f : FV), Quiet s → onGroup s f.a → f.b.toNat < 2 →
    exec (.mtov f) s = .next (ran s (writeElems s.me.vec s.me.vec.lay f.a.toNat ((List.range s.me.vec.vl).map fun j =>
      ⟨j, if mb s f.b j then 1 else 0, maskBit s.me.vec.pm s.me.vec.lay j⟩)) 0)) ∧
  (∀ (s : State) (f : FV), Quiet s → f.b.toNat < 2 →
    let bad := (List.range s.me.vec.vl).any fun j => maskBit s.me.vec.pm s.me.vec.lay j
    exec (.mpopc f) s = .next (s.setMe { s.me.wrP f.a.toNat
      (BitVec.ofNat 64 ((List.range s.me.vec.vl).filter (mb s f.b)).length) bad with pc := nextPc s.me.pc }) ∧
    exec (.mffs f) s = .next (s.setMe { s.me.wrP f.a.toNat
      (match (List.range s.me.vec.vl).find? (mb s f.b) with
       | some j => BitVec.ofNat 64 j
       | none => 0xFFFFFFFFFFFFFFFF#64) bad with pc := nextPc s.me.pc }))

/-- Every reduction completes on a quiet hart with good operands (R199 to R202): element 0 of vd holds the integer
result of R200 over the seed and the active elements, or the floating one: VFRSUM and VFRMAX and VFRMIN by R201, VFRSUMT
by the tree of R202; with its poison and the flags, none where the result is poisoned (R409). A NaN seed that nothing is
added to comes through canonical (R71). Nothing is written, and no flag set, when the capacity is 0 (R199). -/
def Obligations.ReductionsComplete : Prop :=
  (∀ (s : State) (i : Instr) (f : FV) (op : Nat → Nat → Nat → Nat), vredRule i = some (f, op) → Quiet s →
    onGroup s f.a → onGroup s f.b → onGroup s f.c →
    let v := s.me.vec
    exec i s = .next (ran s (if v.cap = 0 then v else writeElems v v.lay f.a.toNat
      [⟨0, (v.actives f.msk).foldl (fun acc j => op v.lay.sew acc (el s f.b j)) (el s f.c 0),
        elP s f.c 0 || (v.actives f.msk).any (elP s f.b)⟩]) 0)) ∧
  (∀ (s : State) (f : FV), Quiet s → s.me.vec.lay.sew ≠ 64 → (descOf (.vwrsum f) s.me.vec.lay 0).earlyOk = true →
    let v := s.me.vec
    let lw : Lay := ⟨2 * v.lay.sew, 2 * v.lay.g⟩
    exec (.vwrsum f) s = .next (ran s (if v.cap = 0 then v else writeElems v lw f.a.toNat
      [⟨0, (v.actives f.msk).foldl (fun acc j => (acc + wrap lw.sew (sg v.lay.sew (el s f.b j))) % 2 ^ lw.sew)
          (elemGet v lw f.c.toNat 0),
        elemPoison v lw f.c.toNat 0 || (v.actives f.msk).any (elP s f.b)⟩]) 0)) ∧
  (∀ (s : State) (i : Instr) (f : FV) (r : Part) (fl : Flags), Quiet s → fwordP s f.fs = false →
    fwElem (fword s f.fs) false = true → heldOk s.me.vec.lay (fword s f.fs) = true →
    (descOf i s.me.vec.lay (fword s f.fs)).earlyOk = true → (descOf i s.me.vec.lay (fword s f.fs)).lateOk = true →
    let v := s.me.vec
    let w := FW.of (fword s f.fs)
    let la := layOf v.lay (storageWidth w.src1)
    let ld := layOf v.lay (storageWidth w.dst)
    let x (j : Nat) : Machine.Num × Bool :=
      ((readFlt w.src1 (elemGet v la f.b.toNat j)).scale w.ts, elemPoison v la f.b.toNat j)
    let seed : Part := (elemGet v ld f.c.toNat 0, elemPoison v ld f.c.toNat 0)
    vfredRule w v x seed i = some (f, r, fl) →
    exec i s = .next (if v.cap = 0 then ran s v 0 else ran s (writeElems v ld f.a.toNat [⟨0, r.1, r.2⟩]) fl))

/-- A register element reads as it was last written, and every other element and every other register keep their bits
(R151 to R153): for a group inside the register file and positions inside the capacity of at most 512 lanes, in every
shape. A mask bit reads as it was last written, and every other bit keeps its value (R151). -/
def Obligations.ElementsAndMaskBitsReadAsWritten : Prop :=
  (∀ (v : VecRegs) (sewc : BitVec 3) (gc : BitVec 2) (b i j x : Nat), sewc.toNat < 5 →
    let a : Lay := ⟨sewOf sewc, gOf gc⟩
    b + a.g ≤ 32 → v.lanes ≤ 512 → i < a.cap v.lanes → j < a.cap v.lanes →
    elemGet (elemPut v a b i x) a b j = (if j = i then x % 2 ^ a.sew else elemGet v a b j) ∧
      (∀ r, ¬ (b ≤ r ∧ r < b + a.g) → (elemPut v a b i x).v.get 0 r = v.v.get 0 r)) ∧
  (∀ (m : MReg) (sewc : BitVec 3) (gc : BitVec 2) (i j lanes : Nat) (x : Bool), sewc.toNat < 5 →
    let a : Lay := ⟨sewOf sewc, gOf gc⟩
    lanes ≤ 512 → i < a.cap lanes → j < a.cap lanes →
    maskBit (maskSet m a i x) a j = if j = i then x else maskBit m a j)

namespace Sys2Proof.Rules

/-! ### Grants (R159) -/

/-- The shape that a SETVL or SHAPE names. -/
def shapeOf (k : BitVec 12) : Lay := ⟨sewOf (shapeSew k), gOf (shapeG k)⟩

/-- The grant instructions: AVL, and the new shape. -/
def grantRule (s : State) : Instr → Option (BitVec 5 × Nat × BitVec 3 × BitVec 2)
  | .setvl f => some (f.a, (gv s f.b).toNat, shapeSew f.imm, shapeG f.imm)
  | .setvlk f => some (f.a, f.imm.toNat, s.me.vec.sewc, s.me.vec.gc)
  | _ => none

/-- Lmin of R159. -/
def lmin (old new : Lay) (lp : Nat) : Nat := if new.half ∨ (old.half ∧ 0 < lp) then 2 else 1

/-- need of R159. -/
def needOf (new : Lay) (avl : Nat) : Nat := if new.half then 2 * avl else (avl + new.p - 1) / new.p

/-- The core of the moving hart. -/
def myCore (s : State) : CoreSt := s.core (coreOf s.cur)

/-! ### Vector memory (R248, R249, R259) -/

/-- No translation applies: firmware level, or ATP.E = 0 (R234, R237). -/
def Bare (s : State) : Prop := s.me.priv = 2 ∨ bit s.myCtx.atp 63 = false

/-- Where the elements of a command lie: number, address, width in bytes, and whether the address is poisoned. -/
structure Ea where
  i : Nat
  ea : W
  w : Nat
  bad : Bool

/-- Every element's access is good: the address is not poisoned, it is a multiple of the width, and it leads to `loc`,
in plaintext, with no mark of the walker to set (R237, R239, R251). -/
def Reaches (s : State) (k : Kind) (es : List Ea) (loc : Nat → Nat) : Prop :=
  ∀ e, e ∈ es → e.bad = false ∧ e.ea.toNat % e.w = 0 ∧
    ∃ mt via, xlateMe s .vector k e.ea e.w = .ok ⟨⟨loc e.i, mt, none, via⟩, s⟩

/-- The page tables agree with themselves on these elements: where the leaf that one finds covers another, that finds a leaf
of the same contents. An access that translates each page once then reads what each of its elements finds (R236, R242). -/
def OneLeaf (s : State) (k : Kind) (es : List Ea) : Prop :=
  Bare s ∨ ∀ a b, a ∈ es → b ∈ es → inWindow a.ea = false → inWindow b.ea = false →
    let atp := s.myCtx.atp
    ∀ f, findLeaf s s.me.ctx s.me.priv k a.ea atp = .ok f →
      (tlbEntry a.ea atp 0 f.leaf.at_ (some f.leaf.pte)).covers b.ea = true →
      ∃ g, findLeaf s s.me.ctx s.me.priv k b.ea atp = .ok g ∧ g.leaf.pte = f.leaf.pte

/-- The addresses of unit-stride elements: with SEW = 4 two share a byte (R248). -/
def unitEa (s : State) (f : FM) (i : Nat) : Ea :=
  ⟨i, gv s f.b + BitVec.ofNat 64 (if s.me.vec.lay.sew = 4 then i / 2 else i * 2 ^ f.ew.toNat), 2 ^ f.ew.toNat,
    s.me.rdP f.b.toNat⟩

def stridedEa (s : State) (f : FM) (i : Nat) : Ea :=
  ⟨i, gv s f.b + BitVec.ofNat 64 i * gv s f.c, 2 ^ f.ew.toNat, s.me.rdP f.b.toNat || s.me.rdP f.c.toNat⟩

def indexedEa (s : State) (b c : BitVec 5) (w i : Nat) : Ea :=
  ⟨i, gv s b + BitVec.ofNat 64 (el s c i), w, s.me.rdP b.toNat || elP s c i⟩

/-- ew agrees with SEW (R248); `packed`: the instruction runs with SEW = 4. -/
def ewFits (s : State) (f : FM) (packed : Bool) : Bool :=
  if s.me.vec.lay.sew = 4 then packed && f.ew == 0 else 8 * 2 ^ f.ew.toNat == s.me.vec.lay.sew

/-- The vector loads and stores: fields, whether the instruction runs with SEW = 4, and the place of each element. -/
def vloadRule (s : State) : Instr → Option (FM × Bool × (Nat → Ea))
  | .vld f => some (f, true, unitEa s f)
  | .vlds f => some (f, false, stridedEa s f)
  | .vldx f => some (f, false, indexedEa s f.b f.c (2 ^ f.ew.toNat))
  | .vldff f => some (f, true, unitEa s f)
  | _ => none

def vstoreRule (s : State) : Instr → Option (FM × Bool × (Nat → Ea))
  | .vst f => some (f, true, unitEa s f)
  | .vsts f => some (f, false, stridedEa s f)
  | .vstx f => some (f, false, indexedEa s f.b f.c (2 ^ f.ew.toNat))
  | .vstxo f => some (f, false, indexedEa s f.b f.c (2 ^ f.ew.toNat))
  | _ => none

/-- The number that `w` bytes of a memory hold, lowest first (R10). -/
def num (m : List Host.Cell) (loc w : Nat) : Nat := ((List.range w).map fun k => (memGet m (loc + k)).toNat * 256 ^ k).sum

/-- The element that a unit of SEW = 4 is, of the byte that holds two (R248). -/
def part (s : State) (i x : Nat) : Nat := if s.me.vec.lay.sew = 4 then x / 16 ^ (i % 2) % 16 else x

/-- A memory after elements are stored one after another, each at its place (R255). With SEW = 4 the other half of the
byte stays. -/
def storedBy (s : State) (w : Nat) (loc x : Nat → Nat) (skip : Nat → Bool) (is : List Nat) (m : List Host.Cell) :
    List Host.Cell :=
  is.foldl (fun m i => if skip i then m else
    memPuts m (loc i) (leBytes w (if s.me.vec.lay.sew = 4 then
      num m (loc i) 1 - num m (loc i) 1 / 16 ^ (i % 2) % 16 * 16 ^ (i % 2) + x i % 16 * 16 ^ (i % 2) else x i))) m

/-- Elements read and written one after another: the memory, each element's old value, and the flags (R261). -/
def amoBy (w : Nat) (op : Nat → Nat → Nat × Flags) (loc x : Nat → Nat) :
    List Nat → List Host.Cell → List Host.Cell × List (Nat × Nat) × Flags
  | [], m => (m, [], 0)
  | i :: r, m =>
    let old := num m (loc i) w
    let y := op old (x i)
    let z := amoBy w op loc x r (memPuts m (loc i) (leBytes w y.1))
    (z.1, (i, old) :: z.2.1, y.2 ||| z.2.2)

/-- The operations of R260 on elements of n bits. -/
def vamoRule : Instr → Option (FA × (Nat → Nat → Nat → Nat × Flags))
  | .vamoswap f => some (f, fun _ _ b => (b, 0))
  | .vamoadd f => some (f, fun n a b => ((a + b) % 2 ^ n, 0))
  | .vamoand f => some (f, fun _ a b => (a &&& b, 0))
  | .vamoor f => some (f, fun _ a b => (a ||| b, 0))
  | .vamoxor f => some (f, fun _ a b => (a ^^^ b, 0))
  | .vamomin f => some (f, fun n a b => (if sg n b < sg n a then b else a, 0))
  | .vamomax f => some (f, fun n a b => (if sg n a < sg n b then b else a, 0))
  | .vamominu f => some (f, fun _ a b => (min a b, 0))
  | .vamomaxu f => some (f, fun _ a b => (max a b, 0))
  | .vamofadd f => some (f, fun n a b =>
      let k := if n = 64 then 11 else 10
      let y := addNum 0 (readFlt k a) (readFlt k b)
      ((writeFlt k 0 false y.1).1, y.2 ||| (writeFlt k 0 false y.1).2))
  | _ => none

/-- The reductions in memory: whether the instruction sorts by index (VSRED), and its operation (R269, R272). -/
def memRedRule : Instr → Option (FV × Bool × ROp)
  | .vsredadd f => some (f, true, .add)
  | .vsredmax f => some (f, true, .max)
  | .vsredmin f => some (f, true, .min)
  | .vsredfadd f => some (f, true, .fadd)
  | .vmredadd f => some (f, false, .add)
  | .vmredmax f => some (f, false, .max)
  | .vmredmin f => some (f, false, .min)
  | .vmredfadd f => some (f, false, .fadd)
  | _ => none

/-- op(m, y) on n bits with its flags: FADD scales y by 2^(TSCALE − 127) and rounds once (R270). -/
def redOp (o : ROp) (n : Nat) (w : FW) (a b : Nat) : Nat × Flags :=
  match o with
  | .add => ((a + b) % 2 ^ n, 0)
  | .max => (if sg n a < sg n b then b else a, 0)
  | .min => (if sg n b < sg n a then b else a, 0)
  | .fadd =>
    let y := addNum w.rm (readFlt w.dst a) ((readFlt w.dst b).scale w.ts)
    ((writeFlt w.dst w.rm w.ovf y.1).1, y.2 ||| (writeFlt w.dst w.rm w.ovf y.1).2)

/-- The format word of an FADD form is good: SRC1 = DST, at storage width SEW (R269). -/
def redFmt (s : State) (f : FV) (o : ROp) : Prop :=
  o = .fadd → fwordP s f.fs = false ∧ fwElem (fword s f.fs) false = true ∧
    (FW.of (fword s f.fs)).src1 = (FW.of (fword s f.fs)).dst ∧
    storageWidth (FW.of (fword s f.fs)).dst = s.me.vec.lay.sew

end Sys2Proof.Rules

/-! ### Grants and folds -/

/-- SETVL and SETVLK complete on a quiet hart that holds a cluster or whose core has one free, and that has a save
area at user level (R159, R184, R185): VL is the smaller of AVL and the capacity of the lanes granted, it is written
to gd, the new shape is in force, and the lanes are at least Lmin and at most the larger of Lmin and the need, and of
GCAP. A grant below the old one sets GSTAT.LOSS and the GLOSS record. -/
def Obligations.GrantStepCompletes : Prop :=
  ∀ (s : State) (i : Instr) (d : BitVec 5) (avl : Nat) (sewc : BitVec 3) (gc : BitVec 2),
    grantRule s i = some (d, avl, sewc, gc) → Quiet s → (s.me.priv = 0 → bit s.me.vec.vsave 0 = true) →
    (heldBy (myCore s) s.cur ≠ [] ∨ freeClusters (myCore s) ≠ []) →
    let new : Lay := ⟨sewOf sewc, gOf gc⟩
    let lo := lmin s.me.vec.lay new s.me.vec.lanes
    ∃ t, exec i s = .next t ∧ t.me.pc = nextPc s.me.pc ∧ t.me.vec.sewc = sewc ∧ t.me.vec.gc = gc ∧
      t.me.vec.vl = min avl (new.cap t.me.vec.lanes) ∧ (d ≠ 0 → t.me.rd d.toNat = BitVec.ofNat 64 t.me.vec.vl) ∧
      t.me.vec.phys = t.me.vec.lanes ∧ lo ≤ t.me.vec.lanes ∧ t.me.vec.lanes ≤ max lo (needOf new avl) ∧
      t.me.vec.lanes ≤ max lo (512 - 32 * ((List.range 16).filter fun k => (myCore s).lanedis.getLsbD k).length) ∧
      (new.half = true → t.me.vec.lanes % 2 = 0) ∧ t.me.vec.scnt = s.me.vec.scnt + 1 ∧
      bit t.me.vec.gstat 2 = false ∧ t.me.vec.stripDone = 0 ∧ t.me.vec.vlinks = [] ∧ SameGBut s t [d.toNat] ∧
      (t.me.vec.lanes < s.me.vec.lanes → bit t.me.vec.gstat 0 = true ∧
        fld t.me.vec.gloss 0 20 = (t.me.vec.lanes * 2 ^ 10 + s.me.vec.lanes) % 2 ^ 20) ∧
      (s.me.vec.lanes ≤ t.me.vec.lanes → t.me.vec.gloss = s.me.vec.gloss ∧ t.me.vec.v = s.me.vec.v ∧
        t.me.vec.m0 = s.me.vec.m0 ∧ t.me.vec.m1 = s.me.vec.m1 ∧ t.me.vec.pm = s.me.vec.pm ∧ t.me.fflags = s.me.fflags)

/-- SHAPE completes: it puts a shape in force without a grant step, trims VL to the capacity, and writes the capacity
to gd (R186). VFOLD completes on a quiet hart that has a slot for the register (R161, R187), and op 4 when its format
word passes the check of the class, with DST as wide as an element. VFOLDTO completes: it releases the slot of its
register, and where n is at least 1 and below the capacity and the slot meets R188 it folds the positions from n up
into those below and sets them to 0 (R189). That a poisoned fold count n is used with its value, and poisons no element, is the
model's choice (log 57). -/
def Obligations.ShapesAndFoldsComplete : Prop :=
  (∀ (s : State) (f : FI), Quiet s →
    let cap := (shapeOf f.imm).cap s.me.vec.lanes
    exec (.shape f) s = .next (s.setMe { s.me.wr f.a.toNat (BitVec.ofNat 64 cap) with
      pc := nextPc s.me.pc,
      vec := { s.me.vec with sewc := shapeSew f.imm, gc := shapeG f.imm, vl := min s.me.vec.vl cap,
                             stripDone := s.me.vec.stripDone + 1 } })) ∧
  (∀ (s : State) (f : FV) (t : Nat), Quiet s → onGroup s f.a → slotFor s.me.vec f.a.toNat = some t →
    (f.b.toNat = 4 → fwordP s f.fs = false ∧ fwElem (fword s f.fs) false = true ∧
      storageWidth (FW.of (fword s f.fs)).dst = s.me.vec.lay.sew) →
    exec (.vfold f) s = .next (ran s { s.me.vec with folds := s.me.vec.folds.set t (BitVec.ofNat 64
      ((if f.b.toNat = 4 then (fword s f.fs).toNat % 2 ^ 32 * 2 ^ 32 else 0) + 2 ^ 15 + f.a.toNat * 2 ^ 8 + f.b.toNat)) } 0)) ∧
  (∀ (s : State) (f : FV), Quiet s →
    (slotNamed s.me.vec f.a.toNat = none → exec (.vfoldto f) s = .next (ran s s.me.vec 0)) ∧
    (∀ t, slotNamed s.me.vec f.a.toNat = some t →
      ¬ (1 ≤ (gv s f.b).toNat ∧ (gv s f.b).toNat < s.me.vec.cap ∧ slotFolds s.me.vec.lay (s.me.vec.fold t) = true) →
      exec (.vfoldto f) s = .next (ran s { s.me.vec with folds := s.me.vec.folds.set t 0 } 0)) ∧
    (∀ t, slotNamed s.me.vec f.a.toNat = some t → 1 ≤ (gv s f.b).toNat → (gv s f.b).toNat < s.me.vec.cap →
      slotFolds s.me.vec.lay (s.me.vec.fold t) = true →
      let n := (gv s f.b).toNat
      let x := foldRange s.me.vec.lay (s.me.vec.fold t) n n (s.me.vec.cap - n) s.me.vec
      let z := writeElems x.1 s.me.vec.lay f.a.toNat ((List.range (s.me.vec.cap - n)).map fun k => ⟨n + k, 0, false⟩)
      exec (.vfoldto f) s = .next (ran s { z with folds := z.folds.set t 0 } x.2)))

/-! ### Vector loads and stores -/

/-- Every vector load completes outside REV when each active element's access is good: each takes the number at its
place (R248, R249, R255), elements that are not active stay, and the positions of poisoned elements are set in PM
(R408). A unit-stride or strided load, which translates each page once (R242), finds page tables that agree. VLDFF with a cause at an active element that is not its lowest: it completes, the elements below are loaded,
and VL is the number of that element (R258). -/
def Obligations.VectorLoadsAndTrimsComplete : Prop :=
  (∀ (s : State) (i : Instr) (f : FM) (pk : Bool) (ea : Nat → Ea) (loc : Nat → Nat), vloadRule s i = some (f, pk, ea) →
    Quiet s → s.lineKeys = [] → s.me.mode ≠ 2 → ewFits s f pk = true → (descOf i s.me.vec.lay 0).earlyOk = true →
    Reaches s .load ((s.me.vec.actives f.msk).map ea) loc →
    (i ≠ .vldx f → OneLeaf s .load ((s.me.vec.actives f.msk).map ea)) →
    let v := s.me.vec
    let w := 2 ^ f.ew.toNat
    exec i s = .next (ran s (setPM
      (writeElems v v.lay f.a.toNat ((v.actives f.msk).map fun j =>
        ⟨j, part s j (num s.mem (loc j) w), marked s (loc j) w⟩))
      ((v.actives f.msk).filter fun j => marked s (loc j) w)) 0)) ∧
  (∀ (s : State) (f : FM) (loc : Nat → Nat) (pre post : List Nat) (j : Nat), Quiet s → s.lineKeys = [] → s.marks = [] →
    s.regions = [] → s.me.mode ≠ 2 → ewFits s f true = true → (descOf (.vldff f) s.me.vec.lay 0).earlyOk = true →
    s.me.vec.actives f.msk = pre ++ j :: post → pre ≠ [] → Reaches s .load (pre.map (unitEa s f)) loc →
    OneLeaf s .load ((pre ++ [j]).map (unitEa s f)) →
    ((unitEa s f j).ea.toNat % (unitEa s f j).w ≠ 0 ∨
      ∃ c, xlateMe s .vector .load (unitEa s f j).ea (unitEa s f j).w = .error c ∧ c.code ≠ 0x17) →
    let v := s.me.vec
    exec (.vldff f) s = .next (ran s
      { writeElems v v.lay f.a.toNat (pre.map fun k => ⟨k, part s k (num s.mem (loc k) (2 ^ f.ew.toNat)), false⟩) with
        vl := j } 0))

/-- Every vector store completes in OFF, untranslated and in plain memory, when each active element's access is good:
the bytes at its place are those of the element (R248, R249, R255), in ascending order where places meet (R256; for
VSTX the order is the model's, log 4), and every other byte stays. An element that is poisoned, or whose position is
in PM, is not stored, and REP is set (R410). -/
def Obligations.VectorStoresComplete : Prop :=
  ∀ (s : State) (i : Instr) (f : FM) (pk : Bool) (ea : Nat → Ea) (loc : Nat → Nat), vstoreRule s i = some (f, pk, ea) →
    Quiet s → PlainMem s → Bare s → s.me.mode = 0 → ewFits s f pk = true → (descOf i s.me.vec.lay 0).earlyOk = true →
    Reaches s .store ((s.me.vec.actives f.msk).map ea) loc →
    let v := s.me.vec
    let skip (j : Nat) : Bool := elP s f.a j || maskBit v.pm v.lay j
    ∃ t, exec i s = .next t ∧ t.me.pc = nextPc s.me.pc ∧
      t.mem = storedBy s (2 ^ f.ew.toNat) loc (el s f.a) skip (v.actives f.msk) s.mem ∧
      t.me.vec = { v with stripDone := v.stripDone + 1, vlinks := t.me.vec.vlinks } ∧ SameGBut s t [] ∧
      t.me.fflags = s.me.fflags ∧ t.me.queue = [] ∧
      ((v.actives f.msk).any skip = false → t.me.flt = s.me.flt) ∧ ((v.actives f.msk).any skip = true → t.me.flt.rep = true)

/-- VLDM reads a mask, one bit of a byte for each position below VL, and VSTM writes one (R259): byte k holds the bits
of positions 8k to 8k + 7, lowest first, and those at and above VL are 0. -/
def Obligations.MaskLoadsAndStoresComplete : Prop :=
  (∀ (s : State) (f : FM) (loc : Nat → Nat), Quiet s → s.lineKeys = [] → s.marks = [] → s.regions = [] → s.me.mode ≠ 2 →
    f.a.toNat < 2 →
    let es : List Ea :=
      (List.range ((s.me.vec.vl + 7) / 8)).map fun k => ⟨8 * k, gv s f.b + BitVec.ofNat 64 k, 1, s.me.rdP f.b.toNat⟩
    Reaches s .load es loc → OneLeaf s .load es →
    let v := s.me.vec
    exec (.vldm f) s = .next (ran s (writeMask v f.a.toNat ((List.range v.vl).map fun j =>
      (j, (num s.mem (loc (8 * (j / 8))) 1).testBit (j % 8)))) 0)) ∧
  (∀ (s : State) (f : FM) (loc : Nat → Nat), Quiet s → PlainMem s → Bare s → s.me.mode = 0 → s.me.vec.pm = 0 →
    f.a.toNat < 2 →
    Reaches s .store ((List.range ((s.me.vec.vl + 7) / 8)).map fun k => ⟨8 * k, gv s f.b + BitVec.ofNat 64 k, 1, s.me.rdP f.b.toNat⟩) loc →
    let v := s.me.vec
    ∃ t, exec (.vstm f) s = .next t ∧ t.me.pc = nextPc s.me.pc ∧ SameGBut s t [] ∧ t.me.flt = s.me.flt ∧
      t.mem = (List.range ((v.vl + 7) / 8)).foldl (fun m k => memPuts m (loc (8 * k))
        [BitVec.ofNat 8 ((List.range 8).map fun j =>
          if 8 * k + j < v.vl ∧ maskBit (v.mask f.a.toNat) v.lay (8 * k + j) = true then 2 ^ j else 0).sum]) s.mem)

/-! ### Vector atomics and reductions in memory -/

/-- Every VAMO completes in OFF, untranslated and in plain memory, when each active element's access is good, its
data is not poisoned and its position is not in PM (R410): each takes its old value and the place the new one, one after another (R260, R261). The order is
the model's first choice, ascending (log 4); it shows only where elements share a place. -/
def Obligations.VectorAtomicsComplete : Prop :=
  ∀ (s : State) (i : Instr) (f : FA) (op : Nat → Nat → Nat → Nat × Flags) (loc : Nat → Nat), vamoRule i = some (f, op) →
    Quiet s → PlainMem s → Bare s → s.me.mode = 0 → (s.me.vec.lay.sew = 32 ∨ s.me.vec.lay.sew = 64) →
    (descOf i s.me.vec.lay 0).earlyOk = true →
    (∀ j, j ∈ s.me.vec.actives f.msk → elP s f.a j = false ∧ maskBit s.me.vec.pm s.me.vec.lay j = false) →
    Reaches s .amo ((s.me.vec.actives f.msk).map (indexedEa s f.b f.c (s.me.vec.lay.sew / 8))) loc →
    let v := s.me.vec
    let z := amoBy (v.lay.sew / 8) (op v.lay.sew) loc (el s f.a) (v.actives f.msk) s.mem
    ∃ t, exec i s = .next t ∧ t.me.pc = nextPc s.me.pc ∧ t.mem = z.1 ∧ t.me.fflags = s.me.fflags ||| z.2.2 ∧
      t.me.vec = { writeElems v v.lay f.a.toNat (z.2.1.map fun e => ⟨e.1, e.2, false⟩) with
        stripDone := v.stripDone + 1, vlinks := t.me.vec.vlinks } ∧ SameGBut s t [] ∧ t.me.flt = s.me.flt

/-- VGLL loads each active element and makes the link set those elements (R263, R264); with release at sys scope it first
writes back the core's dirty stash bytes (R292). VSCC stores the elements whose
link stands and that no lower active element shares the address of, says in m1 which, and clears the link set (R265).
VWAIT whose active elements all meet its condition completes in its first round, and clears m1 below VL (R267, R268).
The positions have places in a mask register, as those of a capacity of at most 512 lanes do. -/
def Obligations.LinkedVectorsAndWaitComplete : Prop :=
  (∀ (s : State) (f : FA) (loc : Nat → Nat), Quiet s → s.lineKeys = [] → s.marks = [] → s.regions = [] → s.me.mode ≠ 2 →
    (s.me.vec.lay.sew = 32 ∨ s.me.vec.lay.sew = 64) → (descOf (.vgll f) s.me.vec.lay 0).earlyOk = true →
    Reaches s .load ((s.me.vec.actives f.msk).map (indexedEa s f.b f.c (s.me.vec.lay.sew / 8))) loc →
    let v := s.me.vec
    let w := v.lay.sew / 8
    exec (.vgll f) s = .next (ran (releaseTo s (f.rl == 1 && f.scope == 4))
      { writeElems v v.lay f.a.toNat ((v.actives f.msk).map fun j => ⟨j, num s.mem (loc j) w, false⟩) with
        vlinks := (v.actives f.msk).map fun j => ⟨j, (indexedEa s f.b f.c w j).ea, w, loc j / 64⟩ } 0)) ∧
  (∀ (s : State) (f : FA) (loc : Nat → Nat), Quiet s → PlainMem s → Bare s → s.me.mode = 0 → s.me.vec.pm = 0 →
    (s.me.vec.lay.sew = 32 ∨ s.me.vec.lay.sew = 64) → (descOf (.vscc f) s.me.vec.lay 0).earlyOk = true →
    (∀ j, j ∈ s.me.vec.actives f.msk → elP s f.a j = false) →
    Reaches s .store ((s.me.vec.actives f.msk).map (indexedEa s f.b f.c (s.me.vec.lay.sew / 8))) loc →
    let v := s.me.vec
    let w := v.lay.sew / 8
    let ea (j : Nat) : W := (indexedEa s f.b f.c w j).ea
    let ok (j : Nat) : Bool := v.vlinks.any (fun l => l.elem == j && l.ea == ea j && l.width == w) &&
      (v.actives f.msk).all fun k => !(decide (k < j) && ea k == ea j)
    ∃ t, exec (.vscc f) s = .next t ∧ t.me.pc = nextPc s.me.pc ∧
      t.mem = storedBy s w loc (el s f.a) (fun j => !ok j) (v.actives f.msk) s.mem ∧
      t.me.vec = { writeMask v 1 ((List.range v.vl).map fun j => (j, (v.actives f.msk).contains j && ok j)) with
        stripDone := v.stripDone + 1, vlinks := [] } ∧ SameGBut s t [] ∧ t.me.flt = s.me.flt) ∧
  (∀ (s : State) (f : FE) (loc : Nat → Nat), Quiet s → s.lineKeys = [] → s.marks = [] → s.regions = [] → s.me.mode ≠ 2 →
    (s.me.vec.lay.sew = 32 ∨ s.me.vec.lay.sew = 64) → (descOf (.vwait f) s.me.vec.lay 0).earlyOk = true →
    let v := s.me.vec
    let n := v.lay.sew
    let acts := v.actives (f.imm.extractLsb' 3 2)
    let one := f.imm.getLsbD 2
    let y (j : Nat) : Nat := if one then (gv s (f.a + 1)).toNat % 2 ^ n else elemGet v v.lay (f.c.toNat + v.lay.g) j
    let yp (j : Nat) : Bool := if one then s.me.rdP (f.a + 1).toNat else elemPoison v v.lay (f.c.toNat + v.lay.g) j
    (one = true → f.a.toNat < 31) → (∀ j, j ∈ acts → yp j = false ∧ maskPos v.lay j < 32768) →
    Reaches s .load (acts.map (indexedEa s f.b f.c (n / 8))) loc →
    (∀ j, j ∈ acts →
      let x := num s.mem (loc j) (n / 8)
      match f.imm.toNat % 4 with
      | 0 => x = y j
      | 1 => x ≠ y j
      | 2 => sg n (y j) ≤ sg n x
      | _ => sg n x < sg n (y j)) →
    exec (.vwait f) s = .next (ran s (writeMask v 1 ((List.range v.vl).map fun j => (j, false))) 0))

/-- Every VSRED and VMRED completes in OFF, untranslated and in plain memory, when the accesses are good, no value is
poisoned and no position is in PM (R410) and, for FADD, the format word is good (R269 to R272). VMRED combines each element into its own place. VSRED
combines, for each offset that occurs, in ascending offset, the combination of the elements with that offset; for FADD
it is stated where no two active elements share an offset, so that the tree of R202 has one leaf. -/
def Obligations.MemoryReductionsComplete : Prop :=
  (∀ (s : State) (i : Instr) (f : FV) (o : ROp) (loc : Nat → Nat), memRedRule i = some (f, false, o) → Quiet s →
    PlainMem s → Bare s → s.me.mode = 0 → s.me.vec.lay.sew ≠ 4 → (descOf i s.me.vec.lay 0).earlyOk = true →
    redFmt s f o →
    let v := s.me.vec
    let n := v.lay.sew
    let ea (j : Nat) : W := gv s f.a + BitVec.ofNat 64 (j * (n / 8))
    (∀ j, j ∈ v.actives f.msk → elP s f.b j = false ∧ maskBit v.pm v.lay j = false ∧ s.me.rdP f.a.toNat = false ∧ (ea j).toNat % (n / 8) = 0 ∧
      inWindow (ea j) = false ∧ isLocalMem (loc j) = true ∧
      xlateMe s .vector .store (ea j) (n / 8) = .ok ⟨⟨loc j, 0, none, none⟩, s⟩) →
    let z := amoBy (n / 8) (redOp o n (FW.of (fword s f.fs))) loc (el s f.b) (v.actives f.msk) s.mem
    ∃ t, exec i s = .next t ∧ t.me.pc = nextPc s.me.pc ∧ t.mem = z.1 ∧ t.me.fflags = s.me.fflags ||| z.2.2 ∧
      t.me.flt = s.me.flt ∧ SameGBut s t [] ∧ t.me.vec = { v with stripDone := v.stripDone + 1, vlinks := t.me.vec.vlinks }) ∧
  (∀ (s : State) (i : Instr) (f : FV) (o : ROp) (loc : Nat → Nat) (keys : List Nat), memRedRule i = some (f, true, o) →
    Quiet s → PlainMem s → Bare s → s.me.mode = 0 → s.me.vec.lay.sew ≠ 4 → (descOf i s.me.vec.lay 0).earlyOk = true →
    redFmt s f o → (o = .fadd → ((s.me.vec.actives f.msk).map (el s f.c)).Nodup) →
    (∀ j, j ∈ s.me.vec.actives f.msk →
      elP s f.b j = false ∧ elP s f.c j = false ∧ maskBit s.me.vec.pm s.me.vec.lay j = false) →
    keys.Pairwise (· < ·) → (∀ k, k ∈ keys ↔ ∃ j, j ∈ s.me.vec.actives f.msk ∧ el s f.c j = k) →
    Reaches s .store (keys.map fun k => ⟨k, gv s f.a + BitVec.ofNat 64 k, s.me.vec.lay.sew / 8, s.me.rdP f.a.toNat⟩) loc →
    let v := s.me.vec
    let n := v.lay.sew
    let w := FW.of (fword s f.fs)
    let of (k : Nat) : List Nat := (v.actives f.msk).filter fun j => el s f.c j == k
    let y (k : Nat) : Nat := ((of k).drop 1).foldl (fun a j => (redOp o n w a (el s f.b j)).1) (el s f.b ((of k).headD 0))
    let z := amoBy (n / 8) (redOp o n w) loc y keys s.mem
    ∃ t, exec i s = .next t ∧ t.me.pc = nextPc s.me.pc ∧ t.mem = z.1 ∧ t.me.fflags = s.me.fflags ||| z.2.2 ∧
      t.me.flt = s.me.flt ∧ SameGBut s t [] ∧ t.me.vec = { v with stripDone := v.stripDone + 1, vlinks := t.me.vec.vlinks })

namespace Sys2Proof.Rules

/-! ### Matrix cells (R204, R208) -/

/-- FP32 cells written, each at its register and lane, with its poison. -/
def cellsPut (v : VecRegs) (ws : List ((Nat × Nat) × Part × Flags)) : VecRegs :=
  ws.foldl (fun v e =>
    let w := wordPut v e.1.1 e.1.2 0 32 e.2.1.1
    if v.vpois.isEmpty && !e.2.1.2 then w else poisonPut w e.1.1 e.1.2 e.2.1.2) v

/-- The flags of a list of cells. -/
def cellFlags (ws : List ((Nat × Nat) × Part × Flags)) : Flags := ws.foldl (fun a e => a ||| e.2.2) 0

/-- One cell of a product of eight pairs: accumulator cell (r, n) plus the group value, rounded once (R208). -/
def dotCell (w : FW) (v : VecRegs) (c r n : Nat) (ps : List (SEl × SEl)) : (Nat × Nat) × Part × Flags :=
  let at_ := (c + r * v.lay.p + n % v.lay.p, n / v.lay.p)
  (at_, accumulate w (wordPart v at_) (groupOf w ps))

/-- The operands of a matrix instruction are good (R77, R99, R203, R205, R206). -/
def matrixGood (s : State) (i : Instr) (f : FV) (b t : Nat) : Prop :=
  fwordP s f.fs = false ∧ matrixOk s.me.vec (fword s f.fs) b t = true ∧
    (descOf i s.me.vec.lay (fword s f.fs)).earlyOk = true ∧ (descOf i s.me.vec.lay (fword s f.fs)).lateOk = true

/-- The operands of another narrow instruction are good: its format word passes `ok`. -/
def narrowGood (s : State) (i : Instr) (f : FV) (ok : Bool) : Prop :=
  fwordP s f.fs = false ∧ ok = true ∧
    (descOf i s.me.vec.lay (fword s f.fs)).earlyOk = true ∧ (descOf i s.me.vec.lay (fword s f.fs)).lateOk = true

end Sys2Proof.Rules

/-! ### Matrix and narrow arithmetic -/

/-- VMMAD and VMMAO complete on a quiet hart with good operands: every active column of every active row takes its
cell (R204, R209, R210), and no other word changes. VMMAR and VMMAS complete on a quiet hart with good operands (R211,
R212). VMMAR writes, for each row r below NR and the lanes, the cells of registers c to c + 7 in lane r that have a
total. VMMAS writes every column below VL of each active row: the canonical NaN with IV where a pattern is invalid,
else the cell of its eight stored values. -/
def Obligations.MatrixProductsAllComplete : Prop :=
  (∀ (s : State) (f : FV), Quiet s →
    let v := s.me.vec
    let w := FW.of (fword s f.fs)
    let nr := v.lay.sew / 4
    let pairs (n : Nat) (e : Nat → Nat) : List (SEl × SEl) :=
      (List.range 8).map fun k => (elemA v w.scl1 f.b.toNat (e k), elemT v w.scl2 f.c.toNat k n)
    (matrixGood s (.vmmad f) f (f.b.toNat + 1) (f.c.toNat + 8) →
      let ws := (List.range nr).flatMap fun r => if 8 * r + 7 < v.cap then
        (v.actives f.msk).map fun n => dotCell w v f.a.toNat r n (pairs n fun k => 8 * r + k) else []
      exec (.vmmad f) s = .next (ran s (cellsPut v ws) (cellFlags ws))) ∧
    (matrixGood s (.vmmao f) f (f.b.toNat + 1) (f.c.toNat + 8) →
      let ws := (List.range nr).flatMap fun q => if 56 + q < v.cap then
        (v.actives f.msk).map fun n => dotCell w v f.a.toNat q n (pairs n fun r => 8 * r + q) else []
      exec (.vmmao f) s = .next (ran s (cellsPut v ws) (cellFlags ws)))) ∧
  (∀ (s : State) (f : FV), Quiet s →
    let v := s.me.vec
    let w := FW.of (fword s f.fs)
    let nr := v.lay.sew / 4
    (matrixGood s (.vmmar f) f (f.b.toNat + 8) (f.c.toNat + 8) →
      let act (n : Nat) : Bool := decide (n < v.vl) && mkPermits v f.msk n
      let ws := (List.range nr).flatMap fun r => if r < v.lanes then
        (List.range 8).filterMap fun k => (reduceCell w v f act r k).map fun x => ((f.a.toNat + k, r), x) else []
      exec (.vmmar f) s = .next (ran s (cellsPut v ws) (cellFlags ws))) ∧
    (matrixGood s (.vmmas f) f (f.b.toNat + 1) 0 → w.scl2 = false →
      let kk := if f.msk.toNat = 1 then 32 else 16
      let meta_ (n : Nat) : Nat := elemGet v ⟨16, max 1 (v.lay.p / 2)⟩ (f.c.toNat + 8) n
      let metaP (n : Nat) : Bool := elemPoison v ⟨16, max 1 (v.lay.p / 2)⟩ (f.c.toNat + 8) n
      let cell (r n : Nat) : (Nat × Nat) × Part × Flags :=
        match sparseK f.msk.toNat (meta_ n) with
        | none => ((f.a.toNat + r * v.lay.p + n % v.lay.p, n / v.lay.p), (0x7FC00000, metaP n), if metaP n then 0 else fIV)
        | some ks =>
          let at_ := (f.a.toNat + r * v.lay.p + n % v.lay.p, n / v.lay.p)
          let g := groupOf w ((ks.zip (List.range 8)).map fun e =>
            (elemA v w.scl1 f.b.toNat (kk * r + e.1), elemT v false f.c.toNat e.2 n))
          (at_, accumulate w (wordPart v at_) (g.1, g.2 || metaP n))
      let ws := (List.range nr).flatMap fun r => if kk * r + kk - 1 < v.cap then (List.range v.vl).map (cell r) else []
      exec (.vmmas f) s = .next (ran s (cellsPut v ws) (cellFlags ws))))

/-- VLGMUL, VLGACC and VLGCVT complete on a quiet hart with good operands (R213, R214): products of R90 by element,
the dot of R213 into lane 0 of vd, and conversions by the log offset in g[C]. The operands of VLGMUL and VLGACC are groups at SEW = 8
(R213). The model's reading: a conversion from L6 takes the value of R92's table at the sum of log and offset (log 11). -/
def Obligations.LogArithmeticCompletes : Prop :=
  ∀ (s : State) (f : FV), Quiet s →
    let v := s.me.vec
    let w := FW.of (fword s f.fs)
    let a := v.lay
    (narrowGood s (.vlgmul f) f (fwLogMul (fword s f.fs) && a.sew == 8) →
      let p (j : Nat) : Bool := elemPoison v a f.b.toNat j || elemPoison v a f.c.toNat j
      let y (j : Nat) : Nat × Flags := l6Mul w (elemGet v a f.b.toNat j) (elemGet v a f.c.toNat j)
      exec (.vlgmul f) s = .next (ran s (writeElems v a f.a.toNat ((v.actives f.msk).map fun j => ⟨j, (y j).1, p j⟩))
        (flagsOf (v.actives f.msk) p fun j => (y j).2))) ∧
    (narrowGood s (.vlgacc f) f (fwLogSum (fword s f.fs) && a.sew == 8) →
      let act (j : Nat) : Bool := decide (j < v.vl) && mkPermits v f.msk j
      let pair (j : Nat) : SEl × SEl := if act j then
        (⟨elemGet v a f.b.toNat j, some 0, elemPoison v a f.b.toNat j⟩,
          ⟨elemGet v a f.c.toNat j, some 0, elemPoison v a f.c.toNat j⟩) else (SEl.zero, SEl.zero)
      let js := (List.range ((v.vl + 7) / 8)).filter fun k => (List.range' (8 * k) 8).any act
      let r := js.foldl (fun (x : Part × Flags) k =>
        ((accumulate w x.1 (groupOf w ((List.range' (8 * k) 8).map pair))).1,
          x.2 ||| (accumulate w x.1 (groupOf w ((List.range' (8 * k) 8).map pair))).2)) (wordPart v (f.a.toNat, 0), 0)
      exec (.vlgacc f) s = .next (if js = [] then ran s v 0
        else ran s (cellsPut v [((f.a.toNat, 0), r)]) r.2)) ∧
    (narrowGood s (.vlgcvt f) f (fwConv (fword s f.fs) false && ((w.src1 == 12) != (w.dst == 12)) &&
        heldOk v.lay (fword s f.fs) && (!w.scl1 || decide (f.b.toNat + extent v.lay (storageWidth w.src1) < 32))) →
      let la := layOf v.lay (storageWidth w.src1)
      let r := f.b.toNat + extent v.lay (storageWidth w.src1)
      let p (j : Nat) : Bool :=
        elemPoison v la f.b.toNat j || s.me.rdP f.c.toNat || (w.scl1 && elemPoison v ⟨8, 1⟩ r (j / 32))
      let y (j : Nat) : Nat × Flags := logConvert w (sInt 8 (gv s f.c).toNat)
        (if w.scl1 then blockScale v r j else some 0) (elemGet v la f.b.toNat j % 2 ^ fmtWidth w.src1)
      exec (.vlgcvt f) s = .next (ran s (writeElems v (layOf v.lay (storageWidth w.dst)) f.a.toNat
        ((v.actives f.msk).map fun j => ⟨j, (y j).1, p j⟩)) (flagsOf (v.actives f.msk) p fun j => (y j).2)))

/-- VSCALE, VQUANT and VAMAX complete on a quiet hart with good operands (R215 to R219). VSCALE writes the scale byte
of each block that holds an active element, VQUANT each active element divided by its block's scale and rounded, and
VAMAX passes one update to the drain, or none without an active element. That a poisoned element takes part in VAMAX with
the value it holds, and then no flag is set, is the model's choice (log 12). -/
def Obligations.QuantisationCompletes : Prop :=
  ∀ (s : State) (f : FV), Quiet s →
    let v := s.me.vec
    let w := FW.of (fword s f.fs)
    let x (j : Nat) : Machine.Num × Bool := wideElem v (fword s f.fs) f.b j
    (narrowGood s (.vscale f) f (fwQuant (fword s f.fs)) →
      let block (k : Nat) : List Nat := (v.actives f.msk).filter fun j => j / 32 == k
      let ks := (List.range ((v.vl + 31) / 32)).filter fun k => !(block k).isEmpty
      let p (k : Nat) : Bool := (block k).any fun j => (x j).2
      let y (k : Nat) : Nat × Flags := scaleOf w.dst ((block k).map fun j => (x j).1)
      exec (.vscale f) s = .next (ran s (writeElems v ⟨8, 1⟩ f.a.toNat (ks.map fun k => ⟨k, (y k).1, p k⟩))
        (flagsOf ks p fun k => (y k).2))) ∧
    (narrowGood s (.vquant f) f (fwQuant (fword s f.fs) && decide (w.rm ≤ 4) && storageWidth w.dst == v.lay.sew &&
        decide (f.a.toNat + v.lay.g ≤ 31)) →
      let r := f.a.toNat + v.lay.g
      let p (j : Nat) : Bool := (x j).2 || elemPoison v ⟨8, 1⟩ r (j / 32)
      let y (j : Nat) : Nat × Flags := writeFlt w.dst w.rm w.ovf
        (match blockScale v r j with
         | none => Machine.Num.nan
         | some k => (x j).1.scale (-k))
      exec (.vquant f) s = .next (ran s (writeElems v v.lay f.a.toNat ((v.actives f.msk).map fun j => ⟨j, (y j).1, p j⟩))
        (flagsOf (v.actives f.msk) p fun j => (y j).2))) ∧
    (narrowGood s (.vamax f) f (fwCommon (fword s f.fs) && decide (5 ≤ w.src1 ∧ w.src1 ≤ 11) && !w.scl1 && !w.scl2) →
      let xs := (v.actives f.msk).map x
      let m := xs.foldl (fun a e => maxNum a e.1.abs) (Machine.Num.zero false)
      let u : Nat × Flags := if xs.any (fun e => e.1 == .nan) then (0x7FC00000, 0) else writeFlt 10 2 w.ovf m
      exec (.vamax f) s = .next (if xs = [] then ran s v 0
        else ran s { v with drain := v.drain ++ [(f.a.toNat, BitVec.ofNat 32 u.1)] } (if xs.any (·.2) then 0 else u.2)))

/-! ### Placement of data -/

/-- TRES, TEVICT and TDEMOTE complete on a quiet hart (R273 to R276). Which slots are free, and so when status 2 stands, is the
model's choice (log 14). TRES gives status 1 for a malformed operand, unbinds the handle for a length of 0, gives status 4 when
a page fails translation, and else binds the handle: status 0, or 2 when too few backing slots are free. TEVICT and TDEMOTE
give status 1 for a handle above 63 and 3 for one that is not bound; TEVICT of a bound one writes back the dirty stash bytes of
its blocks, and TDEMOTE sets its preference to LPDDR. STMAP completes on a quiet hart (R277): status 1 for an address that is no
multiple of 64, 2 outside the scratchpad, 3 for a line that may not be mapped; a live barrier slot in either line is a
permission fault (R353); else the line is unmapped, and reads zero, or the mapping stands. A poisoned base of TRES, or address
of STMAP, is cause 0x1A (R409); that TVAL is that address, that the cause comes before any status, and that a poisoned handle or
descriptor counts with its value, is the model's reading (log 8). CWAYS completes on a quiet hart whose
core may be resized (R279): a target that is out of range leaves the carving, with status 1; another makes LENT the target,
with status 0; the old value stands from bit 8 up. A core that may not be resized raises illegal instruction (R229). -/
def Obligations.PlacementComplete : Prop :=
  (∀ (s : State) (f : FE), Quiet s →
    let base := gv s f.b
    let d := gv s f.c
    let n := fld d 40 6
    let p := s.me.rdP f.c.toNat
    (s.me.rdP f.b.toNat = true → ∃ t, exec (.tres f) s = .next t ∧ t.me.flt.pending = some ⟨0, 0x1A, base, 0, 0, []⟩ ∧
      t.contexts = s.contexts ∧ SameGBut s t [] ∧ t.mem = s.mem) ∧
    (s.me.rdP f.b.toNat = false →
    let bad := fld d 46 18 ≠ 0 ∨ fld d 38 2 ≠ 0 ∨ fld d 35 1 ≠ 0 ∨ fld d 26 6 ≠ 0 ∨ fld d 36 2 = 3 ∨ base.toNat % 65536 ≠ 0
    (bad → exec (.tres f) s = .next (ranG s s.me.vec 0 f.a.toNat 1 p)) ∧
    (¬ bad → fld d 0 26 = 0 → ∃ t, exec (.tres f) s = .next t ∧ t.me.pc = nextPc s.me.pc ∧ (f.a ≠ 0 → t.me.rd f.a.toNat = 0) ∧
      (t.ctx s.me.ctx).handles.get none n = none ∧ t.mem = s.mem) ∧
    (¬ bad → fld d 0 26 ≠ 0 → rangeBlocks none (16 * fld d 0 26) s base [] = none →
      exec (.tres f) s = .next (ranG s s.me.vec 0 f.a.toNat 4 p)) ∧
    (∀ bs, ¬ bad → fld d 0 26 ≠ 0 → rangeBlocks none (16 * fld d 0 26) s base [] = some (bs, s) →
      ∃ t, exec (.tres f) s = .next t ∧ t.me.pc = nextPc s.me.pc ∧ t.mem = s.mem ∧
        (t.ctx s.me.ctx).handles.get none n = some ⟨base, d, bs⟩ ∧
        (f.a ≠ 0 → t.me.rd f.a.toNat =
          if fld d 36 2 = 0 ∨ (startMoves s bs (fld d 36 2 == 2)).isSome then 0 else 2)))) ∧
  (∀ (s : State) (f : FE), Quiet s →
    let x := (gv s f.b).toNat
    let h := s.myCtx.handles.get none x
    let p := s.me.rdP f.b.toNat
    (64 ≤ x ∨ h = none → exec (.tevict f) s = .next (ranG s s.me.vec 0 f.a.toNat (if 64 ≤ x then 1 else 3) p)) ∧
    (∀ k, x < 64 → h = some k → exec (.tevict f) s = .next (ranG
      { s with dirty := s.dirty.filter fun e => !k.blocks.contains (e.loc / 65536) } s.me.vec 0 f.a.toNat 0 p)) ∧
    (64 ≤ x ∨ h = none → exec (.tdemote f) s = .next (ranG s s.me.vec 0 f.a.toNat (if 64 ≤ x then 1 else 3) p)) ∧
    (∀ k, x < 64 → h = some k → ∃ t k', exec (.tdemote f) s = .next t ∧ t.me.pc = nextPc s.me.pc ∧ t.mem = s.mem ∧
      (t.ctx s.me.ctx).handles.get none x = some k' ∧ k'.base = k.base ∧ k'.blocks = k.blocks ∧
      fld k'.desc 36 2 = 2 ∧ fld k'.desc 0 36 = fld k.desc 0 36 ∧
      (f.a ≠ 0 → t.me.rd f.a.toNat = if (startMoves s k.blocks true).isSome then 0 else 2))) ∧
  (∀ (s : State) (f : FS), Quiet s →
    let pad := gv s f.b
    let va := gv s f.c
    let core := coreOf s.cur
    (s.me.rdP f.b.toNat = true ∨ s.me.rdP f.c.toNat = true → ∃ t, exec (.stmap f) s = .next t ∧
      t.me.flt.pending = some ⟨0, 0x1A, if s.me.rdP f.b.toNat then pad else va, 0, 0, []⟩ ∧ t.stash = s.stash ∧
      SameGBut s t [] ∧ t.mem = s.mem) ∧
    (s.me.rdP f.b.toNat = false → s.me.rdP f.c.toNat = false →
    let p := false
    let bad := pad.toNat % 64 ≠ 0 ∨ (va ≠ 1 ∧ va.toNat % 64 ≠ 0)
    (bad → exec (.stmap f) s = .next (ranG s s.me.vec 0 f.a.toNat 1 p)) ∧
    (¬ bad → windowLine s pad = none → exec (.stmap f) s = .next (ranG s s.me.vec 0 f.a.toNat 2 p)) ∧
    (∀ line, ¬ bad → windowLine s pad = some line → inLive s (padLoc core (64 * line)) 64 = true →
      ∃ t, exec (.stmap f) s = .next t ∧ t.me.flt.pending = some ⟨0, 0x0F, pad, 0, 0, []⟩ ∧ t.stash = s.stash ∧
        SameGBut s t [] ∧ t.mem = s.mem) ∧
    (∀ line c, ¬ bad → windowLine s pad = some line → inLive s (padLoc core (64 * line)) 64 = false → va ≠ 1 →
      xlateMe { s with live := [] } .vector .load va 64 = .error c →
      exec (.stmap f) s = .next (ranG s s.me.vec 0 f.a.toNat 3 p)) ∧
    (∀ line, ¬ bad → windowLine s pad = some line → inLive s (padLoc core (64 * line)) 64 = false → va = 1 →
      ∃ t, exec (.stmap f) s = .next t ∧ t.me.pc = nextPc s.me.pc ∧ (f.a ≠ 0 → t.me.rd f.a.toNat = 0) ∧
        (t.stash.find? fun e => e.1 == stashKey core line) = none ∧
        (∀ k, k < 64 → memGet t.mem (padLoc core (64 * line) + k) = 0)) ∧
    (∀ line q, ¬ bad → windowLine s pad = some line → inLive s (padLoc core (64 * line)) 64 = false → va ≠ 1 →
      xlateMe { s with live := [] } .vector .load va 64 = .ok ⟨q, { s with live := [] }⟩ →
      inWindow va = false → q.mt = 0 → q.loc < padBase → isDevReg q.loc = false →
      (inLive s q.loc 64 = true → ∃ t, exec (.stmap f) s = .next t ∧
        t.me.flt.pending = some ⟨0, 0x0F, va, 0, 0, []⟩ ∧ t.stash = s.stash ∧ SameGBut s t [] ∧ t.mem = s.mem) ∧
      (inLive s q.loc 64 = false → ∃ t, exec (.stmap f) s = .next t ∧ t.me.pc = nextPc s.me.pc ∧
        (f.a ≠ 0 → t.me.rd f.a.toNat = 0) ∧ (t.stash.find? fun e => e.1 == stashKey core line) =
          some (stashKey core line, ⟨q.loc, true, writableVa s va, q.key⟩))))) ∧
  (∀ (s : State) (f : FI), Quiet s →
    let k := myCore s
    let n := (gv s f.b + f.imm.signExtend 64).toInt
    let out := n < 0 ∨ (k.cacSize : Int) < n ∨ 28 < (k.scrSize : Int) + n
    (k.rsz = true → out →
      exec (.cways f) s = .next (ranG s s.me.vec 0 f.a.toNat (BitVec.ofNat 64 (1 + k.lent * 256)) (s.me.rdP f.b.toNat))) ∧
    (k.rsz = true → ¬ out → ∃ t, exec (.cways f) s = .next t ∧ t.me.pc = nextPc s.me.pc ∧
      ((myCore t).lent : Int) = n ∧ (f.a ≠ 0 → t.me.rd f.a.toNat = BitVec.ofNat 64 (k.lent * 256)) ∧
      (∀ b, (k.scrSize + k.lent) * 131072 ≤ b → b < (k.scrSize + (myCore t).lent) * 131072 →
        memGet t.mem (padLoc (coreOf s.cur) b) = 0) ∧
      ((myCore t).lent ≤ k.lent → ∀ l, l < 65536 → (k.scrSize + (myCore t).lent) * 2048 ≤ l →
        (t.stash.find? fun e => e.1 == stashKey (coreOf s.cur) l) = none)) ∧
    (k.rsz = false → ∃ t, exec (.cways f) s = .next t ∧ t.me.flt.pending = some ⟨0, 2, s.me.ir.setWidth 64, 0, 0, []⟩ ∧
      (myCore t).lent = k.lent ∧ SameGBut s t []))

namespace Sys2Proof.Rules

/-! ### What the engine commands access (R369) -/

/-- A dword at `va` lies at `loc`, in plaintext and no device register, with no mark of the walker to set. -/
def DwordAt (s : State) (k : Kind) (va : W) (loc : Nat) : Prop :=
  ∃ via, xlateMe s .vector k va 8 = .ok ⟨⟨loc, 0, none, via⟩, s⟩ ∧ isDevReg loc = false

/-- The state is plain, untranslated and in OFF, and nothing that the hart began is unfinished. -/
def Calm (s : State) : Prop := Quiet s ∧ PlainMem s ∧ Bare s ∧ s.me.mode = 0

/-- PC has advanced and the other g registers are the same. -/
def Went (s t : State) (ds : List Nat) : Prop := t.me.pc = nextPc s.me.pc ∧ SameGBut s t ds

/-- The phase rule (R352). -/
def phaseRule (b : SlotBits) : SlotBits :=
  if b.pend = 0 ∧ b.txb = 0 then { b with phase := 1 - b.phase, pend := b.count } else b

/-- The dwords of SHINIT (R376). -/
def shelfImage (base geo : W) : List W :=
  [0, 0, base, geo, 0, 0, 0, 0] ++ (List.range (shNst geo)).map (BitVec.ofNat 64)

/-- Dwords put at places one after another. -/
def dwordsPut (m : List Host.Cell) (loc : Nat → Nat) (ws : List W) : List Host.Cell :=
  (ws.zip (List.range ws.length)).foldl (fun m e => memPuts m (loc e.2) (leBytes 8 e.1.toNat)) m

/-- The join of farm `w` of a recruit into the fold registers of the origin (R177): element `i` of a fold register combined into
element `i` mod C of the origin's in the same slot, by the operation and the format word of the origin's slot. The two slots
take part where both are valid and their elements are of one width, which is the model's reading (log 17). -/
def joinElem (acc : VecRegs × Flags) (e : VecRegs × Nat × Nat) : VecRegs × Flags :=
  let (v, fl) := acc
  let (w, n, i) := e
  let x := v.fold n
  let y := w.fold n
  if slotFolds v.lay x && slotFolds w.lay y && v.lay.sew == w.lay.sew && v.cap != 0 then
    let p := elemPoison v v.lay (slotReg x) (i % v.cap) || elemPoison w w.lay (slotReg y) i
    let r := foldOp v.lay.sew (slotOp x) (slotFw x) (elemGet v v.lay (slotReg x) (i % v.cap)) (elemGet w w.lay (slotReg y) i)
    (writeElems v v.lay (slotReg x) [⟨i % v.cap, r.1, p⟩], if p then fl else fl ||| r.2)
  else (v, fl)

/-- The join of recruits, in the order given: slot by slot, in ascending element (R177). -/
def joinRule (v : VecRegs) (ws : List VecRegs) : VecRegs × Flags :=
  (ws.flatMap fun w => (List.range 4).flatMap fun n => (List.range w.cap).map fun i => (w, n, i)).foldl joinElem (v, 0)

/-- A hart that holds nothing unfinished but its farm. -/
def QuietInFarm (s : State) : Prop :=
  s.me.queue = [] ∧ s.me.gwait = [] ∧ s.me.flt.pending = none ∧ bit s.me.flt.vfstat 0 = false ∧
    bit s.me.vec.gsctl 15 = false ∧ s.choices = [] ∧ s.xfers = [] ∧ s.pin = none

/-- An engine's accesses for the loop context of a transfer lead `n` bytes from `va` to `loc` onwards, in plaintext, piece by
piece within a line, under the ATP that the transfer keeps; no translation applies to them (R234, R237, R337). -/
def EngineAt (s : State) (x : Xfer) (k : Kind) (va : W) (loc n : Nat) : Prop :=
  let u := withAtp s x.ctx x.atp
  ∀ o m, 0 < m → m ≤ 64 → o + m ≤ n → ∃ mt via,
    xlate u x.hart x.ctx x.priv.toNat .engine k (va + BitVec.ofNat 64 o) m = .ok ⟨⟨loc + o, mt, none, via⟩, u⟩

/-- S(u) and D(u) of the transfer forms (R373). -/
def unitFrom (x : Xfer) (u : Nat) : W :=
  match x.kind with
  | .gather => x.mem + x.rows.getD u 0 * x.sstr
  | .copy => x.mem + BitVec.ofNat 64 u * x.sstr
  | .scatter | .scatterStream => x.win + BitVec.ofNat 64 (u * x.pitch)

def unitTo (x : Xfer) (u : Nat) : W :=
  match x.kind with
  | .gather => x.win + BitVec.ofNat 64 (u * x.pitch)
  | .copy => x.win + BitVec.ofNat 64 u * x.dstr
  | .scatter => x.mem + x.rows.getD u 0 * x.sstr
  | .scatterStream => x.mem + BitVec.ofNat 64 u * x.sstr

/-- The side of a transfer that has to lie in the local window does: the destination of BXG, the source of BXS (R373). -/
def WindowSide (x : Xfer) (u : Nat) : Prop :=
  ∀ o, o < x.rb →
    (x.kind = .gather → inWindow (unitTo x u + BitVec.ofNat 64 o) = true) ∧
    (x.kind = .scatter ∨ x.kind = .scatterStream → inWindow (unitFrom x u + BitVec.ofNat 64 o) = true)

/-- Unit `u` of a transfer can be moved: from `ls` to `ld`, which do not overlap, outside any differentiable mode. -/
def UnitMoves (s : State) (x : Xfer) (u ls ld : Nat) : Prop :=
  PlainMem s ∧ (x.priv = 2 ∨ bit x.atp 63 = false) ∧ (s.hart x.hart).mode = 0 ∧ WindowSide x u ∧
    EngineAt s x .load (unitFrom x u) ls x.rb ∧ EngineAt s x .store (unitTo x u) ld x.rb ∧
    (ls + x.rb ≤ ld ∨ ld + x.rb ≤ ls)

/-- `n` bytes at `ld` are those that stood at `ls`, and every other byte reads as before. -/
def Copied (s t : State) (ls ld n : Nat) : Prop :=
  (∀ k, k < n → memGet t.mem (ld + k) = memGet s.mem (ls + k)) ∧ SameMemBut s t ld n

/-- The g registers of every hart are the same. -/
def SameGs (s t : State) : Prop := ∀ n, (t.hart n).g = (s.hart n).g

/-- The transfer forms (R371, R373). -/
def xferRule : Instr → Option (FE × XKind)
  | .bxg f => some (f, .gather)
  | .bxc f => some (f, .copy)
  | .bxsRow f => some (f, .scatter)
  | .bxsStream f => some (f, .scatterStream)
  | _ => none

end Sys2Proof.Rules

/-! ### Shelves and barrier slots -/

/-- The shelf instructions complete on plain, untranslated memory (R349, R350, R375 to R377). SHINIT writes the header
and SEQ[k] = k. SHACQ and SHWAIT take a ticket t, and when SEQ[t mod N] is t, or t + 1, give the stage's address and
t; else they wait, and keep the ticket. SHCOM makes a SEQ of t into t + 1, and SHREL one of t + 1 into t + N; on any
other value they write status 1 and store nothing. -/
def Obligations.ShelvesComplete : Prop :=
  (∀ (s : State) (f : FE) (loc : Nat → Nat), Calm s →
    let gh := gv s f.b
    let base := gv s f.c
    let geo := s.me.rd (f.c.toNat + 1)
    s.me.rdP f.b.toNat = false → s.me.rdP f.c.toNat = false → s.me.rdP (f.c.toNat + 1) = false → gh.toNat % 64 = 0 →
    shGeoOk geo = true → base.toNat % 64 = 0 →
    (∀ k, k < 8 + shNst geo → DwordAt s .store (gh + BitVec.ofNat 64 (8 * k)) (loc k)) →
    ∃ t, exec (.shinit f) s = .next t ∧ Went s t [f.a.toNat] ∧ (f.a ≠ 0 → t.me.rd f.a.toNat = 0) ∧
      t.mem = dwordsPut s.mem loc (shelfImage base geo)) ∧
  (∀ (s : State) (f : FE) (i : Instr) (ctr : Nat) (d : Nat) (lb lg lc ls : Nat),
    (i = .shacq f ∧ ctr = 0 ∧ d = 0) ∨ (i = .shwait f ∧ ctr = 8 ∧ d = 1) → Calm s →
    let gh := gv s f.b
    let base : W := BitVec.ofNat 64 (num s.mem lb 8)
    let geo : W := BitVec.ofNat 64 (num s.mem lg 8)
    let k := num s.mem lc 8
    let m := memPuts s.mem lc (leBytes 8 ((k + 1) % 2 ^ 64))
    s.me.rdP f.b.toNat = false → gh.toNat % 64 = 0 → DwordAt s .load (gh + 16) lb → DwordAt s .load (gh + 24) lg →
    shGeoOk geo = true → DwordAt s .amo (gh + BitVec.ofNat 64 ctr) lc →
    DwordAt s .load (gh + BitVec.ofNat 64 (64 + 8 * (k % shNst geo))) ls → f.a ≠ 0 →
    ∃ t, exec i s = .next t ∧ t.mem = m ∧ t.me.pc = nextPc s.me.pc ∧
      (num m ls 8 = (k + d) % 2 ^ 64 → SameGBut s t [f.a.toNat, f.a.toNat + 1] ∧ t.me.queue = [] ∧
        t.me.rd f.a.toNat = base + BitVec.ofNat 64 (k % shNst geo * shSize geo) ∧
        t.me.rd (f.a.toNat + 1) = BitVec.ofNat 64 k) ∧
      (num m ls 8 ≠ (k + d) % 2 ^ 64 → SameGBut s t [] ∧
        ∃ c, t.me.queue = [c] ∧ c.ins = i ∧ c.ticket = some (BitVec.ofNat 64 k))) ∧
  (∀ (s : State) (f : FE) (i : Instr) (d : Nat) (lb lg ls : Nat),
    (i = .shcom f ∧ d = 0) ∨ (i = .shrel f ∧ d = 1) → Calm s →
    let gh := gv s f.b
    let k := gv s f.c
    let geo : W := BitVec.ofNat 64 (num s.mem lg 8)
    s.me.rdP f.b.toNat = false → s.me.rdP f.c.toNat = false → gh.toNat % 64 = 0 → DwordAt s .load (gh + 16) lb →
    DwordAt s .load (gh + 24) lg → shGeoOk geo = true →
    DwordAt s .amo (gh + BitVec.ofNat 64 (64 + 8 * (k.toNat % shNst geo))) ls →
    let ok := num s.mem ls 8 = (k.toNat + d) % 2 ^ 64
    ∃ t, exec i s = .next t ∧ Went s t [f.a.toNat] ∧
      (ok → (f.a ≠ 0 → t.me.rd f.a.toNat = 0) ∧ t.mem = memPuts s.mem ls
        (leBytes 8 ((k.toNat + if d = 0 then 1 else shNst geo) % 2 ^ 64))) ∧
      (¬ ok → (f.a ≠ 0 → t.me.rd f.a.toNat = 1) ∧ t.mem = s.mem))

/-- The barrier instructions complete on plain, untranslated memory (R351, R352, R378 to R380). BSET makes a slot live
with its count. BARV takes one arrival, BEXP adds expected bytes, and either ends the phase by the rule of R352; BARV
gives the phase at its arrival. BWAIT completes when the phase is not the one that it names, and else waits. BRET
makes the slot one that is not live, and zero. -/
def Obligations.BarrierSlotsComplete : Prop :=
  (∀ (s : State) (f : FE) (loc mt : Nat) (via : Option Nat), Calm s →
    let va := gv s f.b
    let n := (gv s f.c).toNat
    s.me.rdP f.b.toNat = false → s.me.rdP f.c.toNat = false → va.toNat % 16 = 0 → 1 ≤ n → n ≤ 65535 →
    slotPlace s .amo va = .ok ⟨⟨loc, mt, none, via⟩, s⟩ → slotHome va ⟨loc, mt, none, via⟩ = true →
    (liveAt s loc = none → (s.live.filter (·.die == dieOfCore (coreOf s.cur))).length < 1024 →
      ∃ t l, exec (.bset f) s = .next t ∧ Went s t [f.a.toNat] ∧ (f.a ≠ 0 → t.me.rd f.a.toNat = 0) ∧
        t.live = s.live ++ [l] ∧ l.loc = loc ∧ l.die = dieOfCore (coreOf s.cur) ∧
        t.mem = memPuts s.mem loc (slotBytes ⟨n, n, 0, 0⟩)) ∧
    (liveAt s loc ≠ none → ∃ t, exec (.bset f) s = .next t ∧ Went s t [f.a.toNat] ∧ (f.a ≠ 0 → t.me.rd f.a.toNat = 2) ∧
      t.mem = s.mem ∧ t.live = s.live)) ∧
  (∀ (s : State) (f : FE) (p : Phys) (l : LiveSlot), Calm s → s.me.rdP f.b.toNat = false → s.me.rdP f.c.toNat = false →
    (gv s f.b).toNat % 16 = 0 → slotPlace s .amo (gv s f.b) = .ok ⟨p, s⟩ → liveAt s p.loc = some l → l.key = none →
    let b := readSlot s l
    (0 < b.pend → ∃ t, exec (.barv f) s = .next t ∧ Went s t [f.a.toNat] ∧ t.live = s.live ∧
      (f.a ≠ 0 → t.me.rd f.a.toNat = BitVec.ofNat 64 b.phase) ∧
      t.mem = memPuts s.mem l.loc (slotBytes (phaseRule { b with pend := b.pend - 1 }))) ∧
    (b.pend = 0 → ∃ t, exec (.barv f) s = .next t ∧ Went s t [f.a.toNat] ∧ t.mem = s.mem ∧
      (f.a ≠ 0 → t.me.rd f.a.toNat = 3)) ∧
    (∃ t, exec (.bexp f) s = .next t ∧ Went s t [f.a.toNat] ∧ (f.a ≠ 0 → t.me.rd f.a.toNat = 0) ∧
      t.mem = memPuts s.mem l.loc (slotBytes (phaseRule { b with txb := b.txb + gv s f.c }))) ∧
    (∃ t, exec (.bret f) s = .next t ∧ Went s t [f.a.toNat] ∧ (f.a ≠ 0 → t.me.rd f.a.toNat = 0) ∧
      t.live = s.live.filter (·.id != l.id) ∧ t.mem = memPuts s.mem l.loc (slotBytes ⟨0, 0, 0, 0⟩)) ∧
    (b.phase ≠ (gv s f.c).toNat % 2 → ∃ t, exec (.bwait f) s = .next t ∧ Went s t [f.a.toNat] ∧ t.mem = s.mem ∧
      t.me.queue = [] ∧ (f.a ≠ 0 → t.me.rd f.a.toNat = 0)) ∧
    (b.phase = (gv s f.c).toNat % 2 → ∃ t c, exec (.bwait f) s = .next t ∧ Went s t [] ∧ t.mem = s.mem ∧
      t.me.queue = [c] ∧ c.ins = .bwait f ∧ c.watch = some (l.id, false)))

/-! ### Tasks and farms -/

/-- The task instructions complete on a quiet hart (R355, R382 to R384). TKDEF defines a free slot from a good
descriptor in memory; TKDEP sets the counter of a defined slot, TKSPAWN makes it READY, or ELIGIBLE while its counter
is not 0, and TKFREE frees it; each gives status 2 in another state. TKSIG counts down a defined or eligible slot, and
the last signal of an eligible one makes it READY. TKEND applies the pending maxima (R220), gives its seats back and leaves
the task, and the last rank makes its slot DEFINED. -/
def Obligations.TaskSlotsComplete : Prop :=
  (∀ (s : State) (f : FE), Quiet s → s.me.rdP f.b.toNat = false → (gv s f.b).toNat < 256 →
    let n := (gv s f.b).toNat
    let k := s.myCtx.slot n
    let st (t : State) : TaskSlot := (t.ctx s.me.ctx).slot n
    let ok (t : State) (x : W) : Prop := Went s t [f.a.toNat] ∧ t.mem = s.mem ∧ (f.a ≠ 0 → t.me.rd f.a.toNat = x)
    (∃ t, exec (.tkfree f) s = .next t ∧ ok t (if k.state = .defined then 0 else 2) ∧
      st t = if k.state = .defined then { k with state := .free, counter := 0 } else k) ∧
    (∃ t, exec (.tkspawn f) s = .next t ∧ ok t (if k.state = .defined then 0 else 2) ∧
      (st t).state = (if k.state ≠ .defined then k.state else if k.counter = 0 then .ready else .eligible) ∧
      (st t).counter = k.counter ∧ (st t).entry = k.entry ∧ (st t).args = k.args) ∧
    (∃ t, exec (.tksig f) s = .next t ∧ ok t (if k.state = .defined ∨ k.state = .eligible then 0 else 2) ∧
      (k.state = .defined ∨ k.state = .eligible → (st t).counter = (if k.counter = 0 then 0 else k.counter - 1) ∧
        (st t).state = (if k.state = .eligible ∧ k.counter.toNat ≤ 1 then .ready else k.state)) ∧
      (¬ (k.state = .defined ∨ k.state = .eligible) → st t = k)) ∧
    (s.me.rdP f.c.toNat = false → (gv s f.c).toNat < 2 ^ 32 → ∃ t, exec (.tkdep f) s = .next t ∧
      ok t (if k.state = .defined then 0 else 2) ∧
      st t = if k.state = .defined then { k with counter := BitVec.ofNat 32 (gv s f.c).toNat } else k)) ∧
  (∀ (s : State) (f : FE) (l0 l1 l2 : Nat) (entry : W), Calm s → s.me.rdP f.b.toNat = false →
    s.me.rdP f.c.toNat = false → (gv s f.b).toNat < 256 → (s.myCtx.slot (gv s f.b).toNat).state = .free →
    (gv s f.c).toNat % 8 = 0 → DwordAt s .load (gv s f.c) l0 → DwordAt s .load (gv s f.c + 8) l1 →
    DwordAt s .load (gv s f.c + 16) l2 →
    (f.imm.getLsbD 0 = false → entry = BitVec.ofNat 64 (num s.mem l0 8)) →
    (f.imm.getLsbD 0 = true → num s.mem l0 8 < fld s.myCtx.tktab 0 12 ∧
      ∃ l3, DwordAt s .load (BitVec.ofNat 64 (fld s.myCtx.tktab 12 52 * 4096 + 8 * num s.mem l0 8)) l3 ∧
        entry = BitVec.ofNat 64 (num s.mem l3 8)) →
    num s.mem l2 8 < 2 ^ 29 → taskOk entry (num s.mem l2 8) = true →
    ∃ t, exec (.tkdef f) s = .next t ∧ Went s t [f.a.toNat] ∧ t.mem = s.mem ∧ (f.a ≠ 0 → t.me.rd f.a.toNat = 0) ∧
      (t.ctx s.me.ctx).slot (gv s f.b).toNat = { TaskSlot.reset with
        state := .defined, entry := entry, args := BitVec.ofNat 64 (num s.mem l1 8),
        shape := BitVec.ofNat 29 (num s.mem l2 8) }) ∧
  (∀ (s : State) (f : FE) (n rank : Nat), Quiet s → s.me.task = some (n, rank) →
    (s.myCtx.slot n).state = .running → (s.myCtx.slot n).left = [rank] → (s.myCtx.slot n).saved = [] →
    ∃ t, exec (.tkend f) s = .next t ∧ t.me.run = .idle ∧ t.me.task = none ∧ t.me.vec.lanes = 0 ∧ t.mem = s.mem ∧
      ((t.ctx s.me.ctx).slot n).state = .defined ∧ ((t.ctx s.me.ctx).slot n).counter = 0 ∧
      (t.ctx s.me.ctx).amax = s.me.vec.drain.foldl (fun m u => m.set u.1 (amaxJoin (m.get 0 u.1) u.2)) s.myCtx.amax ∧
      ∀ k, fld (myCore t).bench (4 * k) 4 = 8 + s.cur % 8 → fld (myCore t).loops (4 * k) 4 = s.cur / 2048 → 16 ≤ k)

/-- The farm and drawer instructions complete (R306, R346, R365 to R367, R385 to R388). SFSTART begins a farm, of which the
hart is the origin and whose mode is the hart's, with status 0, or gives status 1 for a bad count. SFNEXT takes the next strip of the trip: its
start and VL are written, and the farm moves on by VL. SFEND of an origin whose recruits have ended folds their fold
registers into its own, in ascending index (R177), gives the position reached and ends the farm; SFEND of a recruit
leaves its registers to that join and ends the recruit, with gd as it was. That slots of unlike element width take no
part in the join is the model's choice (log 17). DRPUSH adds a token to a drawer that has room, and DRPOP takes one. -/
def Obligations.FarmsAndDrawersComplete : Prop :=
  (∀ (s : State) (f : FE), Quiet s → s.me.rdP f.b.toNat = false → s.me.rdP f.c.toNat = false →
    let trip := (gv s f.b).toNat
    let most := (gv s f.c).toNat
    let ok := trip < 2 ^ 40 ∧ 1 ≤ most ∧ most ≤ 1024
    ∃ t, exec (.sfstart f) s = .next t ∧ Went s t [f.a.toNat] ∧ t.mem = s.mem ∧
      (f.a ≠ 0 → t.me.rd f.a.toNat = if ok then 0 else 1) ∧
      (ok → t.me.farm = some (s.cur, 0) ∧ ∃ fm, t.farm? s.cur = some fm ∧ fm.trip = trip ∧ fm.most = most ∧
        fm.die = f.imm.getLsbD 0 ∧ fm.next = 0 ∧ fm.members = [s.cur] ∧ fm.mode = s.me.mode) ∧
      (¬ ok → t.me.farm = none)) ∧
  (∀ (s : State) (f : FE) (o i : Nat) (fm : Farm), QuietInFarm s → s.me.farm = some (o, i) → s.farm? o = some fm →
    f.a.toNat < 24 → f.b.toNat < 24 → (s.me.priv = 0 → bit s.me.vec.vsave 0 = true) →
    (heldBy (myCore s) s.cur ≠ [] ∨ freeClusters (myCore s) ≠ []) →
    let new : Lay := ⟨sewOf (f.imm.extractLsb' 0 3), gOf (f.imm.extractLsb' 3 2)⟩
    ∃ t fm', exec (.sfnext f) s = .next t ∧ Went s t [f.a.toNat, f.b.toNat] ∧ t.mem = s.mem ∧
      t.me.vec.vl = min (if fm.stop then 0 else fm.trip - fm.next) (new.cap t.me.vec.lanes) ∧
      (f.a ≠ 0 → t.me.rd f.a.toNat = BitVec.ofNat 64 t.me.vec.vl) ∧
      (f.b ≠ 0 → f.b ≠ f.a → t.me.rd f.b.toNat = BitVec.ofNat 64 fm.next) ∧
      t.me.vec.scnt = (if t.me.vec.vl = 0 then s.me.vec.scnt else s.me.vec.scnt + 1) ∧
      t.farm? o = some fm' ∧ fm' = { fm with next := fm.next + t.me.vec.vl }) ∧
  (∀ (s : State) (f : FE) (i : Nat) (fm : Farm) (es : List (Nat × VecRegs)), QuietInFarm s → s.me.farm = some (s.cur, i) →
    s.farm? s.cur = some fm → fm.count ≤ fm.ended.length + 1 → f.a.toNat < 24 → es.Perm fm.ended →
    es.Pairwise (fun a b => a.1 < b.1) →
    let join := joinRule s.me.vec (es.map (·.2))
    ∃ t, exec (.sfend f) s = .next t ∧ Went s t [f.a.toNat] ∧ t.mem = s.mem ∧ t.me.farm = none ∧ t.farm? s.cur = none ∧
      (f.a ≠ 0 → t.me.rd f.a.toNat = BitVec.ofNat 64 fm.next) ∧
      t.me.vec = { join.1 with stripDone := s.me.vec.stripDone + 1 } ∧ t.me.fflags = s.me.fflags ||| join.2 ∧
      ∀ m, m ∈ fm.members → m ≠ s.cur → (t.hart m).run = .idle ∧ (t.hart m).farm = none) ∧
  (∀ (s : State) (f : FE) (o i : Nat) (fm : Farm), QuietInFarm s → s.me.farm = some (o, i) → o ≠ s.cur →
    s.farm? o = some fm →
    ∃ t, exec (.sfend f) s = .next t ∧ t.me.run = .idle ∧ SameGBut s t [] ∧ t.mem = s.mem ∧
      t.farm? o = some { fm with ended := fm.ended ++ [(i, s.me.vec)] } ∧ ∀ m, m ≠ s.cur → t.hart m = s.hart m) ∧
  (∀ (s : State) (f : FE), Quiet s →
    let own := f.imm.toNat % 4
    let other := f.imm.toNat / 4 % 4
    let push := s.me.drawers.get 0 (4 * own + other)
    let pop := s.me.drawers.get 0 (4 * other + own)
    let with_ (k x : Nat) : State := s.setMe { s.me with
      pc := nextPc s.me.pc, drawers := s.me.drawers.set k x, vec := { s.me.vec with stripDone := s.me.vec.stripDone + 1 } }
    (push < 15 → exec (.drpush f) s = .next (with_ (4 * own + other) (push + 1))) ∧
    (0 < pop → exec (.drpop f) s = .next (with_ (4 * other + own) (pop - 1))))

/-! ### Differentiable memory -/

/-- DRGN, DMODE, DTAPE and DMARK complete on a quiet hart (R303, R305, R308, R313), and DREST pops a record of one
element: the bytes that the recorded store replaced stand again, TAPEPTR is back before the record, and gd counts it
(R314). What these write into registers, and the address that DREST takes, is not poisoned: a DRGN, DTAPE or DREST with a poisoned
operand raises cause 0x1A at dispatch, with no effect (R409); that TVAL is the instruction word is the model's reading (log 8). -/
def Obligations.DifferentiableMemoryCompletes : Prop :=
  (∀ (s : State) (f : FE) (d : FS) (e : FI), Quiet s →
    let traps (i : Instr) : Prop := ∃ t, exec i s = .next t ∧ t.me.flt.pending = some ⟨0, 0x1A, s.me.ir.setWidth 64, 0, 0, []⟩ ∧
      SameGBut s t [] ∧ t.mem = s.mem ∧ t.me.tapeptr = s.me.tapeptr ∧ t.me.tapebase = s.me.tapebase ∧
      t.me.tapelim = s.me.tapelim ∧ t.myCtx.drbase = s.myCtx.drbase
    (s.me.mode = 0 → s.me.rdP f.a.toNat = true ∨ s.me.rdP f.b.toNat = true ∨ s.me.rdP f.c.toNat = true → traps (.drgn f)) ∧
    (s.me.mode = 0 → s.me.rdP d.b.toNat = true ∨ s.me.rdP d.c.toNat = true → traps (.dtape d)) ∧
    (s.me.rdP e.b.toNat = true → traps (.drest e))) ∧
  (∀ (s : State) (f : FE), Quiet s → s.me.mode = 0 → s.me.rdP f.a.toNat = false → s.me.rdP f.b.toNat = false →
    s.me.rdP f.c.toNat = false →
    let n := f.imm.toNat % 8
    let pwc := f.imm.toNat / 8
    let cnt := gv s f.a
    let base := gv s f.b
    let adj := gv s f.c
    cnt = 0 ∨ regionFits s.myCtx n cnt.toNat base.toNat adj.toNat (2 ^ pwc) = true →
    ∃ t, exec (.drgn f) s = .next t ∧ Went s t [] ∧ t.mem = s.mem ∧
      (t.ctx s.me.ctx).drbase.get 0 n = (if cnt = 0 then 0 else base) ∧
      (t.ctx s.me.ctx).dradj.get 0 n = (if cnt = 0 then 0 else adj) ∧
      (t.ctx s.me.ctx).drsize.get 0 n = (if cnt = 0 then 0 else BitVec.ofNat 64 (pwc * 2 ^ 40 + cnt.toNat))) ∧
  (∀ (s : State) (f : FI), Quiet s →
    exec (.dmode f) s = .next (s.setMe { s.me.wr f.a.toNat (s.me.mode.setWidth 64) with
      pc := nextPc s.me.pc, mode := BitVec.ofNat 2 f.imm.toNat,
      vec := { s.me.vec with stripDone := s.me.vec.stripDone + 1 } })) ∧
  (∀ (s : State) (f : FS), Quiet s → s.me.mode = 0 → s.me.rdP f.b.toNat = false → s.me.rdP f.c.toNat = false →
    let lo := gv s f.b
    let hi := gv s f.c
    (canonical lo = true → canonical hi = true → lo.toNat % 16 = 0 → hi.toNat % 16 = 0 → lo.toNat ≤ hi.toNat →
      exec (.dtape f) s = .next (s.setMe { s.me.wr f.a.toNat 0 with
        pc := nextPc s.me.pc, tapebase := lo, tapeptr := lo, tapelim := hi,
        vec := { s.me.vec with stripDone := s.me.vec.stripDone + 1 } })) ∧
    (lo.toNat % 16 ≠ 0 → exec (.dtape f) s = .next (ranG s s.me.vec 0 f.a.toNat 1 false))) ∧
  (∀ (s : State) (f : FI) (loc : Nat → Nat), Quiet s → PlainMem s → Bare s →
    s.me.tapeptr.toNat + 32 ≤ s.me.tapelim.toNat →
    (∀ k, k < 4 → DwordAt s .store (s.me.tapeptr + BitVec.ofNat 64 (8 * k)) (loc k)) →
    ∃ t, exec (.dmark f) s = .next t ∧ Went s t [f.a.toNat] ∧ t.me.tapeptr = s.me.tapeptr + 32 ∧
      (f.a ≠ 0 → t.me.rd f.a.toNat = s.me.tapeptr + 32) ∧
      t.mem = dwordsPut s.mem loc [0, 0, 0, BitVec.ofNat 64 (f.imm.toNat * 2 ^ 32 + 2 ^ 31)]) ∧
  (∀ (s : State) (f : FI) (loc : Nat → Nat) (wc ld la : Nat), Quiet s → PlainMem s → Bare s → s.me.rdP f.b.toNat = false →
    let tp := s.me.tapeptr
    let start := tp - 48
    let w := 2 ^ wc
    let addr : W := BitVec.ofNat 64 (num s.mem (loc 0) 8)
    wc ≤ 3 → s.me.tapebase.toNat + 48 ≤ tp.toNat → gv s f.b = start → start.toNat % 16 = 0 →
    (∀ k, k < 4 → DwordAt s .load (tp - 32 + BitVec.ofNat 64 (8 * k)) (loc k)) →
    num s.mem (loc 2) 8 = 1 → num s.mem (loc 3) 8 = wc * 2 ^ 24 + 2 ^ 16 + 1 → addr.toNat % w = 0 →
    xlateMe s .vector .load start w = .ok ⟨⟨ld, 0, none, none⟩, s⟩ →
    xlateMe s .vector .store addr w = .ok ⟨⟨la, 0, none, none⟩, s⟩ →
    ∃ t, exec (.drest f) s = .next t ∧ Went s t [f.a.toNat] ∧ t.me.tapeptr = start ∧
      (f.a ≠ 0 → t.me.rd f.a.toNat = 65536) ∧ t.mem = memPuts s.mem la (leBytes w (num s.mem ld w)))

/-! ### Key caches -/

/-- The key-cache instructions complete on a quiet hart (R322, R327 to R331). KPAGE binds a slot to its two ranges, or
clears it when the page count is 0. KSEL writes the pages that it chooses, as many as VL, and their number, with bit
63 when VL holds fewer channels than a key; its pop bit takes a token from the drawer V to K, and its push bit puts
one into K to V (R347). KGAT gives the engine one row for each listed page that exists, and clears the mask below VL.
KSYNC applies the pending maxima when its AMAX flag asks for it. What KSEL writes is poisoned when a record or a channel that its
bounds combine is (R409). The model's choices: the term of a channel that is 0 times infinity is a NaN and ranks as plus
infinity, and which bounds come into question on a tie or with a NaN (log 15); and what KPAGE's records are over marked keys
(log 18). -/
def Obligations.KeyCachesComplete : Prop :=
  (∀ (s : State) (f : FE), Quiet s → s.me.rdP f.a.toNat = false → s.me.rdP f.b.toNat = false → s.me.rdP f.c.toNat = false →
    let n := f.imm.toNat % 4
    let kb := gv s f.a
    let rb := gv s f.b
    let geo := gv s f.c
    (kcNP geo = 0 → ∃ t, exec (.kpage f) s = .next t ∧ Went s t [] ∧ t.mem = s.mem ∧
      (t.ctx s.me.ctx).kcgeom.get 0 n = 0 ∧ (t.ctx s.me.ctx).kcbind.get none n = none) ∧
    (∀ u b, kcNP geo ≠ 0 → cacheFits s.myCtx n kb rb geo = true →
      bindCache none (s.setCtx s.me.ctx { s.myCtx with kcbind := s.myCtx.kcbind.set n none }) kb rb geo = .ok (u, b) →
      ∃ t, exec (.kpage f) s = .next t ∧ Went s t [] ∧ (t.ctx s.me.ctx).kcbase.get 0 n = kb ∧
        (t.ctx s.me.ctx).kcrime.get 0 n = rb ∧ (t.ctx s.me.ctx).kcgeom.get 0 n = geo ∧
        (t.ctx s.me.ctx).kcbind.get none n = some b)) ∧
  (∀ (s : State) (f : FE) (b : KeyBind), Quiet s → s.me.vec.lay.sew = 32 →
    (descOf (.ksel f) s.me.vec.lay 0).earlyOk = true → (gv s f.c).toNat < 2 ^ 40 →
    let n := f.imm.toNat % 4
    let v := s.me.vec
    let geo := s.myCtx.kcgeom.get 0 n
    let d1 := if f.pop = 0 then s.me.drawers else s.me.drawers.set 7 (s.me.drawers.get 0 7 - 1)
    let d2 := if f.push = 0 then d1 else d1.set 13 (d1.get 0 13 + 1)
    kcNP geo ≠ 0 → s.myCtx.kcbind.get none n = some b → (f.pop ≠ 0 → 0 < s.me.drawers.get 0 7) →
    (f.push ≠ 0 → d1.get 0 13 < 15) →
    let first := fld (gv s f.c) 0 20
    let last := min (first + fld (gv s f.c) 20 20) (kcNP geo)
    let recs := (List.range' first (last - first)).map fun p => (p, readRecord s (s.myCtx.kcrime.get 0 n) geo b p)
    let q (ch : Nat) : Machine.Num := readFlt 10 (el s f.b ch)
    let bounds := recs.filterMap fun e => (pageBound v.vl q e.2.1).map fun x => (e.1, x)
    let sel := choosePages (f.imm.getLsbD 2) (fld (s.me.rd (f.c.toNat + 1)) 0 32) bounds
    let p := s.me.rdP f.c.toNat || s.me.rdP (f.c.toNat + 1) || recs.any (fun e => e.2.2) ||
      (decide (kcD geo ≤ v.vl) && (List.range (kcD geo)).any (elP s f.b))
    let big := decide (v.vl < kcD geo) && !bounds.isEmpty
    let u := ranG s (writeElems v v.lay f.a.toNat ((sel.zip (List.range (min sel.length v.vl))).map fun e => ⟨e.2, e.1, p⟩)) 0
      (f.c.toNat + 2) (BitVec.ofNat 64 (sel.length + if big then 2 ^ 63 else 0)) p
    exec (.ksel f) s = .next (u.setMe { u.me with drawers := d2 })) ∧
  (∀ (s : State) (f : FE), Quiet s → s.me.vec.lay.sew = 32 → f.pop = 0 ∨ 0 < s.me.drawers.get 0 (drawerNo 1 3) →
    (descOf (.kgat f) s.me.vec.lay 0).earlyOk = true → s.me.rdP f.b.toNat = false → s.me.rdP f.c.toNat = false →
    (f.imm.getLsbD 3 = true → s.me.rdP (f.b.toNat + 1) = false) →
    let n := f.imm.toNat % 4
    let geo := s.myCtx.kcgeom.get 0 n
    let e := min (gv s f.c).toNat s.me.vec.vl
    kcNP geo ≠ 0 →
    ∃ t x, exec (.kgat f) s = .next t ∧ Went s t [] ∧ t.mem = s.mem ∧ t.xfers = [x] ∧ x.kind = .gather ∧ x.kgat = true ∧
      x.win = gv s f.b ∧ x.atp = s.myCtx.atp ∧ x.rb = kcPB geo ∧ x.total = e ∧ x.moved = [] ∧ x.owing = false ∧
      x.mem = (if f.imm.getLsbD 3 then s.me.rd (f.b.toNat + 1) else s.myCtx.kcbase.get 0 n) ∧
      (∀ j, j < e → x.rows.getD j 0 = BitVec.ofNat 64 (el s f.a j)) ∧
      (∀ j, j ∈ x.left ↔ j < e ∧ ((BitVec.ofNat 64 (el s f.a j)).toNat < kcNP geo ∨ elP s f.a j = true)) ∧
      t.me.vec.mask (if f.imm.getLsbD 2 then 1 else 0) =
        (writeMask s.me.vec (if f.imm.getLsbD 2 then 1 else 0) ((List.range s.me.vec.vl).map fun j => (j, false))).mask
          (if f.imm.getLsbD 2 then 1 else 0)) ∧
  (∀ (s : State) (f : FE), Quiet s →
    (f.imm.getLsbD 0 = false → exec (.ksync f) s = .next (ran s s.me.vec 0)) ∧
    (f.imm.getLsbD 0 = true → ∃ t, exec (.ksync f) s = .next t ∧ Went s t [] ∧ t.mem = s.mem ∧ t.me.vec.drain = [] ∧
      (t.ctx s.me.ctx).amax = s.me.vec.drain.foldl (fun m u => m.set u.1 (amaxJoin (m.get 0 u.1) u.2)) s.myCtx.amax))

/-! ### Block transfers -/

/-- BXG, BXC and both forms of BXS complete on a quiet hart when their descriptor is good (R371 to R374): the transfer
is in the engine's hands, with the rows of vs or the records of the count, and gd waits for its completion word. A
good chunk of a row form moves its row's bytes and counts it, and one of a stream of one record a chunk moves its record's:
the RB bytes at S(u) to D(u), in plain, untranslated memory (R338, R373). A transfer whose chunks have all ended retires:
gd takes the completion word and waits no more (R339), in a farm g24 to g31 of all its loop contexts (R176); then it deposits its token, where it owes one and the drawer X to
V has room, or owes it still (R346); and a transfer with a cause raises the event 0x10 (R374). That a transfer keeps ATP as it stood
when its command was decoded is the model's reading (log 21). -/
def Obligations.TransfersComplete : Prop :=
  (∀ (s : State) (i : Instr) (f : FE) (kind : XKind) (sl : Option Phys), xferRule i = some (f, kind) → Quiet s →
    let row := kind = .gather ∨ kind = .scatter
    let d (k : Nat) : W := s.me.rd (f.c.toNat + k)
    let count := fld (d 2) 40 24
    let total := if row then s.me.vec.vl else (count + 2 ^ fld (d 2) 32 4 - 1) / 2 ^ fld (d 2) 32 4
    (row → (s.me.vec.lay.sew = 32 ∨ s.me.vec.lay.sew = 64) ∧ onGroup s f.b) → (¬ row → count ≠ 0) →
    (∀ k, k < 5 → s.me.rdP (f.c.toNat + k) = false) → 1 ≤ fld (d 2) 0 17 → fld (d 2) 0 17 ≤ 65536 →
    fld (d 2) 36 4 = 0 → fld (d 2) 17 15 = 0 → (f.imm.getLsbD 2 = true ∨ f.imm.getLsbD 3 = true → fld (d 4) 0 4 = 0) →
    (f.imm.getLsbD 2 = false → sl = none) →
    (f.imm.getLsbD 2 = true → ∃ p, sl = some p ∧ slotPlace s .store (badrOf (d 4)) = .ok ⟨p, s⟩ ∧
      slotHome (badrOf (d 4)) p = true) →
    f.pop = 0 ∨ 0 < s.me.drawers.get 0 (drawerNo 1 2) → 0 < total →
    ∃ t x, exec i s = .next t ∧ t.me.pc = nextPc s.me.pc ∧ t.mem = s.mem ∧ SameGBut s t [] ∧ t.xfers = [x] ∧
      t.me.gwait = (if f.a = 0 then [] else [f.a.toNat]) ∧ x.hart = s.cur ∧ x.atp = s.myCtx.atp ∧ x.kind = kind ∧ x.mem = d 0 ∧ x.win = d 1 ∧
      x.rb = fld (d 2) 0 17 ∧ x.pitch = (x.rb + 63) / 64 * 64 ∧ x.sstr = (BitVec.ofNat 32 (d 3).toNat).signExtend 64 ∧
      x.dstr = (BitVec.ofNat 32 (fld (d 3) 32 32)).signExtend 64 ∧ x.total = total ∧ x.moved = [] ∧ x.owing = false ∧ x.slot = sl.map (·.loc) ∧
      x.gd = (if f.a = 0 then none else some f.a.toNat) ∧
      (row → x.left = List.range total ∧ ∀ j, j < total → x.rows.getD j 0 = BitVec.ofNat 64 (el s f.b j)) ∧
      (¬ row → x.left = [] ∧ x.next = 0 ∧ x.count = count)) ∧
  (∀ (s : State) (x : Xfer) (j ls ld : Nat), s.xfer? x.id = some x → x.kind = .gather ∨ x.kind = .scatter →
    x.owing = false → j < x.total → j ∈ x.left → j ∉ x.bad → j ∉ x.moved → x.cm = none → x.slot = none →
    UnitMoves s x j ls ld →
    ∃ t, exec (.chunkComplete x.id j) s = .next t ∧ Copied s t ls ld x.rb ∧ SameGs s t ∧
      t.xfer? x.id = some { x with left := x.left.filter (· != j), moved := x.moved.filter (· != j), done := x.done + 1 }) ∧
  (∀ (s : State) (x : Xfer) (j ls ld : Nat), s.xfer? x.id = some x → x.kind = .copy ∨ x.kind = .scatterStream →
    x.owing = false → x.chl = 0 → x.next = j → j < x.count → x.total = x.count → j ∉ x.left → x.cm = none → x.slot = none →
    UnitMoves s x j ls ld →
    ∃ t y, exec (.chunkComplete x.id j) s = .next t ∧ Copied s t ls ld x.rb ∧ SameGs s t ∧ t.xfer? x.id = some y ∧
      y.next = j + 1 ∧ y.left = x.left ∧ y.cause = x.cause) ∧
  (∀ (s : State) (x : Xfer) (r o i : Nat), s.xfer? x.id = some x → x.ended = true → x.task = none → x.gd = some r → 24 ≤ r →
    (s.hart x.hart).farm = some (o, i) → x.push = none → x.cause = 0 →
    ∃ t, exec (.transferRetire x.id) s = .next t ∧ t.mem = s.mem ∧ ∀ n, t.hart n =
      if (s.hart n).farm.any (·.1 == o) then { (s.hart n).wr r x.word with gwait := (s.hart n).gwait.erase r }
      else s.hart n) ∧
  (∀ (s : State) (x : Xfer), s.xfer? x.id = some x → x.ended = true → x.task = none →
    (s.hart x.hart).farm = none ∨ (∀ r, x.gd = some r → r < 24) →
    let h := match x.gd with
      | some r => { (s.hart x.hart).wr r x.word with gwait := (s.hart x.hart).gwait.erase r }
      | none => s.hart x.hart
    (x.push = none → x.cause = 0 → ∃ t, exec (.transferRetire x.id) s = .next t ∧ t.mem = s.mem ∧ t.hart x.hart = h ∧
      (∀ n, n ≠ x.hart → t.hart n = s.hart n) ∧ t.xfers = s.xfers.filter (·.id != x.id)) ∧
    (∀ q, x.push = some q → x.cause = 0 → h.drawers.get 0 (4 * q + 1) < 15 →
      ∃ t, exec (.transferRetire x.id) s = .next t ∧ t.mem = s.mem ∧
        t.hart x.hart = { h with drawers := h.drawers.set (4 * q + 1) (h.drawers.get 0 (4 * q + 1) + 1) } ∧
        (∀ n, n ≠ x.hart → t.hart n = s.hart n) ∧ t.xfers = s.xfers.filter (·.id != x.id)) ∧
    (∀ q, x.push = some q → 15 ≤ h.drawers.get 0 (4 * q + 1) →
      ∃ t, exec (.transferRetire x.id) s = .next t ∧ t.mem = s.mem ∧ t.hart x.hart = h ∧
        (∀ n, n ≠ x.hart → t.hart n = s.hart n) ∧ t.xfer? x.id = some { x with owing := true }) ∧
    (x.push = none → x.cause ≠ 0 → ∃ t, exec (.transferRetire x.id) s = .next t ∧ t.mem = s.mem ∧
      (t.hart x.hart).g = h.g ∧ (t.hart x.hart).flt.events = (s.hart x.hart).flt.events ++ [⟨0x10, x.addr⟩] ∧
      (∀ n, n ≠ x.hart → t.hart n = s.hart n) ∧ t.xfers = s.xfers.filter (·.id != x.id)))

namespace Sys2Proof.Rules

/-! ### Events -/

/-- The rows that write a control register, and what they write (R47, R54, R67, R228, R241, R362, R410, R437, R451, R454,
R462). -/
def regEvent : Instr → Option (Nat × W)
  | .controlRegisterWrite n x => some (n.toNat, x)
  | .hrun x => some (0x809, x)
  | .atpWrite x => some (0x220, x)
  | .timeWrite x => some (0x011, x)
  | .poolCarveWrite n x => if 0x222 ≤ n.toNat ∧ n.toNat ≤ 0x224 then some (n.toNat, x) else none
  | .callotWrite x => some (0x235, x)
  | .pstatWrite x => some (0x113, x)
  | .droopClear => some (0x910, 1)
  | .keyLoad => some (0x949, 1)
  | .keyErase => some (0x949, 2)
  | .contextExport => some (0x952, 1)
  | .contextImport => some (0x952, 2)
  | .blkownWrite x => some (0x921, x)
  | _ => none

/-- The moving hart runs and has nothing queued. -/
def Idle (s : State) : Prop := s.me.run = .running ∧ s.me.queue = []

/-- A vector cause of a kind waits at the moving hart, which runs or is parked, at user or kernel level outside a handler. -/
def CauseWaits (s : State) (f : VFault) (kind : Nat) : Prop :=
  s.me.flt.pending = some f ∧ f.kind = kind ∧ runsNow s.me.run = true ∧ f.cause < 256 ∧ s.me.priv ≤ 1 ∧
    bit s.me.trap.stat 7 = false

/-- One queued command, which may start, and the state in which it is taken from the queue (R335). It has not dispatched yet,
or it did so in the shape that is in force (R403), and its level and its ATP are those in force (R234). -/
def OneQueued (s : State) (c : Cmd) : Prop :=
  s.me.queue = [c] ∧ s.me.gwait = [] ∧ s.me.flt.pending = none ∧ s.me.flt.record = none ∧ s.me.farm = none ∧ s.xfers = [] ∧
    bit s.me.vec.gsctl 15 = false ∧ (c.first = none ∨ c.first = some (s.me.vec.sewc, s.me.vec.gc, s.me.vec.vl)) ∧
    s.choices = [] ∧ s.pin = none ∧ c.priv.toNat = s.me.priv ∧ c.atp = s.myCtx.atp

/-- COND of VWAIT (R267): equal, not equal, at least and less than, of signed elements. -/
def condRule (cond sew x y : Nat) : Bool :=
  if cond = 0 then x == y else if cond = 1 then x != y
  else if cond = 2 then decide (sInt sew y ≤ sInt sew x) else decide (sInt sew x < sInt sew y)

/-- The elements of a VWAIT (R267): its base is the second g register named by its fields, or the third where KIND = 1. -/
def waitEa (s : State) (c : Cmd) (f : FE) (j : Nat) : Ea :=
  ⟨j, (if f.imm.getLsbD 2 then c.g 2 else c.g 1) + BitVec.ofNat 64 (el s f.c j), s.me.vec.lay.sew / 8, elP s f.c j⟩

/-- What an element of a VWAIT is compared with: g[c + 1], or the group behind the index group (R267). -/
def waitValue (s : State) (c : Cmd) (f : FE) (j : Nat) : Nat :=
  if f.imm.getLsbD 2 then (c.g 1).toNat % 2 ^ s.me.vec.lay.sew
  else elemGet s.me.vec s.me.vec.lay (f.c.toNat + s.me.vec.lay.g) j

/-- Nothing differs but that the links on the granule of a location are gone (R133). -/
def LinksGone (s t : State) (loc : Nat) : Prop :=
  t = { s with harts := t.harts } ∧ ∀ n, t.hart n = { s.hart n with
    link := (s.hart n).link.filter fun l => l.granule != loc / 64,
    vec := { (s.hart n).vec with vlinks := (s.hart n).vec.vlinks.filter fun l => l.granule != loc / 64 } }

/-- The timeout of an instruction that began to wait at `t0` has passed (R139, R268). -/
def Late (s : State) (ticks t0 : W) : Prop := ticks ≠ 0 ∧ ticks.toNat ≤ (s.time - t0).toNat

end Sys2Proof.Rules

/-! ### Registers, boot, the host -/

/-- Every row that writes a control register takes effect at a running hart with an empty queue whose level allows the
write (R12, R47): the state is the one that the register's own rule gives. Some of those effects: TIME (R54), whose new count
shows at once, which is the model's choice of the two outcomes that R54 leaves open (log 58), a hart
started at HRADDR (R67), the owners of a run of blocks (R451), a key loaded and erased (R454), a droop cap lifted
(R437). -/
def Obligations.RegisterWritesComplete : Prop :=
  (∀ (s t : State) (i : Instr) (n : Nat) (x : W), regEvent i = some (n, x) → Idle s →
    csrAllowed n s.me.priv true = true → csrWrite (csrReady s n) n x = some t → exec i s = .next t) ∧
  (∀ (s : State) (x : W), Idle s → s.me.priv = 2 →
    exec (.timeWrite x) s = .next { s with time := x } ∧
    ((s.hart (fld x 0 11)).run = .reset → ∃ t, exec (.hrun x) s = .next t ∧ (t.hart (fld x 0 11)).run = .running ∧
      (t.hart (fld x 0 11)).pc = s.me.trap.hraddr ∧ ∀ n, n ≠ fld x 0 11 → t.hart n = s.hart n) ∧
    (∃ t, exec .keyLoad s = .next t ∧ t.keys.get none s.keysel.toNat = some (keyData s) ∧
      ∀ k, k ≠ s.keysel.toNat → t.keys.get none k = s.keys.get none k) ∧
    (∃ t, exec .keyErase s = .next t ∧ t.keys.get none s.keysel.toNat = none) ∧
    (∃ t, exec (.blkownWrite x) s = .next t ∧ ∀ b, fld s.blksel 0 26 ≤ b → b < blockCount →
      b < fld s.blksel 0 26 + max 1 (fld s.blksel 32 26) → ownWord t b = BitVec.ofNat 27 x.toNat &&& 0x7FF1FFF#27) ∧
    (∀ i, selectedRegion s = some i → ∃ t, exec .droopClear s = .next t ∧ (region t i).droop = false ∧
      (region t i).igov = (region s i).igov) ∧
    ((s.ctx s.cxsel.toNat).resident = false → exec .contextExport s = .next { s with cxstatus := 2 }) ∧
    ((s.ctx s.cxsel.toNat).resident = true → exec .contextImport s = .next { s with cxstatus := 2 }))

/-- Package reset checks the image: when it is good hart 0 may start, and begins at the entry address with the payload
copied; when it is not no hart starts (R66, R457, R458). Memory stays over a package reset, but for what stash lines had
dirty, which is the model's choice, as is where the boot flash lies (log 31), and none of the device's survives the removal of
its rails (R66). That a byte which nothing has written since then reads 0 is the model's choice (log 5). -/
def Obligations.BootAndResetComplete : Prop :=
  (∀ s : State, ∃ t, exec .packageReset s = .next t ∧ (s.lineKeys = [] → t.mem = (behind s).mem) ∧ t.booted = imageGood s ∧
    (∀ l k, s.lineKeys.get none l = none → k < 64 → memGet t.mem (64 * l + k) = memGet (behind s).mem (64 * l + k)) ∧
    (∀ n, (t.hart n).run = .reset ∧ (t.hart n).priv = 2 ∧ (t.hart n).vec.lanes = 0) ∧ t.devid = 0 ∧ t.linkUp = false ∧
    (imageGood s = true → t.trapEntry = BitVec.ofNat 64 (rawGet s (flashBase + 0x028) 8) ∧
      t.measured2 = some (BitVec.ofNat 512 (rawGet s (flashBase + 0x030) 64)))) ∧
  (∀ s : State, s.booted = true → s.measured2 ≠ none → (s.hart 0).run = .reset →
    memWf s.mem = true → rawGet s (flashBase + 0x010) 8 + rawGet s (flashBase + 0x018) 8 ≤ flashBase →
    ∃ t, exec .bootHartStart s = .next t ∧ (t.hart 0).run = .running ∧
      (t.hart 0).pc = BitVec.ofNat 64 (rawGet s (flashBase + 0x020) 8) ∧ (t.hart 0).trap.ftbase = s.trapEntry ∧
      (∀ n, n ≠ 0 → t.hart n = s.hart n) ∧
      ∀ k, k < rawGet s (flashBase + 0x018) 8 →
        memGet t.mem (rawGet s (flashBase + 0x010) 8 + k) = memGet s.mem (flashBase + 0x200 + k)) ∧
  (∀ s : State, ∃ t, exec .railRemoval s = .next t ∧ t.booted = false ∧ (∀ n, (t.hart n).run = .reset) ∧
    (∀ a, a < remoteBase → memGet t.mem a = 0) ∧
    (∀ a, (remoteBase ≤ a ∧ a < padBase) ∨ flashBase ≤ a → memGet t.mem a = memGet s.mem a))

/-- What the host does reaches the device when the image was verified and the link is up (R358, R359, R447 to R450,
R455, R456). A doorbell makes the context's task 0 READY, or is ignored with STATUS bit 1 while that task is under
way; CKRUN begins a checkpoint; the snapshot is taken when nothing is in flight, with the dirty stash bytes written back;
blocks stream in any order, as memory itself holds them, and a line that the host completes with an error ends the stream, those
before it written, in ascending order, which is the model's choice (log 37); a read gives what memory itself holds, without what stash lines
have dirty (R292), and a write puts its bytes, in plain memory. A write of a device register clears the links on its granule
(R133). -/
def Obligations.HostEventsComplete : Prop :=
  (∀ (s : State) (ctx : Nat) (x : W), hostOn s = true → ctx < 4096 → bit x 0 = true →
    let k := s.ctx ctx
    ((k.slot 0).state = .free ∨ (k.slot 0).state = .defined → fld k.pageShape 29 3 = 0 → fld k.pageShape 32 32 = 0 →
      taskOk k.pageEntry (fld k.pageShape 0 29) = true →
      ∃ t, exec (.doorbell ctx x) s = .next t ∧ t.mem = s.mem ∧ (t.ctx ctx).pageStatus = 0 ∧
        ((t.ctx ctx).slot 0).state = .ready ∧ ((t.ctx ctx).slot 0).entry = k.pageEntry ∧
        ((t.ctx ctx).slot 0).args = k.pageArgs ∧ ((t.ctx ctx).slot 0).since = s.time) ∧
    ((k.slot 0).state ≠ .free → (k.slot 0).state ≠ .defined →
      ∃ t, exec (.doorbell ctx x) s = .next t ∧
        LinksGone (s.setCtx ctx { k with pageStatus := 2 }) t (0x3C100000000 + ctx * 4096))) ∧
  (∀ (s : State) (x : W), hostOn s = true → bit x 0 = true → s.ckState = 0 ∨ s.ckState = 3 →
    ∃ t, exec (.ckrun x) s = .next t ∧ t.ckState = 1 ∧ t.ckDone = 0 ∧ t.mem = s.mem ∧
      ∀ n, (t.hart n).task ≠ none → (t.hart n).preempt = some ⟨true, s.time⟩) ∧
  (∀ (s : State) (ctx : Nat) (x : W), hostOn s = true → ctx < 4096 →
    (∃ t, exec (.controlPageWrite (0x3C100000000 + ctx * 4096 + 0x10) x) s = .next t ∧
      LinksGone (s.setCtx ctx { s.ctx ctx with pageEntry := x }) t (0x3C100000000 + ctx * 4096)) ∧
    ∃ t, exec (.controlPageWrite (0x3C000000000 + 0x10) x) s = .next t ∧
      LinksGone { s with ckAddr := setFld x 0 16 0 } t 0x3C000000000) ∧
  (∀ s : State, s.ckState = 1 → s.harts.all (fun e => e.2.preempt.isNone && e.2.vec.drain.isEmpty) = true → s.xfers = [] →
    exec .snapshotPoint s = .next { s with ckState := 2, dirty := [] }) ∧
  (∀ (s : State) (b : Nat), s.ckState = 2 → b < blockCount → b ∉ s.ckBlocks → s.ckNext ≤ b → s.ckNext ∉ s.ckBlocks →
    memWf s.mem = true → s.lineKeys = [] →
    let fails (l : Nat) : Bool := Config.hostError (s.ckAddr.toNat + b * 65536 + 64 * l)
    ∃ t, exec (.checkpointBlockStream b) s = .next t ∧ (∀ a, a < hostBase → memGet t.mem a = memGet s.mem a) ∧
      ((∀ l, l < 1024 → fails l = false) →
        s.ckDone + 65536 ≤ t.ckDone ∧ (b ≠ s.ckNext → t.ckDone = s.ckDone + 65536 ∧ t.ckState = 2 ∧ b ∈ t.ckBlocks) ∧
        (∀ k, k < 65536 → memGet t.mem (hostBase + s.ckAddr.toNat + b * 65536 + k) = memGet (behind s).mem (b * 65536 + k))) ∧
      (∀ l, l < 1024 → fails l = true → (∀ j, j < l → fails j = false) →
        t.ckState = 3 ∧ t.ckError = true ∧ t.ckDone = s.ckDone + 64 * l ∧
        (∀ k, k < 64 * l → memGet t.mem (hostBase + s.ckAddr.toNat + b * 65536 + k) = memGet (behind s).mem (b * 65536 + k)))) ∧
  (∀ (s : State) (off n : Nat), hostServed s off n = true → s.lineKeys = [] → (∀ a, (hostPlace s a).key = none) →
    exec (.hostMemRead off n) s =
      .next { s with hostAnswer := some ((List.range n).map fun k => memGet (behind s).mem (off + k)) }) ∧
  (∀ (s : State) (off : Nat) (bytes : List Byte), hostServed s off bytes.length = true → PlainMem s → s.live = [] →
    (∀ a, (hostPlace s a).key = none) → bytes ≠ [] → off % 64 + bytes.length ≤ 64 → off + bytes.length ≤ devMemEnd →
    ∃ t, exec (.hostMemWrite off bytes) s = .next t ∧ t.hostAnswer = some [] ∧ t.mem = memPuts s.mem off bytes) ∧
  (∀ s : State, exec (.cxlLinkUp 16 256) s = .next { s with linkUp := true } ∧
    exec .cxlLinkDown s = .next { s with linkUp := false, hdmsize := s.hdmNext })

/-! ### What a hart takes at a boundary -/

/-- Vector causes and asynchronous events are taken as R61, R164, R399 to R402 and R411 give, with EPC the PC: the
queue becomes the saved queue, VFSTAT.VALID says so, and the command queue is empty. A hart that has stopped takes none of
them (R63). An event is taken where STAT
allows it and no vector cause comes first; that of several the oldest is taken is the model's choice (log 52). -/
def Obligations.CausesAreTaken : Prop :=
  (∀ (s : State) (f : VFault) (i : Instr) (kind : Nat),
    (i = .vectorFaultDelivery ∧ kind = 0) ∨ (i = .grantLoss ∧ kind = 1) ∨ (i = .poisonRecord ∧ kind = 2) →
    CauseWaits s f kind →
    ∃ t, exec i s = .next t ∧ t.me.trap.cause = BitVec.ofNat 64 f.cause ∧ t.me.trap.tval = f.tval ∧
      t.me.trap.epc = s.me.pc ∧ t.me.pc = s.me.trap.tbase ∧ t.me.flt.pending = none ∧ t.me.flt.saved = s.me.queue ∧
      t.me.queue = [] ∧ bit t.me.flt.vfstat 0 = !s.me.queue.isEmpty ∧ SameGBut s t [] ∧ t.mem = s.mem ∧
      t.me.fflags = s.me.fflags) ∧
  (∀ (s : State) (f : VFault), s.me.flt.pending = none → s.me.flt.record = some f → runsNow s.me.run = true →
    f.cause < 256 → s.me.priv ≤ 1 →
    bit s.me.trap.stat 7 = false → ∃ t, exec .poisonRecord s = .next t ∧ t.me.trap.cause = BitVec.ofNat 64 f.cause ∧
      t.me.trap.tval = f.tval ∧ t.me.trap.epc = s.me.pc ∧ t.me.flt.record = none) ∧
  (∀ (s : State) (i : Instr), i = .vectorFaultDelivery ∨ i = .grantLoss ∨ i = .poisonRecord → runsNow s.me.run = false →
    exec i s = .next s) ∧
  (∀ (s : State) (e : AsyncEvent) (r : List AsyncEvent), s.me.flt.events = e :: r → s.me.run = .running → s.me.priv ≤ 1 →
    bit s.me.trap.stat 4 = true → bit s.me.trap.stat 7 = false → s.me.flt.pending = none → s.me.flt.record = none →
    e.code < 256 →
    ∃ t, exec .asyncEventTake s = .next t ∧ t.me.trap.cause.toNat = 2 ^ 63 + e.code ∧ t.me.trap.tval = e.tval ∧
      t.me.trap.epc = s.me.pc ∧ t.me.pc = s.me.trap.tbase ∧ t.me.flt.events = r ∧ t.me.queue = [] ∧ SameGBut s t []) ∧
  (∀ (s : State) (w : IWord) (e : DecodeErr), s.me.run = .running → decodeFor s s.cur w = .err e → s.me.priv ≤ 1 →
    bit s.me.trap.stat 7 = false → ∃ t, exec (.decodeTableMiss w) s = .next t ∧
      t.me.trap.cause = (if e = .miss then 3 else 2) ∧ t.me.trap.tval = w.setWidth 64 ∧ t.me.trap.epc = s.me.pc) ∧
  (∀ (s : State) (c : Cause), s.me.run = .running → fetchWord s s.cur = .error c → s.me.priv ≤ 1 → c.code < 256 →
    bit s.me.trap.stat 7 = false → ∃ t, exec .instructionFetchFault s = .next t ∧
      t.me.trap.cause = BitVec.ofNat 64 c.code ∧ t.me.trap.tval = c.tval ∧ t.me.trap.epc = s.me.pc) ∧
  (∀ (s : State) (cycles ticks : Nat), ∃ t, exec (.timeTick cycles ticks) s = .next t ∧
    t.time = s.time + BitVec.ofNat 64 ticks ∧ t.harts = s.harts ∧ t.mem = s.mem ∧
    ∀ n, n < 256 → (t.core n).cycle = (s.core n).cycle + BitVec.ofNat 64 cycles)

/-- The ends of waits (R139, R220, R268, R335, R346, R350, R377, R380). A parked hart keeps the first of its wake events,
and of two in one cycle the lower code; it leaves its PARK with that code, or with 0 when its time is up, and stays
parked without either. A queued command that may start is dispatched: a VADD runs as it does at issue; a VWAIT whose time
is up ends with its unsatisfied active elements in m1, one all of whose active elements are satisfied, in this round or an
earlier one, ends with m1 clear, and one with an unsatisfied element waits on; a shelf or barrier command that now finds
what it waits for ends; a DRPOP takes the token that has come; and a command or a transfer that owes a token pays it when
there is room. One pending maximum is applied to its register. -/
def Obligations.WaitsEnd : Prop :=
  (∀ (s : State) (i : Instr) (gd : Nat) (t0 ticks : W) (first : Option (Nat × W)), (i = .parkWake ∨ i = .parkTimeout) →
    s.me.run = .parked gd t0 ticks first →
    let out (k : W) : State := s.setMe { s.me.wr gd k with pc := nextPc s.me.pc, run := .running, wake := false }
    (∀ k y, first = some (k, y) → exec i s = .next (out (BitVec.ofNat 64 k))) ∧
    (first = none → Late s ticks t0 → exec i s = .next (out 0)) ∧
    (first = none → ¬ Late s ticks t0 → exec i s = .next s)) ∧
  (∀ (s : State) (n code : Nat) (tval : W) (gd : Nat) (t0 ticks : W) (first : Option (Nat × W)),
    (s.hart n).run = .parked gd t0 ticks first →
    let now := (s.core (coreOf n)).cycle
    ∃ e, ((post s n code tval).hart n).run = .parked gd t0 ticks (some e) ∧
      ((post s n code tval).hart n).flt.events = (s.hart n).flt.events ++ [⟨code, tval⟩] ∧
      (first = none → Late s ticks t0 → e = (0, now)) ∧ (first = none → ¬ Late s ticks t0 → e = (1, now)) ∧
      (∀ k, first = some (k, now) → e = (min k 1, now)) ∧ (∀ k y, first = some (k, y) → y ≠ now → e = (k, y))) ∧
  (∀ (s : State) (c : Cmd) (f : FV), OneQueued s c → c.ins = .vadd f → onGroup s f.a → onGroup s f.b → onGroup s f.c →
    let v := s.me.vec
    exec .commandDispatch s = .next (s.setMe { s.me with queue := [], vec :=
      { writeElems v v.lay f.a.toNat ((v.actives f.msk).filter (c.resume ≤ ·) |>.map fun j =>
          ⟨j, (el s f.b j + el s f.c j) % 2 ^ v.lay.sew, elP s f.b j || elP s f.c j⟩) with
        stripDone := v.stripDone + 1 } })) ∧
  (∀ (s : State) (c : Cmd) (f : FE) (t0 : W) (loc : Nat → Nat), OneQueued s c → c.ins = .vwait f → c.t0 = some t0 →
    PlainMem s → Bare s → s.me.mode = 0 → (s.me.vec.lay.sew = 32 ∨ s.me.vec.lay.sew = 64) →
    (descOf (.vwait f) s.me.vec.lay c.fw).earlyOk = true → s.me.vec.vl ≤ s.me.vec.lay.cap s.me.vec.lanes →
    s.me.vec.lanes ≤ 512 → c.tainted = 0 → (∀ k, c.gpois k = false) →
    let v := s.me.vec
    let act := v.actives (f.imm.extractLsb' 3 2)
    (∀ j, j ∈ act → f.imm.getLsbD 2 = false → elemPoison v v.lay (f.c.toNat + v.lay.g) j = false) →
    Reaches s .load ((act.filter fun j => !maskBit c.done v.lay j).map (waitEa s c f)) loc →
    let hit (j : Nat) : Bool := maskBit c.done v.lay j ||
      condRule (f.imm.toNat % 4) v.lay.sew (num s.mem (loc j) (v.lay.sew / 8)) (waitValue s c f j)
    let ends (i : Instr) (m : Nat → Bool) : Prop := ∃ t, exec i s = .next t ∧ t.me.queue = [] ∧ t.mem = s.mem ∧
      SameGBut s t [] ∧ t.me.vec.m1 = (writeMask v 1 ((List.range v.vl).map fun j => (j, m j))).m1 ∧ t.me.vec.pm = v.pm
    (Late s (c.g 0) t0 → ends .vwaitTimeout fun j => act.contains j && !hit j) ∧
    (¬ Late s (c.g 0) t0 → act.all hit = true → ends .vwaitSatisfied fun _ => false) ∧
    (¬ Late s (c.g 0) t0 → act.all hit = false → exec .vwaitSatisfied s = .next s)) ∧
  (∀ (s : State) (c : Cmd) (i : Instr) (f : FE) (d : Nat) (k : W) (lb lg ls : Nat), OneQueued s c → PlainMem s → Bare s →
    s.me.mode = 0 → (i = .shacq f ∧ d = 0) ∨ (i = .shwait f ∧ d = 1) → c.ins = i → c.ticket = some k →
    c.gpois 0 = false → (c.g 0).toNat % 64 = 0 → DwordAt s .load (c.g 0 + 16) lb → DwordAt s .load (c.g 0 + 24) lg →
    let geo : W := BitVec.ofNat 64 (num s.mem lg 8)
    shGeoOk geo = true →
    DwordAt s .load (c.g 0 + BitVec.ofNat 64 (64 + 8 * (k.toNat % shNst geo))) ls →
    num s.mem ls 8 = (k.toNat + d) % 2 ^ 64 → f.a ≠ 0 →
    ∃ t, exec .shelfWaitEnd s = .next t ∧ t.me.queue = [] ∧ t.mem = s.mem ∧ t.me.rd (f.a.toNat + 1) = k ∧
      t.me.rd f.a.toNat = BitVec.ofNat 64 (num s.mem lb 8) + BitVec.ofNat 64 (k.toNat % shNst geo * shSize geo)) ∧
  (∀ (s : State) (c : Cmd) (f : FE) (id : Nat), OneQueued s c → c.ins = .bwait f → c.watch = some (id, true) →
    ∃ t, exec .barrierWaitEnd s = .next t ∧ t.me.queue = [] ∧ t.mem = s.mem ∧ (f.a ≠ 0 → t.me.rd f.a.toNat = 0)) ∧
  (∀ (s : State) (c : Cmd) (f : FE), OneQueued s c → c.ins = .drpop f →
    let k := 4 * (f.imm.toNat / 4 % 4) + f.imm.toNat % 4
    0 < s.me.drawers.get 0 k → ∃ t, exec .tokenArrival s = .next t ∧ t.me.queue = [] ∧
      t.me.drawers.get 0 k = s.me.drawers.get 0 k - 1) ∧
  (∀ (s : State) (c : Cmd) (f : FE), OneQueued s c → c.ins = .drpush f → c.owes = true →
    let k := 4 * (f.imm.toNat % 4) + f.imm.toNat / 4 % 4
    s.me.drawers.get 0 k < 15 → ∃ t, exec .drawerRoom s = .next t ∧ t.me.queue = [] ∧
      t.me.drawers.get 0 k = s.me.drawers.get 0 k + 1) ∧
  (∀ (s : State) (x : Xfer) (q : Nat), s.xfers = [x] → x.owing = true → x.hart = s.cur → x.push = some q → x.task = none →
    x.cause = 0 → s.me.drawers.get 0 (4 * q + 1) < 15 →
    ∃ t, exec .drawerRoom s = .next t ∧ t.xfers = [] ∧ t.mem = s.mem ∧ SameGBut s t [] ∧
      t.me.drawers = s.me.drawers.set (4 * q + 1) (s.me.drawers.get 0 (4 * q + 1) + 1)) ∧
  (∀ (s : State) (k : Nat) (u : Nat × BitVec 32), s.me.vec.drain[k]? = some u →
    ∃ t, exec (.amaxDrainApply k) s = .next t ∧ t.me.vec.drain = s.me.vec.drain.eraseIdx k ∧
      (t.ctx s.me.ctx).amax.get 0 u.1 = amaxJoin (s.myCtx.amax.get 0 u.1) u.2)

namespace Sys2Proof.Rules

/-! ### Errors, power, the scheduler -/

/-- A loop context takes an event with this code and value. -/
def Gets (t : State) (n code : Nat) (x : W) : Prop := ⟨code, x⟩ ∈ (t.hart n).flt.events

/-- A seated cluster and its holder: the hart that the bench table names (R155), or the loop context of it that holds the seat
(R176, log 34). -/
def Seated (s : State) (core k hart : Nat) : Prop :=
  bit (s.core core).bench (4 * k + 3) = true ∧
    hart = 8 * core + fld (s.core core).bench (4 * k) 3 + 2048 * fld (s.core core).loops (4 * k) 4

/-- The middle of three readings. -/
def middle (a b c : Int) : Int := max (min a b) (min (max a b) c)

/-- A reading outside the range of R438. -/
def outRange (r : Nat) (temp amps : Int) : Prop := temp < 0 ∨ 150 < temp ∨ amps < 0 ∨ (2 * nominal (r % 208) : Nat) < amps

/-- A reading too far from the medians (R438): more than 8 °C, or 15%. -/
def farOff (mt ma temp amps : Int) : Prop := 8 < (temp - mt).natAbs ∨ 15 * ma.natAbs < 100 * (amps - ma).natAbs

/-- One of three by its number. -/
def pick3 (k : Nat) (x : Int × Int × Int) : Int := if k = 0 then x.1 else if k = 1 then x.2.1 else x.2.2

/-- No neighbour of a core stages, and none has a request before one that was made `age` cycles ago: an earlier one, or one of
the same cycle of a lower region (R433). -/
def NextToStage (s : State) (core age : Nat) : Prop :=
  ∀ n, n ∈ neighbourCores core → ∀ y, y ∈ (s.core n).wakes → (∀ k, y.phase ≠ .staging k) ∧
    y.age ≤ age ∧ (y.age = age → core ≤ n)

/-- A regulator that feeds a compute die and not one core (R431). -/
def feedsDie (kind i : Nat) : Prop := kind = 2 ∧ 192 ≤ i % 208

/-- What memory holds once the stashes of a die are lost: their dirty bytes never reach it (R442). -/
def withoutStashes (s : State) (die : Nat) : List Host.Cell :=
  (s.dirty.filter fun e => e.core / 64 == die).foldl (fun m e => memPut m e.loc e.held) s.mem

/-- A core whose oldest wake is the one given. -/
def withWakes (s : State) (core : Nat) (ws : List Wake) : State := s.setCore core { s.core core with wakes := ws }

/-- A hart that has left its task with its state in an image (R416): it runs nothing and holds no seat. -/
def HasLeft (t : State) (hart : Nat) : Prop :=
  (t.hart hart).run = .idle ∧ (t.hart hart).task = none ∧ (t.hart hart).preempt = none ∧ (t.hart hart).vec.lanes = 0 ∧
    heldBy (t.core (coreOf hart)) hart = []

/-- What becomes of a task when a rank of it is saved (R355, R416): with the last rank it is READY again. -/
def RankSaved (s t : State) (ctx n rank : Nat) : Prop :=
  ((s.ctx ctx).slot n).state = .running → ((s.ctx ctx).slot n).left = [rank] →
    ((t.ctx ctx).slot n).state = .ready ∧ ∀ r, r ∈ ((t.ctx ctx).slot n).saved ↔ r ∈ ((s.ctx ctx).slot n).saved ∨ r = rank

end Sys2Proof.Rules

/-! ### Errors, power, the scheduler -/

/-- Errors (R408, R412 to R414, R430, R431, R437, R438). An uncorrectable memory error marks its word. An uncorrectable error
in a lane retires its cluster: the loop context that holds its seat gets LERR and cause 0x11 and keeps the lanes of its other
clusters, and where no one holds the seat the service hart gets them. A corrected one retires the cluster when it is the third
within 10 s. An uncorrectable error retires a pseudo-channel, core, regulator or sensor, and the third corrected one within
10 s does; memory stays, but that the dirty stash bytes of a compute die that goes dark are lost, and their lines marked (R442). A
phase that trips goes out, and returns 100 µs later when it passes. A droop halves the region's current limit. A
region whose regulator fails goes dark, and its core is retired. A sensor out of range is retired, one too far from the
medians is untrusted, and the medians govern while all three are trusted. That the service hart is told of a lane that no one
holds and which harts may serve (log 33), and what a core's retirement does to its harts (log 28), are the model's choice.
-/
def Obligations.ErrorsComplete : Prop :=
  (∀ (s : State) (loc : Nat), ∃ t, exec (.memoryError loc) s = .next t ∧ t.mem = s.mem ∧ t.harts = s.harts ∧
    ∀ w, w ∈ t.marks ↔ w ∈ s.marks ∨ w = loc / 4) ∧
  (∀ (s : State) (core lane : Nat) (reg : BitVec 5), core < 256 → lane < 512 →
    (s.core core).lanedis.getLsbD (lane / 32) = false → (s.core core).retired = false →
    (bit (s.core core).bench (4 * (lane / 32) + 3) = false →
      ∃ t, exec (.laneError core lane reg true) s = .next t ∧ (t.core core).lanedis.getLsbD (lane / 32) = true ∧
        fld (t.hart (serviceHart s)).flt.lerr 61 3 = 7 ∧ fld (t.hart (serviceHart s)).flt.lerr 16 9 = lane ∧
        fld (t.hart (serviceHart s)).flt.lerr 56 5 = reg.toNat ∧ t.mem = s.mem ∧
        Gets t (serviceHart s) 0x11 (t.hart (serviceHart s)).flt.lerr) ∧
    (∀ hart idx, Seated s core (lane / 32) hart → 2 ≤ (heldBy (s.core core) hart).length →
      (heldBy (s.core core) hart)[idx]? = some (lane / 32) →
      ∃ t, exec (.laneError core lane reg true) s = .next t ∧ (t.core core).lanedis.getLsbD (lane / 32) = true ∧
        fld (t.core core).bench (4 * (lane / 32)) 4 = 0 ∧ fld (t.hart hart).flt.lerr 61 3 = 7 ∧
        fld (t.hart hart).flt.lerr 56 5 = reg.toNat ∧ fld (t.hart hart).flt.lerr 16 9 = lane ∧
        Gets t hart 0x11 (t.hart hart).flt.lerr ∧ (t.hart hart).vec.lanes = (s.hart hart).vec.lanes ∧
        (t.hart hart).vec.phys = (s.hart hart).vec.phys - min 32 ((s.hart hart).vec.phys - 32 * idx) ∧
        (t.hart hart).vec.v = (s.hart hart).vec.v ∧ t.mem = s.mem ∧ ∀ n, n ≠ hart → t.hart n = s.hart n) ∧
    (bit (s.core core).bench (4 * (lane / 32) + 3) = false →
      ∃ t, exec (.laneError core lane reg false) s = .next t ∧ t.mem = s.mem ∧
        ((t.core core).lanedis.getLsbD (lane / 32) = true ↔
          2 ≤ (recent s (s.clusterErrors.get [] (16 * core + lane / 32))).length))) ∧
  (∀ (s : State) (kind i : Nat), kind < 4 → i < unitCount kind → (kind, i) ∉ s.retired →
    (kind = 1 → (s.core i).retired = false) → (kind = 2 → (region s i).dark = false) →
    (∃ t, exec (.unitError kind i true) s = .next t ∧ (kind, i) ∈ t.retired ∧ (¬ feedsDie kind i → t.mem = s.mem) ∧
      (feedsDie kind i → t.mem = withoutStashes s (i / 208) ∧ ∀ e, e ∈ s.dirty → e.core / 64 = i / 208 →
        e ∉ t.dirty ∧ ∀ w, w / 16 = e.loc / 64 → w ∈ t.marks) ∧
      (kind = 0 → i ∈ t.channels) ∧ (kind = 1 → (t.core i).retired = true) ∧ (kind = 2 → (region t i).dark = true) ∧
      (kind = 3 → ((region t (i / 3)).sensors.get Sensor.reset (i % 3)).retired = true)) ∧
    (∃ t, exec (.unitError kind i false) s = .next t ∧ (¬ feedsDie kind i → t.mem = s.mem) ∧
      ((kind, i) ∈ t.retired ↔ 2 ≤ (recent s (s.errors.get [] (65536 * kind + i))).length))) ∧
  (∀ (s : State) (kind i : Nat), kind < 4 → ∃ t, exec (.errorAgeOut kind i) s = .next t ∧ t.mem = s.mem ∧
    t.harts = s.harts ∧ t.errors.get [] (65536 * kind + i) = (s.errors.get [] (65536 * kind + i)).filter fun x =>
      decide ((s.time - x).toNat < 1000000000)) ∧
  (∀ (s : State) (r p : Nat) (unc : Bool), r < 832 → p < 12 → (region s r).dark = false → p ∉ (region s r).lost →
    (∀ e, e ∈ (region s r).tripped → e.1 ≠ p) →
    ∃ t, exec (.phaseTrip r p unc) s = .next t ∧ (region t r).phases = (region s r).phases - 1 ∧
      (unc = true → p ∈ (region t r).lost)) ∧
  (∀ (s : State) (r p : Nat) (x : W), (region s r).tripped.find? (·.1 == p) = some (p, x) →
    10000 ≤ (s.time - x).toNat → (region s r).dark = false →
    ∃ t, exec (.phaseReturn r p true) s = .next t ∧ (∀ e, e ∈ (region t r).tripped → e.1 ≠ p)) ∧
  (∀ (s : State) (r mv step : Nat), r < 832 → (region s r).dark = false → 30 < mv → 10 * step < ilim s r →
    (2, r) ∉ s.retired → (recent s (s.errors.get [] (65536 * 2 + r))).length < 2 →
    ∃ t, exec (.supplyDroop r mv step) s = .next t ∧ (region t r).droop = true ∧
      ilim t r = if (region s r).droop then ilim s r else ilim s r / 2) ∧
  (∀ (s : State) (core : Nat), core < 256 → (region s (laneRegion core)).dark = false → (s.core core).retired = false →
    ∃ t, exec (.regulatorFail (laneRegion core) []) s = .next t ∧ (region t (laneRegion core)).dark = true ∧
      (t.core core).retired = true ∧ ∀ n, n < 2048 → coreOf n = core → (t.hart n).run = .halted) ∧
  (∀ (s : State) (die r k : Nat) (x y : Int × Int × Int), r / 208 = die → r < 832 → k < 3 →
    let mt := middle x.1 x.2.1 x.2.2
    let ma := middle y.1 y.2.1 y.2.2
    ∃ t, exec (.sensorSample die [⟨r, x, y⟩]) s = .next t ∧ t.mem = s.mem ∧
      (outRange r (pick3 k x) (pick3 k y) → (3, 3 * r + k) ∈ t.retired) ∧
      (outRange r (pick3 k x) (pick3 k y) ∨ farOff mt ma (pick3 k x) (pick3 k y) →
        ((region t r).sensors.get Sensor.reset k).untrusted = true) ∧
      ((∀ j, j < 3 → ¬ outRange r (pick3 j x) (pick3 j y) ∧ ¬ farOff mt ma (pick3 j x) (pick3 j y) ∧
          ((region s r).sensors.get Sensor.reset j).untrusted = false ∧
          ((region s r).sensors.get Sensor.reset j).same < 4095) →
        (region t r).temp = mt.toNat ∧ (region t r).igov = ma.toNat))

/-- Budgets, quotas and lanes (R163, R364, R427, R433, R435, R436). A refresh gives a core no more than it has unretired lanes and
phases, nor than its part, in proportion to the lanes requested, of what its die may power, which is at most what the package
limit powers; how the limit is divided among the dies, and how many lanes it powers, is the model's choice (log 54). It gates the free clusters of a core
whose harts hold no lanes, which is the model's choice of when an idle one is gated (log 54). The energy of a region is charged
to the context that holds its seats, and one with no quota left is pre-empted at once. A quota is refilled at the end of its
period, less the debt. A hard shrink leaves the logical grant and sets GSTAT, and it leaves memory and the registers as they
were, which is the model's choice (log 46). A wake of clusters stages in 4 steps when the neighbours are cool, or in 16 after
20 µs of waiting, once no neighbour stages or has an earlier request; of two requests made in one cycle that of the lower region
goes first, though the other, which has made no step, had begun, which is the model's reading (log 50). After its last step its clusters are powered, and a wake that waited for it stages. -/
def Obligations.PowerComplete : Prop :=
  (∀ (s : State) (x : PowerReport), x.energy = [] → x.occupancy = [] →
    ∃ t, exec (.budgetRefresh x) s = .next t ∧ t.mem = s.mem ∧ t.harts = s.harts ∧
      ∀ c, c < 256 → (t.core c).lbudget ≤ gcap (s.core c) ∧ (t.core c).lbudget ≤ phaseLanes s c ∧
        let all := ((List.range' (c / 64 * 64) 64).map (requested s)).sum
        let most := match x.shares.find? (·.1 == c / 64) with
          | some e => min e.2 Config.packageLanes
          | none => Config.packageLanes
        (all ≠ 0 → (t.core c).lbudget ≤ most * requested s c / all) ∧
        ∀ k, k < 16 →
          (k ∉ freeClusters (s.core c) → (t.core c).powered.getLsbD k = (s.core c).powered.getLsbD k) ∧
          (k ∈ freeClusters (s.core c) → grantHolders s c = [] → (t.core c).powered.getLsbD k = false)) ∧
  (∀ (s : State) (i uj c k : Nat), regionCore i = some c →
    (∀ n, n ∈ loopsOf s c → heldBy (s.core c) n ≠ [] → (s.hart n).ctx = k) →
    (∃ n, n ∈ loopsOf s c ∧ heldBy (s.core c) n ≠ []) →
    let q := (s.ctx k).equota
    ∃ t, exec (.budgetRefresh ⟨[], [(i, uj)], []⟩) s = .next t ∧ t.mem = s.mem ∧
      (q = BitVec.allOnes 64 → (t.ctx k).equota = q ∧ t.harts = s.harts) ∧
      (q ≠ BitVec.allOnes 64 → uj < q.toNat → (t.ctx k).equota.toNat = q.toNat - uj ∧ (t.ctx k).debt = (s.ctx k).debt ∧
        t.harts = s.harts) ∧
      (q ≠ BitVec.allOnes 64 → q.toNat ≤ uj → (t.ctx k).equota = 0 ∧ (t.ctx k).debt = (s.ctx k).debt + (uj - q.toNat) ∧
        ∀ n, (s.hart n).ctx = k → (s.hart n).task ≠ none → (t.hart n).preempt = some ⟨true, s.time⟩)) ∧
  (∀ (s : State) (c : Nat), (s.ctx c).eperiod ≠ 0 → 100 * fld (s.ctx c).eperiod 0 20 ≤ (s.time - (s.ctx c).period).toNat →
    ∃ t, exec (.quotaRefill c) s = .next t ∧ (t.ctx c).debt = 0 ∧ (t.ctx c).period = s.time ∧
      (t.ctx c).equota = if (s.ctx c).erefill = BitVec.allOnes 64 then (s.ctx c).erefill
        else BitVec.ofNat 64 ((s.ctx c).erefill.toNat - (s.ctx c).debt)) ∧
  (∀ (s : State) (lanes : Nat), 32 < s.me.vec.phys → max lanes 32 < s.me.vec.phys →
    ∃ t, exec (.hardShrink lanes) s = .next t ∧ t.me.vec.phys = max lanes 32 ∧ t.me.vec.lanes = s.me.vec.lanes ∧
      bit t.me.vec.gstat 1 = true ∧ bit t.me.vec.gstat 2 = true ∧ t.me.vec.v = s.me.vec.v ∧ SameGBut s t [] ∧ t.mem = s.mem) ∧
  (∀ (s : State) (e : W), scriptHead s.me.vec = some e → entryKind e = 2 → entryCount e ≤ s.me.vec.scriptDone →
    ∃ t, exec .scriptShrinkCount s = .next t ∧ t.me.vec.scriptDone = 0 ∧
      (∀ e', scriptHead t.me.vec = some e' → entryKind e' = 2 → entryCount e' ≠ 0) ∧
      (1 ≤ entryLanes e → entryLanes e ≤ 512 → entryLanes e < s.me.vec.phys →
        t.me.vec.phys ≤ entryLanes e ∧
        ((∀ e', scriptHead (scriptConsume s.me.vec) = some e' → entryKind e' = 2 → entryCount e' ≠ 0) →
          t.me.vec.phys = entryLanes e))) ∧
  (∀ (s : State) (core : Nat), core < 256 → ilim s (laneRegion core) < (region s (laneRegion core)).igov →
    ∃ t, exec (.currentLimitEmergency core) s = .next t ∧ t.mem = s.mem ∧
      (∀ n, (t.hart n).vec.lanes = (s.hart n).vec.lanes ∧ (t.hart n).vec.phys ≤ (s.hart n).vec.phys) ∧
      ∀ n, coreOf n = core → min 32 (s.hart n).vec.phys ≤ (t.hart n).vec.phys) ∧
  (∀ (s : State) (core : Nat) (k : BitVec 16), (s.core core).wakes = [] →
    let new := k &&& ~~~(s.core core).powered &&& ~~~(s.core core).lanedis
    new ≠ 0 →
    (∀ n, n ∈ neighbourCores core → core < n → ∀ y r, (s.core n).wakes = y :: r → ¬ (y.phase = .staging 4 ∧ y.age = 0)) →
    (neighboursCool s core = false →
      exec (.clusterWakeRequest core k) s = .next (withWakes s core [⟨new, s.time, 0, .current⟩])) ∧
    (neighboursCool s core = true → NextToStage s core 0 →
      exec (.clusterWakeRequest core k) s = .next (withWakes s core [⟨new, s.time, 0, .staging 4⟩])) ∧
    (neighboursCool s core = true → ¬ NextToStage s core 0 →
      exec (.clusterWakeRequest core k) s = .next (withWakes s core [⟨new, s.time, 0, .turn 4⟩]))) ∧
  (∀ (s : State) (core n : Nat) (k k' : BitVec 16) (r : W), (s.core core).wakes = [] → n ∈ neighbourCores core → core < n →
    (s.core n).wakes = [⟨k', r, 0, .staging 4⟩] → (∀ m, m ∈ neighbourCores core → m ≠ n → (s.core m).wakes = []) →
    let new := k &&& ~~~(s.core core).powered &&& ~~~(s.core core).lanedis
    new ≠ 0 → neighboursCool s core = true →
    ∃ t, exec (.clusterWakeRequest core k) s = .next t ∧ (t.core n).wakes = [⟨k', r, 0, .turn 4⟩] ∧
      (t.core core).wakes = [⟨new, s.time, 0, .staging 4⟩]) ∧
  (∀ (s : State) (core a : Nat) (k : BitVec 16) (r : W), (s.core core).wakes = [⟨k, r, a, .current⟩] →
    let late := 2000 ≤ (s.time - r).toNat
    (neighboursCool s core = true → ¬ late → NextToStage s core a →
      exec (.wakeNeighbourClear core) s = .next (withWakes s core [⟨k, r, a, .staging 4⟩])) ∧
    (neighboursCool s core = true → ¬ late → ¬ NextToStage s core a →
      exec (.wakeNeighbourClear core) s = .next (withWakes s core [⟨k, r, a, .turn 4⟩])) ∧
    (late → NextToStage s core a → exec (.wakeWaitTimeout core) s = .next (withWakes s core [⟨k, r, a, .staging 16⟩])) ∧
    (late → ¬ NextToStage s core a → exec (.wakeWaitTimeout core) s = .next (withWakes s core [⟨k, r, a, .turn 16⟩]))) ∧
  (∀ (s : State) (core a n : Nat) (k : BitVec 16) (r : W), (s.core core).wakes = [⟨k, r, a, .staging n⟩] →
    (1 < n → exec (.wakeStageStep core) s = .next (withWakes s core [⟨k, r, a, .staging (n - 1)⟩])) ∧
    (n ≤ 1 → ∃ t, exec (.wakeStageStep core) s = .next t ∧ (t.core core).wakes = [] ∧ t.mem = s.mem ∧
      (t.core core).powered = (s.core core).powered ||| (k &&& ~~~(s.core core).lanedis) ∧
      ∀ near m k' r' a', near ∈ neighbourCores core → (s.core near).wakes = [⟨k', r', a', .turn m⟩] →
        (∀ c, c ≠ core → c ≠ near → (s.core c).wakes = []) → (t.core near).wakes = [⟨k', r', a', .staging m⟩]))

/-- The scheduler (R176, R355, R357, R361, R363, R365, R415 to R417). A READY task is placed on harts that fit: its slot runs,
and each hart begins at the entry at user level with its rank and the arguments in g3; the one rank of a saved task goes on
from its image, or the task stays READY where there are no seats. A task that has waited 1 ms has enough running tasks asked
to give way. A hart asked to give way leaves before its next SETVL, or at once in the immediate form, which applies 100 µs
after the request: its state is in the image that the save table names, its seats are free, and with the last rank its task
is READY. One that has no image to be saved in goes on, and one in a farm stops the farm. That a task which has waited 1 ms goes
before the others, the longest waiting first, is the model's choice (log 55). An idle hart joins a farm as its
next recruit, and so does a further loop context of a hart in the farm, with the mode (R306) and g1 to g23 as they stood at SFSTART and g24 to g31 as
the origin has them, and its own copy of that hart's trap registers, which is the model's choice (log 34). A task some of whose
ranks ended while others were saved counts as a saved one of those ranks, which is the model's reading (log 25). -/
def Obligations.SchedulerComplete : Prop :=
  (∀ (s : State) (ctx n : Nat) (harts : List Nat), s.ckState ≠ 1 → nextPlacement s = some (ctx, n) →
    placementOk s ctx n harts = true → ((s.ctx ctx).slot n).saved = [] →
    let k := (s.ctx ctx).slot n
    ∃ t, exec (.taskPlace ctx n harts) s = .next t ∧ ((t.ctx ctx).slot n).state = .running ∧
      ((t.ctx ctx).slot n).left = List.range (shapeHarts k.shape) ∧
      (∀ rank hart, harts[rank]? = some hart →
        (t.hart hart).run = .running ∧ (t.hart hart).priv = 0 ∧ (t.hart hart).pc = setFld k.entry 0 2 0 ∧
        (t.hart hart).rd 3 = k.args ∧ (t.hart hart).task = some (n, rank) ∧ (t.hart hart).ctx = ctx ∧
        (t.hart hart).vec.lanes = 0) ∧
      ((∀ h, h ∈ harts → carvedAs (s.core (coreOf h)) k.shape = true) →
        t.mem = s.mem ∧ ∀ m, m ∉ harts → t.hart m = s.hart m)) ∧
  (∀ (s u : State) (ctx n rank hart : Nat), s.ckState ≠ 1 → nextPlacement s = some (ctx, n) →
    placementOk s ctx n [hart] = true → ((s.ctx ctx).slot n).saved = [rank] →
    (restoreRank (visitContext s ctx n) ctx n rank hart = .running u →
      exec (.taskPlace ctx n [hart]) s =
        .next (setSlot u ctx n { (s.ctx ctx).slot n with state := .running, left := [rank], saved := [] }) ∧
      (u.hart hart).run = .running ∧ (u.hart hart).task = some (n, rank) ∧ (u.hart hart).priv = 0) ∧
    (restoreRank (visitContext s ctx n) ctx n rank hart = .noSeats →
      exec (.taskPlace ctx n [hart]) s = .next (visitContext s ctx n))) ∧
  (∀ (s : State) (ctx n : Nat) (vs : List (Nat × Nat)), ((s.ctx ctx).slot n).state = .ready → (s.ctx ctx).equota ≠ 0 →
    100000 ≤ (s.time - ((s.ctx ctx).slot n).since).toNat → enough s ctx ((s.ctx ctx).slot n) [] = false →
    victims s ctx ((s.ctx ctx).slot n) = some vs →
    ∃ t, exec (.preemptWaitExpiry ctx n) s = .next t ∧ t.mem = s.mem ∧
      ∀ v h, v ∈ vs → h ∈ hartsOf s v.1 v.2 → (t.hart h).preempt ≠ none) ∧
  (∀ (s u : State) (p : Preempt) (n rank : Nat) (ea : W), s.me.preempt = some p → s.me.run = .running → s.me.farm = none →
    mayLeave s s.cur = true → s.me.task = some (n, rank) → ea.toNat % 4096 = 0 →
    let a := drainAll s s.cur
    let w := fld s.myCtx.csave 1 10
    let width := if w = 0 then s.me.vec.lanes else imageWidth s.me.vec (min w 512)
    let now := stopVector a.me none
    imageAddr a s.cur n rank = some ea →
    (p.immediate = false → s.me.queue = [] →
      (∃ f, nextInstr s s.cur = some (.setvl f)) ∨ (∃ f, nextInstr s s.cur = some (.setvlk f)) →
      writeImage (a.setHart s.cur a.me) s.cur false true ea (imageOf a.me 1 width a.me.pc + imageG a.me) = .ok u →
      ∃ t, exec .stripBoundaryPreempt s = .next t ∧ t.mem = u.mem ∧ HasLeft t s.cur ∧ RankSaved s t s.me.ctx n rank) ∧
    (p.immediate = true →
      writeImage (a.setHart s.cur now) s.cur false true ea (imageOf now 0 now.vec.lanes now.pc + imageG now) = .ok u →
      ∃ t, exec .immediatePreempt s = .next t ∧ t.mem = u.mem ∧ HasLeft t s.cur ∧ RankSaved s t s.me.ctx n rank)) ∧
  (∀ (s : State) (p : Preempt), s.me.preempt = some p → s.me.run = .running → s.me.farm = none → s.me.queue = [] →
    mayLeave s s.cur = true → s.me.task = none →
    (p.immediate = false → (∃ f, nextInstr s s.cur = some (.setvl f)) ∨ (∃ f, nextInstr s s.cur = some (.setvlk f)) →
      ∃ t, exec .stripBoundaryPreempt s = .next t ∧ t.me.preempt = none ∧ t.me.run = .running ∧ t.me.pc = s.me.pc) ∧
    (p.immediate = true → ∃ t, exec .immediatePreempt s = .next t ∧ t.me.preempt = none ∧ t.me.pc = s.me.pc) ∧
    (p.immediate = false → 10000 ≤ (s.time - p.since).toNat →
      exec .stripPreemptTimeout s = .next (s.setMe { s.me with preempt := some { p with immediate := true } }))) ∧
  (∀ (s : State) (p : Preempt) (o i : Nat) (f : Farm), s.me.preempt = some p → s.me.farm = some (o, i) → s.farm? o = some f →
    exec (if p.immediate then .immediatePreempt else .stripBoundaryPreempt) s = .next (s.setFarm o { f with stop := true })) ∧
  (∀ (s : State) (hart : Nat) (f : Farm), s.me.farm = some (s.cur, 0) → s.farm? s.cur = some f → hart ≠ s.cur →
    f.next < f.trip → f.count < f.most → f.stop = false →
    let joins : Prop := ∃ t, exec (.farmRecruit hart) s = .next t ∧ (t.hart hart).run = .running ∧
      (t.hart hart).pc = f.pcStart ∧ (t.hart hart).mode = f.mode ∧ (∀ r, 1 ≤ r → r < 24 → (t.hart hart).rd r = f.gStart.get 0 r) ∧
      (∀ r, 24 ≤ r → r < 32 → (t.hart hart).rd r = s.me.rd r) ∧ (t.hart hart).farm = some (s.cur, f.count) ∧
      (t.hart hart).ctx = s.me.ctx ∧ (t.hart hart).vec.folds = s.me.vec.folds ∧ (t.hart hart).vec.lanes = 0 ∧
      (2048 ≤ hart → (t.hart hart).trap.tbase = (s.hart (hart % 2048)).trap.tbase) ∧
      ∃ f', t.farm? s.cur = some f' ∧ f'.count = f.count + 1 ∧ f'.members = f.members ++ [hart]
    (hart < 2048 → idleHart s hart = true → s.myCtx.allot.getLsbD hart = true →
      (if f.die then dieOfCore (coreOf hart) = dieOfCore (coreOf s.cur) else coreOf hart = coreOf s.cur) →
      keptFree s (overdue s) hart = false → joins) ∧
    (2048 ≤ hart → hart < 32768 → idleLoop s hart = true → hart % 2048 ∈ f.members →
      runsNow (s.hart (hart % 2048)).run = true → (∃ i, (s.hart (hart % 2048)).farm = some (s.cur, i)) → joins))

namespace Sys2Proof.Rules

/-- A remote request that the home device performs, in plain memory with no dirty stash byte. -/
def Served (s : State) (x : RemoteReq) : Prop :=
  s.booted = true ∧ PlainMem s ∧ s.dirty = [] ∧ x.key = none ∧ remoteOk s x = true

/-- A move has ended: it is over, no other is changed, and the one that was to follow it has begun with no line copied (R243,
R245, R246; log 14). -/
def MovesOn (s t : State) (m : Move) : Prop :=
  ∀ y, y ∈ t.moves ↔ (y ∈ s.moves ∧ y.block ≠ m.block) ∨
    ∃ x, m.next = some x ∧ y = ⟨m.block, x, hostShared s m.block, 0, [], none⟩

/-- A word of format S, from its fields (R94). -/
def wordS (op a b c sub fs : Nat) : IWord := BitVec.ofNat 32 (op * 2 ^ 22 + a * 2 ^ 17 + b * 2 ^ 12 + c * 2 ^ 7 + sub * 2 ^ 3 + fs)

/-- A word of formats I and B. -/
def wordI (op a b imm : Nat) : IWord := BitVec.ofNat 32 (op * 2 ^ 22 + a * 2 ^ 17 + b * 2 ^ 12 + imm)

end Sys2Proof.Rules

/-! ### Moves, links, attestation -/

/-- A move of a block between backing slots copies its lines in ascending order, or with write protection in any
order, then commits: the block is backed by the new slot, the move is over, and no byte of memory changes (R245 to
R247); that a move to the other tier, which a new preference asked for meanwhile, then follows it is the model's choice (log 14); a line copied out of a dark die's stacks stays marked (R247, R442). A checkpoint that is stopping tasks suspends it, in step 1 of R456 only, which is the model's reading (log 38).
A request of a remote device is performed at its home device: a load and an atomic answer the bytes that memory held,
a store puts its own, an atomic the value its operation gives and a reducing store's update its sum, and one that was performed before does not act again
(R444, R445). A request leaves by a port that is up when its own goes down, and is kept until it is acknowledged
(R444). A flit that is resent changes nothing but time. -/
def Obligations.MovesAndLinksComplete : Prop :=
  (∀ (s : State) (m : Move), moveOf s m.block false = some m → s.ckState ≠ 1 →
    (m.ptr < 1024 → ∃ t, exec (.migrateLineCopy m.block) s = .next t ∧ t.mem = s.mem ∧ t.backing = s.backing ∧
      moveOf t m.block false = some { m with ptr := m.ptr + 1 } ∧
      ∀ w, w ∈ t.marks ↔ w ∈ s.marks ∨
        (slotDark s (slotOf s m.block) = true ∧ 16384 * m.block + 16 * m.ptr ≤ w ∧ w < 16384 * m.block + 16 * m.ptr + 16)) ∧
    (m.ptr = 1024 → s.lostRuns = [] → ∃ t, exec (.migrateCommit m.block) s = .next t ∧ t.mem = s.mem ∧ slotOf t m.block = m.slot ∧
      (∀ b, b ≠ m.block → slotOf t b = slotOf s b) ∧ MovesOn s t m)) ∧
  (∀ (s : State) (m : Move) (l : Nat), moveOf s m.block true = some m → s.ckState ≠ 1 →
    (l < 1024 → l ∉ m.copied → ∃ t, exec (.wpMigrateLineCopy m.block l) s = .next t ∧ t.mem = s.mem ∧ t.backing = s.backing ∧
      ∃ y, moveOf t m.block true = some y ∧ y.slot = m.slot ∧ ∀ k, k ∈ y.copied ↔ k ∈ m.copied ∨ k = l) ∧
    (m.copied.length = 1024 → s.lostRuns = [] → ∃ t, exec (.wpMigrateCommit m.block) s = .next t ∧ t.mem = s.mem ∧
      slotOf t m.block = m.slot ∧ (∀ b, b ≠ m.block → slotOf t b = slotOf s b) ∧ MovesOn s t m)) ∧
  (∀ (s : State) (x : RemoteReq), Served s x →
    let old := num s.mem x.off x.width
    (x.op = .load → exec (.remoteRequest x) s = .next { s with hostAnswer := some (leBytes x.width old) }) ∧
    (∀ bytes, x.op = .store bytes → bytes.length = x.width → (x.source, x.id) ∉ s.served →
      ∃ t, exec (.remoteRequest x) s = .next t ∧ t.mem = memPuts s.mem x.off bytes ∧ (x.source, x.id) ∈ t.served) ∧
    (∀ op b y, x.op = .amo op b → (x.source, x.id) ∉ s.served →
      remoteAtomic op x.width old (b.toNat % 256 ^ x.width) = some y →
      ∃ t, exec (.remoteRequest x) s = .next t ∧ t.mem = memPuts s.mem x.off (leBytes x.width y) ∧
        t.hostAnswer = some (leBytes x.width old) ∧ (x.source, x.id) ∈ t.served) ∧
    (∀ fw v y, x.op = .redFadd fw v → (x.source, x.id) ∉ s.served → remoteFadd fw x.width (old, false) v = some y →
      y.p = false →
      ∃ t, exec (.remoteRequest x) s = .next t ∧ t.mem = memPuts s.mem x.off (leBytes x.width y.x) ∧
        (x.source, x.id) ∈ t.served) ∧
    (∀ bytes, x.op = .store bytes → (x.source, x.id) ∈ s.served → exec (.remoteRequest x) s = .next s)) ∧
  (∀ (s : State) (x : RemoteReq), s.booted = true → remoteOk s x = false →
    exec (.remoteRequest x) s = .next { s with hostAnswer := none }) ∧
  (∀ (s : State) (port : Nat) (ok : Bool), exec (.flitReceive port ok) s = .next s) ∧
  (∀ (s : State) (port : Nat), port < 16 →
    (∃ t, exec (.portDown port) s = .next t ∧ (∀ n, n < 16 → t.ports.getLsbD n = (s.ports.getLsbD n && n != port)) ∧
      t.mem = s.mem ∧ t.outbox.map (·.id) = s.outbox.map (·.id) ∧
      ∀ r, r ∈ t.outbox → s.routes.get 0 r.device &&& t.ports ≠ 0 → t.ports.getLsbD r.port = true) ∧
    (∃ t, exec (.portUp port) s = .next t ∧ (∀ n, n < 16 → t.ports.getLsbD n = (s.ports.getLsbD n || n == port)) ∧
      t.mem = s.mem ∧ t.outbox.map (·.id) = s.outbox.map (·.id))) ∧
  (∀ (s : State) (id : Nat), ∃ t, exec (.remoteAck id) s = .next t ∧ t.mem = s.mem ∧
    ∀ r, r ∈ t.outbox ↔ r ∈ s.outbox ∧ r.id ≠ id)

/-- The device answers the SPDM requests that R460 lists: a challenge with the nonce and a request for a measurement
with that digest, each signed by the device key over its SHA-512 digest, the digests with the digest of the
certificate chain, the algorithms with P-521 and SHA-512 alone, and any other request with an error. The model's choice (log
32): the bodies are open constants, the device answers in every state, before it boots and after an image that failed its
checks as well, and what is signed is the nonce and the digest alone. -/
def Obligations.AttestationComplete : Prop :=
  ∀ s : State,
    exec .getVersion s = .next { s with spdm := some (.body 1 (Config.spdmBody 1)) } ∧
    exec .getCapabilities s = .next { s with spdm := some (.body 2 (Config.spdmBody 2)) } ∧
    (∀ p h, exec (.negotiateAlgorithms p h) s = .next { s with
      negotiated := p && h, spdm := some (.body 3 (if p = true ∧ h = true then Config.spdmBody 3 else [])) }) ∧
    exec .getDigests s = .next { s with spdm := some (.body 4 (leBytes 64 (sha512 Config.certificate).toNat)) } ∧
    exec .getCertificate s = .next { s with spdm := some (.body 5 Config.certificate) } ∧
    (∀ n : BitVec 256, exec (.challenge n) s = .next { s with
      spdm := some (.signed 6 (leBytes 32 n.toNat) (Config.deviceSign (sha512 (leBytes 32 n.toNat)))) }) ∧
    (∀ i c d, (i = 1 ∧ d = Config.romDigest) ∨ (i = 2 ∧ s.measured2 = some d) ∨ (i = 3 ∧ (s.ctx c).measured = some d) →
      exec (.getMeasurements i c) s = .next { s with
        spdm := some (.signed 7 (leBytes 64 d.toNat) (Config.deviceSign (sha512 (leBytes 64 d.toNat)))) }) ∧
    ∀ x, exec (.unsupportedRequest x) s = .next { s with spdm := some .unsupported }

/-! ### The machine -/

/-- Reset: hart 0 runs at firmware level, every other hart is parked from reset, the g registers and the registers of
the trap chapter are zero but for FTBASE, translation is off, the grant and VL are 0, and nothing is in flight (R49,
R50, R51, R53, R66, R158). The model's choice: the entry address, FTBASE and the empty memory (logs 1 and 5), and that no g
register is poisoned, hart 0 runs and the link and the queue are empty (log 43). -/
def Obligations.ResetMachine : Prop :=
  (State.reset.hart 0).run = .running ∧ State.reset.cur = 0 ∧ (∀ n, n ≠ 0 → (State.reset.hart n).run = .reset) ∧
    (∀ n, let h := State.reset.hart n
      h.priv = 2 ∧ (∀ r, h.rd r = 0 ∧ h.rdP r = false) ∧ h.trap.stat = 2 ∧ h.trap.tbase = 0 ∧ h.trap.epc = 0 ∧
      h.trap.cause = 0 ∧ h.trap.tval = 0 ∧ h.trap.fepc = 0 ∧ h.trap.fcause = 0 ∧ h.trap.ftval = 0 ∧ h.fflags = 0 ∧
      h.vec.lanes = 0 ∧ h.vec.vl = 0 ∧ h.link = none ∧ h.queue = []) ∧
    (∀ c, bit (State.reset.ctx c).atp 63 = false ∧ (State.reset.ctx c).dt = none) ∧ State.reset.time = 0 ∧
    (∀ n, (State.reset.core n).cycle = 0) ∧ State.reset.mem = [] ∧ State.reset.xfers = []

/-- The memory stays in its one canonical form, locations strictly rising and no default byte listed, at every step of
the machine from every state. -/
def Obligations.MemoryStaysCanonical : Prop :=
  (∀ s t : State, memWf s.mem = true → step s = .next t → memWf t.mem = true) ∧ memWf State.reset.mem = true

/-- Words written out field by field from R94 and the opcode table decode to the instructions they stand for. -/
def Obligations.DecodeWordsFromSpec : Prop :=
  decodeWord (wordS 0x001 3 1 2 0 0) = .ok (.add ⟨3, 1, 2, 0, 0⟩) ∧
    decodeWord (wordI 0x019 5 6 0xFFF) = .ok (.addk ⟨5, 6, 0xFFF⟩) ∧
    decodeWord (wordI 0x031 1 2 0xFFE) = .ok (.bne ⟨1, 2, 0xFFE⟩) ∧
    decodeWord (BitVec.ofNat 32 (0x080 * 2 ^ 22 + 7 * 2 ^ 17 + 0x10001)) = .ok (.trap ⟨7, 0x10001⟩) ∧
    decodeWord (BitVec.ofNat 32 (0x108 * 2 ^ 22 + 4 * 2 ^ 17 + 8 * 2 ^ 12 + 12 * 2 ^ 7 + 64 + 1 * 2 ^ 3)) =
      .ok (.vadd ⟨4, 8, 12, 1, 0, 1, 0⟩) ∧
    decodeWord 0 = .err .illegal
end

