-- ==== Sys2Proof/Laws/State.lean ====
section
/-! SUPPORT. What the updates of tables, states and harts leave in each field: no later proof unfolds one. -/

namespace Sys2Proof

namespace Tab

/-- A table read where it was just written. -/
@[simp] theorem get_set_same {α : Type} (d : α) (t : Tab α) (k : Nat) (v : α) : (Tab.set t k v).get d k = v := by
  induction t with
  | nil => simp [Tab.set, Tab.get]
  | cons e r ih =>
    obtain ⟨j, w⟩ := e
    simp only [Tab.set]
    split
    · simp [Tab.get]
    · split
      · simp [Tab.get]
      · rename_i h1 h2
        simp [Tab.get, h2, ih]

/-- A table read elsewhere than it was written. -/
theorem get_set_other {α : Type} (d : α) (t : Tab α) {k i : Nat} (v : α) (h : i ≠ k) :
    (Tab.set t k v).get d i = t.get d i := by
  induction t with
  | nil => simp [Tab.set, Tab.get, h]
  | cons e r ih =>
    obtain ⟨j, w⟩ := e
    simp only [Tab.set]
    split
    · simp [Tab.get, h]
    · split
      · rename_i h1 h2
        subst h2
        simp [Tab.get, h]
      · simp only [Tab.get, ih]

/-- The later of two writes of one entry stands. -/
@[simp] theorem set_set_same {α : Type} (t : Tab α) (k : Nat) (v w : α) : Tab.set (Tab.set t k v) k w = Tab.set t k w := by
  induction t with
  | nil => simp [Tab.set]
  | cons e r ih =>
    obtain ⟨j, x⟩ := e
    by_cases h1 : k < j
    · simp [Tab.set, h1]
    · by_cases h2 : k = j
      · simp [Tab.set, h2]
      · simp [Tab.set, h1, h2, ih]

/-- A key that is listed stays listed. -/
theorem set_listed {α : Type} (t : Tab α) (k : Nat) (v : α) {i : Nat} (h : ∃ x, (i, x) ∈ t) :
    ∃ x, (i, x) ∈ Tab.set t k v := by
  induction t with
  | nil => obtain ⟨x, h⟩ := h; cases h
  | cons e r ih =>
    obtain ⟨j, w⟩ := e
    obtain ⟨x, h⟩ := h
    simp only [Tab.set]
    split
    · exact ⟨x, .tail _ h⟩
    · obtain e | h := List.mem_cons.mp h
      · split
        · next e' => exact ⟨v, by rw [show i = k by rw [e']; exact congrArg Prod.fst e]; exact .head _⟩
        · exact ⟨x, by rw [e]; exact .head _⟩
      · split
        · exact ⟨x, .tail _ h⟩
        · obtain ⟨y, hy⟩ := ih ⟨x, h⟩
          exact ⟨y, .tail _ hy⟩

/-- A table whose entries are changed by their key reads at a listed key as the changed entry. -/
theorem get_map {α : Type} (d : α) (f : Nat → α → α) (t : Tab α) (k : Nat) (h : f k d = d ∨ ∃ x, (k, x) ∈ t) :
    Tab.get d (t.map fun (m, x) => (m, f m x)) k = f k (Tab.get d t k) := by
  induction t with
  | nil =>
    obtain h | ⟨x, h⟩ := h
    · exact h.symm
    · cases h
  | cons e r ih =>
    obtain ⟨m, x⟩ := e
    simp only [List.map_cons, Tab.get]
    split
    · next e => rw [e]
    · next e =>
      refine ih (h.imp_right ?_)
      rintro ⟨y, h⟩
      obtain h | h := List.mem_cons.mp h
      · exact absurd (congrArg Prod.fst h) (by simpa using e)
      · exact ⟨y, h⟩

end Tab

namespace Machine

/-! ### Harts, cores and contexts -/

@[simp] theorem hart_setHart_same (s : State) (n : Nat) (h : Hart) : (s.setHart n h).hart n = h :=
  Tab.get_set_same _ _ _ _

theorem hart_setHart_other (s : State) {n m : Nat} (h : Hart) (e : m ≠ n) : (s.setHart n h).hart m = s.hart m :=
  Tab.get_set_other _ _ _ e

@[simp] theorem me_setMe (s : State) (h : Hart) : (s.setMe h).me = h := Tab.get_set_same _ _ _ _
@[simp] theorem ctx_setMe (s : State) (h : Hart) (n : Nat) : (s.setMe h).ctx n = s.ctx n := rfl

@[simp] theorem setMe_setMe (s : State) (h k : Hart) : (s.setMe h).setMe k = s.setMe k := by
  simp [State.setMe, State.setHart]

theorem hart_setMe_other (s : State) {m : Nat} (h : Hart) (e : m ≠ s.cur) : (s.setMe h).hart m = s.hart m :=
  Tab.get_set_other _ _ _ e

@[simp] theorem core_setCore_same (s : State) (n : Nat) (c : CoreSt) : (s.setCore n c).core n = c :=
  Tab.get_set_same _ _ _ _

theorem core_setCore_other (s : State) {n m : Nat} (c : CoreSt) (e : m ≠ n) : (s.setCore n c).core m = s.core m :=
  Tab.get_set_other _ _ _ e

@[simp] theorem ctx_setCtx_same (s : State) (n : Nat) (c : Context) : (s.setCtx n c).ctx n = c :=
  Tab.get_set_same _ _ _ _

theorem ctx_setCtx_other (s : State) {n m : Nat} (c : Context) (e : m ≠ n) : (s.setCtx n c).ctx m = s.ctx m :=
  Tab.get_set_other _ _ _ e


/-! ### Fields that setHart leaves -/

@[simp] theorem setHart_cores (s : State) (n : Nat) (h : Hart) : (s.setHart n h).cores = s.cores := rfl
@[simp] theorem setHart_contexts (s : State) (n : Nat) (h : Hart) : (s.setHart n h).contexts = s.contexts := rfl
@[simp] theorem setHart_time (s : State) (n : Nat) (h : Hart) : (s.setHart n h).time = s.time := rfl
@[simp] theorem setHart_gens (s : State) (n : Nat) (h : Hart) : (s.setHart n h).gens = s.gens := rfl
@[simp] theorem setHart_mem (s : State) (n : Nat) (h : Hart) : (s.setHart n h).mem = s.mem := rfl
@[simp] theorem setHart_marks (s : State) (n : Nat) (h : Hart) : (s.setHart n h).marks = s.marks := rfl
@[simp] theorem setHart_lineKeys (s : State) (n : Nat) (h : Hart) : (s.setHart n h).lineKeys = s.lineKeys := rfl
@[simp] theorem setHart_tlb (s : State) (n : Nat) (h : Hart) : (s.setHart n h).tlb = s.tlb := rfl
@[simp] theorem setHart_stale (s : State) (n : Nat) (h : Hart) : (s.setHart n h).stale = s.stale := rfl
@[simp] theorem setHart_stash (s : State) (n : Nat) (h : Hart) : (s.setHart n h).stash = s.stash := rfl
@[simp] theorem setHart_dirty (s : State) (n : Nat) (h : Hart) : (s.setHart n h).dirty = s.dirty := rfl
@[simp] theorem setHart_live (s : State) (n : Nat) (h : Hart) : (s.setHart n h).live = s.live := rfl
@[simp] theorem setHart_farms (s : State) (n : Nat) (h : Hart) : (s.setHart n h).farms = s.farms := rfl
@[simp] theorem setHart_xfers (s : State) (n : Nat) (h : Hart) : (s.setHart n h).xfers = s.xfers := rfl
@[simp] theorem setHart_backing (s : State) (n : Nat) (h : Hart) : (s.setHart n h).backing = s.backing := rfl
@[simp] theorem setHart_moves (s : State) (n : Nat) (h : Hart) : (s.setHart n h).moves = s.moves := rfl
@[simp] theorem setHart_owners (s : State) (n : Nat) (h : Hart) : (s.setHart n h).owners = s.owners := rfl
@[simp] theorem setHart_channels (s : State) (n : Nat) (h : Hart) : (s.setHart n h).channels = s.channels := rfl
@[simp] theorem setHart_lostRuns (s : State) (n : Nat) (h : Hart) : (s.setHart n h).lostRuns = s.lostRuns := rfl
@[simp] theorem setHart_errors (s : State) (n : Nat) (h : Hart) : (s.setHart n h).errors = s.errors := rfl
@[simp] theorem setHart_retired (s : State) (n : Nat) (h : Hart) : (s.setHart n h).retired = s.retired := rfl
@[simp] theorem setHart_clusterErrors (s : State) (n : Nat) (h : Hart) : (s.setHart n h).clusterErrors = s.clusterErrors := rfl
@[simp] theorem setHart_regions (s : State) (n : Nat) (h : Hart) : (s.setHart n h).regions = s.regions := rfl
@[simp] theorem setHart_netStep (s : State) (n : Nat) (h : Hart) : (s.setHart n h).netStep = s.netStep := rfl
@[simp] theorem setHart_prsel (s : State) (n : Nat) (h : Hart) : (s.setHart n h).prsel = s.prsel := rfl
@[simp] theorem setHart_svchart (s : State) (n : Nat) (h : Hart) : (s.setHart n h).svchart = s.svchart := rfl
@[simp] theorem setHart_blksel (s : State) (n : Nat) (h : Hart) : (s.setHart n h).blksel = s.blksel := rfl
@[simp] theorem setHart_devid (s : State) (n : Nat) (h : Hart) : (s.setHart n h).devid = s.devid := rfl
@[simp] theorem setHart_devlock (s : State) (n : Nat) (h : Hart) : (s.setHart n h).devlock = s.devlock := rfl
@[simp] theorem setHart_hdmsize (s : State) (n : Nat) (h : Hart) : (s.setHart n h).hdmsize = s.hdmsize := rfl
@[simp] theorem setHart_hdmNext (s : State) (n : Nat) (h : Hart) : (s.setHart n h).hdmNext = s.hdmNext := rfl
@[simp] theorem setHart_hwbase (s : State) (n : Nat) (h : Hart) : (s.setHart n h).hwbase = s.hwbase := rfl
@[simp] theorem setHart_rtsel (s : State) (n : Nat) (h : Hart) : (s.setHart n h).rtsel = s.rtsel := rfl
@[simp] theorem setHart_rtlocal (s : State) (n : Nat) (h : Hart) : (s.setHart n h).rtlocal = s.rtlocal := rfl
@[simp] theorem setHart_routes (s : State) (n : Nat) (h : Hart) : (s.setHart n h).routes = s.routes := rfl
@[simp] theorem setHart_ports (s : State) (n : Nat) (h : Hart) : (s.setHart n h).ports = s.ports := rfl
@[simp] theorem setHart_outbox (s : State) (n : Nat) (h : Hart) : (s.setHart n h).outbox = s.outbox := rfl
@[simp] theorem setHart_keysel (s : State) (n : Nat) (h : Hart) : (s.setHart n h).keysel = s.keysel := rfl
@[simp] theorem setHart_keydat (s : State) (n : Nat) (h : Hart) : (s.setHart n h).keydat = s.keydat := rfl
@[simp] theorem setHart_keys (s : State) (n : Nat) (h : Hart) : (s.setHart n h).keys = s.keys := rfl
@[simp] theorem setHart_cxsel (s : State) (n : Nat) (h : Hart) : (s.setHart n h).cxsel = s.cxsel := rfl
@[simp] theorem setHart_cxaddr (s : State) (n : Nat) (h : Hart) : (s.setHart n h).cxaddr = s.cxaddr := rfl
@[simp] theorem setHart_cxstatus (s : State) (n : Nat) (h : Hart) : (s.setHart n h).cxstatus = s.cxstatus := rfl
@[simp] theorem setHart_linkUp (s : State) (n : Nat) (h : Hart) : (s.setHart n h).linkUp = s.linkUp := rfl
@[simp] theorem setHart_ckState (s : State) (n : Nat) (h : Hart) : (s.setHart n h).ckState = s.ckState := rfl
@[simp] theorem setHart_ckError (s : State) (n : Nat) (h : Hart) : (s.setHart n h).ckError = s.ckError := rfl
@[simp] theorem setHart_ckAddr (s : State) (n : Nat) (h : Hart) : (s.setHart n h).ckAddr = s.ckAddr := rfl
@[simp] theorem setHart_ckPeer (s : State) (n : Nat) (h : Hart) : (s.setHart n h).ckPeer = s.ckPeer := rfl
@[simp] theorem setHart_ckDone (s : State) (n : Nat) (h : Hart) : (s.setHart n h).ckDone = s.ckDone := rfl
@[simp] theorem setHart_ckBlocks (s : State) (n : Nat) (h : Hart) : (s.setHart n h).ckBlocks = s.ckBlocks := rfl
@[simp] theorem setHart_ckNext (s : State) (n : Nat) (h : Hart) : (s.setHart n h).ckNext = s.ckNext := rfl
@[simp] theorem setHart_booted (s : State) (n : Nat) (h : Hart) : (s.setHart n h).booted = s.booted := rfl
@[simp] theorem setHart_trapEntry (s : State) (n : Nat) (h : Hart) : (s.setHart n h).trapEntry = s.trapEntry := rfl
@[simp] theorem setHart_measured2 (s : State) (n : Nat) (h : Hart) : (s.setHart n h).measured2 = s.measured2 := rfl
@[simp] theorem setHart_negotiated (s : State) (n : Nat) (h : Hart) : (s.setHart n h).negotiated = s.negotiated := rfl
@[simp] theorem setHart_spdm (s : State) (n : Nat) (h : Hart) : (s.setHart n h).spdm = s.spdm := rfl
@[simp] theorem setHart_hostAnswer (s : State) (n : Nat) (h : Hart) : (s.setHart n h).hostAnswer = s.hostAnswer := rfl
@[simp] theorem setHart_served (s : State) (n : Nat) (h : Hart) : (s.setHart n h).served = s.served := rfl
@[simp] theorem setHart_visit (s : State) (n : Nat) (h : Hart) : (s.setHart n h).visit = s.visit := rfl
@[simp] theorem setHart_visited (s : State) (n : Nat) (h : Hart) : (s.setHart n h).visited = s.visited := rfl
@[simp] theorem setHart_cur (s : State) (n : Nat) (h : Hart) : (s.setHart n h).cur = s.cur := rfl
@[simp] theorem setHart_schedule (s : State) (n : Nat) (h : Hart) : (s.setHart n h).schedule = s.schedule := rfl
@[simp] theorem setHart_choices (s : State) (n : Nat) (h : Hart) : (s.setHart n h).choices = s.choices := rfl
@[simp] theorem setHart_fresh (s : State) (n : Nat) (h : Hart) : (s.setHart n h).fresh = s.fresh := rfl
@[simp] theorem setHart_uses (s : State) (n : Nat) (h : Hart) : (s.setHart n h).uses = s.uses := rfl
@[simp] theorem setHart_pin (s : State) (n : Nat) (h : Hart) : (s.setHart n h).pin = s.pin := rfl
@[simp] theorem setHart_olds (s : State) (n : Nat) (h : Hart) : (s.setHart n h).olds = s.olds := rfl

/-! ### Fields that setMe leaves -/

@[simp] theorem setMe_cores (s : State) (h : Hart) : (s.setMe h).cores = s.cores := rfl
@[simp] theorem setMe_contexts (s : State) (h : Hart) : (s.setMe h).contexts = s.contexts := rfl
@[simp] theorem setMe_time (s : State) (h : Hart) : (s.setMe h).time = s.time := rfl
@[simp] theorem setMe_gens (s : State) (h : Hart) : (s.setMe h).gens = s.gens := rfl
@[simp] theorem setMe_mem (s : State) (h : Hart) : (s.setMe h).mem = s.mem := rfl
@[simp] theorem setMe_marks (s : State) (h : Hart) : (s.setMe h).marks = s.marks := rfl
@[simp] theorem setMe_lineKeys (s : State) (h : Hart) : (s.setMe h).lineKeys = s.lineKeys := rfl
@[simp] theorem setMe_tlb (s : State) (h : Hart) : (s.setMe h).tlb = s.tlb := rfl
@[simp] theorem setMe_stale (s : State) (h : Hart) : (s.setMe h).stale = s.stale := rfl
@[simp] theorem setMe_stash (s : State) (h : Hart) : (s.setMe h).stash = s.stash := rfl
@[simp] theorem setMe_dirty (s : State) (h : Hart) : (s.setMe h).dirty = s.dirty := rfl
@[simp] theorem setMe_live (s : State) (h : Hart) : (s.setMe h).live = s.live := rfl
@[simp] theorem setMe_farms (s : State) (h : Hart) : (s.setMe h).farms = s.farms := rfl
@[simp] theorem setMe_xfers (s : State) (h : Hart) : (s.setMe h).xfers = s.xfers := rfl
@[simp] theorem setMe_backing (s : State) (h : Hart) : (s.setMe h).backing = s.backing := rfl
@[simp] theorem setMe_moves (s : State) (h : Hart) : (s.setMe h).moves = s.moves := rfl
@[simp] theorem setMe_owners (s : State) (h : Hart) : (s.setMe h).owners = s.owners := rfl
@[simp] theorem setMe_channels (s : State) (h : Hart) : (s.setMe h).channels = s.channels := rfl
@[simp] theorem setMe_lostRuns (s : State) (h : Hart) : (s.setMe h).lostRuns = s.lostRuns := rfl
@[simp] theorem setMe_errors (s : State) (h : Hart) : (s.setMe h).errors = s.errors := rfl
@[simp] theorem setMe_retired (s : State) (h : Hart) : (s.setMe h).retired = s.retired := rfl
@[simp] theorem setMe_clusterErrors (s : State) (h : Hart) : (s.setMe h).clusterErrors = s.clusterErrors := rfl
@[simp] theorem setMe_regions (s : State) (h : Hart) : (s.setMe h).regions = s.regions := rfl
@[simp] theorem setMe_netStep (s : State) (h : Hart) : (s.setMe h).netStep = s.netStep := rfl
@[simp] theorem setMe_prsel (s : State) (h : Hart) : (s.setMe h).prsel = s.prsel := rfl
@[simp] theorem setMe_svchart (s : State) (h : Hart) : (s.setMe h).svchart = s.svchart := rfl
@[simp] theorem setMe_blksel (s : State) (h : Hart) : (s.setMe h).blksel = s.blksel := rfl
@[simp] theorem setMe_devid (s : State) (h : Hart) : (s.setMe h).devid = s.devid := rfl
@[simp] theorem setMe_devlock (s : State) (h : Hart) : (s.setMe h).devlock = s.devlock := rfl
@[simp] theorem setMe_hdmsize (s : State) (h : Hart) : (s.setMe h).hdmsize = s.hdmsize := rfl
@[simp] theorem setMe_hdmNext (s : State) (h : Hart) : (s.setMe h).hdmNext = s.hdmNext := rfl
@[simp] theorem setMe_hwbase (s : State) (h : Hart) : (s.setMe h).hwbase = s.hwbase := rfl
@[simp] theorem setMe_rtsel (s : State) (h : Hart) : (s.setMe h).rtsel = s.rtsel := rfl
@[simp] theorem setMe_rtlocal (s : State) (h : Hart) : (s.setMe h).rtlocal = s.rtlocal := rfl
@[simp] theorem setMe_routes (s : State) (h : Hart) : (s.setMe h).routes = s.routes := rfl
@[simp] theorem setMe_ports (s : State) (h : Hart) : (s.setMe h).ports = s.ports := rfl
@[simp] theorem setMe_outbox (s : State) (h : Hart) : (s.setMe h).outbox = s.outbox := rfl
@[simp] theorem setMe_keysel (s : State) (h : Hart) : (s.setMe h).keysel = s.keysel := rfl
@[simp] theorem setMe_keydat (s : State) (h : Hart) : (s.setMe h).keydat = s.keydat := rfl
@[simp] theorem setMe_keys (s : State) (h : Hart) : (s.setMe h).keys = s.keys := rfl
@[simp] theorem setMe_cxsel (s : State) (h : Hart) : (s.setMe h).cxsel = s.cxsel := rfl
@[simp] theorem setMe_cxaddr (s : State) (h : Hart) : (s.setMe h).cxaddr = s.cxaddr := rfl
@[simp] theorem setMe_cxstatus (s : State) (h : Hart) : (s.setMe h).cxstatus = s.cxstatus := rfl
@[simp] theorem setMe_linkUp (s : State) (h : Hart) : (s.setMe h).linkUp = s.linkUp := rfl
@[simp] theorem setMe_ckState (s : State) (h : Hart) : (s.setMe h).ckState = s.ckState := rfl
@[simp] theorem setMe_ckError (s : State) (h : Hart) : (s.setMe h).ckError = s.ckError := rfl
@[simp] theorem setMe_ckAddr (s : State) (h : Hart) : (s.setMe h).ckAddr = s.ckAddr := rfl
@[simp] theorem setMe_ckPeer (s : State) (h : Hart) : (s.setMe h).ckPeer = s.ckPeer := rfl
@[simp] theorem setMe_ckDone (s : State) (h : Hart) : (s.setMe h).ckDone = s.ckDone := rfl
@[simp] theorem setMe_ckBlocks (s : State) (h : Hart) : (s.setMe h).ckBlocks = s.ckBlocks := rfl
@[simp] theorem setMe_ckNext (s : State) (h : Hart) : (s.setMe h).ckNext = s.ckNext := rfl
@[simp] theorem setMe_booted (s : State) (h : Hart) : (s.setMe h).booted = s.booted := rfl
@[simp] theorem setMe_trapEntry (s : State) (h : Hart) : (s.setMe h).trapEntry = s.trapEntry := rfl
@[simp] theorem setMe_measured2 (s : State) (h : Hart) : (s.setMe h).measured2 = s.measured2 := rfl
@[simp] theorem setMe_negotiated (s : State) (h : Hart) : (s.setMe h).negotiated = s.negotiated := rfl
@[simp] theorem setMe_spdm (s : State) (h : Hart) : (s.setMe h).spdm = s.spdm := rfl
@[simp] theorem setMe_hostAnswer (s : State) (h : Hart) : (s.setMe h).hostAnswer = s.hostAnswer := rfl
@[simp] theorem setMe_served (s : State) (h : Hart) : (s.setMe h).served = s.served := rfl
@[simp] theorem setMe_visit (s : State) (h : Hart) : (s.setMe h).visit = s.visit := rfl
@[simp] theorem setMe_visited (s : State) (h : Hart) : (s.setMe h).visited = s.visited := rfl
@[simp] theorem setMe_cur (s : State) (h : Hart) : (s.setMe h).cur = s.cur := rfl
@[simp] theorem setMe_schedule (s : State) (h : Hart) : (s.setMe h).schedule = s.schedule := rfl
@[simp] theorem setMe_choices (s : State) (h : Hart) : (s.setMe h).choices = s.choices := rfl
@[simp] theorem setMe_fresh (s : State) (h : Hart) : (s.setMe h).fresh = s.fresh := rfl
@[simp] theorem setMe_uses (s : State) (h : Hart) : (s.setMe h).uses = s.uses := rfl
@[simp] theorem setMe_pin (s : State) (h : Hart) : (s.setMe h).pin = s.pin := rfl
@[simp] theorem setMe_olds (s : State) (h : Hart) : (s.setMe h).olds = s.olds := rfl

/-! ### Fields that setCore leaves -/

@[simp] theorem setCore_harts (s : State) (n : Nat) (c : CoreSt) : (s.setCore n c).harts = s.harts := rfl
@[simp] theorem setCore_contexts (s : State) (n : Nat) (c : CoreSt) : (s.setCore n c).contexts = s.contexts := rfl
@[simp] theorem setCore_time (s : State) (n : Nat) (c : CoreSt) : (s.setCore n c).time = s.time := rfl
@[simp] theorem setCore_gens (s : State) (n : Nat) (c : CoreSt) : (s.setCore n c).gens = s.gens := rfl
@[simp] theorem setCore_mem (s : State) (n : Nat) (c : CoreSt) : (s.setCore n c).mem = s.mem := rfl
@[simp] theorem setCore_marks (s : State) (n : Nat) (c : CoreSt) : (s.setCore n c).marks = s.marks := rfl
@[simp] theorem setCore_lineKeys (s : State) (n : Nat) (c : CoreSt) : (s.setCore n c).lineKeys = s.lineKeys := rfl
@[simp] theorem setCore_tlb (s : State) (n : Nat) (c : CoreSt) : (s.setCore n c).tlb = s.tlb := rfl
@[simp] theorem setCore_stale (s : State) (n : Nat) (c : CoreSt) : (s.setCore n c).stale = s.stale := rfl
@[simp] theorem setCore_stash (s : State) (n : Nat) (c : CoreSt) : (s.setCore n c).stash = s.stash := rfl
@[simp] theorem setCore_dirty (s : State) (n : Nat) (c : CoreSt) : (s.setCore n c).dirty = s.dirty := rfl
@[simp] theorem setCore_live (s : State) (n : Nat) (c : CoreSt) : (s.setCore n c).live = s.live := rfl
@[simp] theorem setCore_farms (s : State) (n : Nat) (c : CoreSt) : (s.setCore n c).farms = s.farms := rfl
@[simp] theorem setCore_xfers (s : State) (n : Nat) (c : CoreSt) : (s.setCore n c).xfers = s.xfers := rfl
@[simp] theorem setCore_backing (s : State) (n : Nat) (c : CoreSt) : (s.setCore n c).backing = s.backing := rfl
@[simp] theorem setCore_moves (s : State) (n : Nat) (c : CoreSt) : (s.setCore n c).moves = s.moves := rfl
@[simp] theorem setCore_owners (s : State) (n : Nat) (c : CoreSt) : (s.setCore n c).owners = s.owners := rfl
@[simp] theorem setCore_channels (s : State) (n : Nat) (c : CoreSt) : (s.setCore n c).channels = s.channels := rfl
@[simp] theorem setCore_lostRuns (s : State) (n : Nat) (c : CoreSt) : (s.setCore n c).lostRuns = s.lostRuns := rfl
@[simp] theorem setCore_errors (s : State) (n : Nat) (c : CoreSt) : (s.setCore n c).errors = s.errors := rfl
@[simp] theorem setCore_retired (s : State) (n : Nat) (c : CoreSt) : (s.setCore n c).retired = s.retired := rfl
@[simp] theorem setCore_clusterErrors (s : State) (n : Nat) (c : CoreSt) : (s.setCore n c).clusterErrors = s.clusterErrors := rfl
@[simp] theorem setCore_regions (s : State) (n : Nat) (c : CoreSt) : (s.setCore n c).regions = s.regions := rfl
@[simp] theorem setCore_netStep (s : State) (n : Nat) (c : CoreSt) : (s.setCore n c).netStep = s.netStep := rfl
@[simp] theorem setCore_prsel (s : State) (n : Nat) (c : CoreSt) : (s.setCore n c).prsel = s.prsel := rfl
@[simp] theorem setCore_svchart (s : State) (n : Nat) (c : CoreSt) : (s.setCore n c).svchart = s.svchart := rfl
@[simp] theorem setCore_blksel (s : State) (n : Nat) (c : CoreSt) : (s.setCore n c).blksel = s.blksel := rfl
@[simp] theorem setCore_devid (s : State) (n : Nat) (c : CoreSt) : (s.setCore n c).devid = s.devid := rfl
@[simp] theorem setCore_devlock (s : State) (n : Nat) (c : CoreSt) : (s.setCore n c).devlock = s.devlock := rfl
@[simp] theorem setCore_hdmsize (s : State) (n : Nat) (c : CoreSt) : (s.setCore n c).hdmsize = s.hdmsize := rfl
@[simp] theorem setCore_hdmNext (s : State) (n : Nat) (c : CoreSt) : (s.setCore n c).hdmNext = s.hdmNext := rfl
@[simp] theorem setCore_hwbase (s : State) (n : Nat) (c : CoreSt) : (s.setCore n c).hwbase = s.hwbase := rfl
@[simp] theorem setCore_rtsel (s : State) (n : Nat) (c : CoreSt) : (s.setCore n c).rtsel = s.rtsel := rfl
@[simp] theorem setCore_rtlocal (s : State) (n : Nat) (c : CoreSt) : (s.setCore n c).rtlocal = s.rtlocal := rfl
@[simp] theorem setCore_routes (s : State) (n : Nat) (c : CoreSt) : (s.setCore n c).routes = s.routes := rfl
@[simp] theorem setCore_ports (s : State) (n : Nat) (c : CoreSt) : (s.setCore n c).ports = s.ports := rfl
@[simp] theorem setCore_outbox (s : State) (n : Nat) (c : CoreSt) : (s.setCore n c).outbox = s.outbox := rfl
@[simp] theorem setCore_keysel (s : State) (n : Nat) (c : CoreSt) : (s.setCore n c).keysel = s.keysel := rfl
@[simp] theorem setCore_keydat (s : State) (n : Nat) (c : CoreSt) : (s.setCore n c).keydat = s.keydat := rfl
@[simp] theorem setCore_keys (s : State) (n : Nat) (c : CoreSt) : (s.setCore n c).keys = s.keys := rfl
@[simp] theorem setCore_cxsel (s : State) (n : Nat) (c : CoreSt) : (s.setCore n c).cxsel = s.cxsel := rfl
@[simp] theorem setCore_cxaddr (s : State) (n : Nat) (c : CoreSt) : (s.setCore n c).cxaddr = s.cxaddr := rfl
@[simp] theorem setCore_cxstatus (s : State) (n : Nat) (c : CoreSt) : (s.setCore n c).cxstatus = s.cxstatus := rfl
@[simp] theorem setCore_linkUp (s : State) (n : Nat) (c : CoreSt) : (s.setCore n c).linkUp = s.linkUp := rfl
@[simp] theorem setCore_ckState (s : State) (n : Nat) (c : CoreSt) : (s.setCore n c).ckState = s.ckState := rfl
@[simp] theorem setCore_ckError (s : State) (n : Nat) (c : CoreSt) : (s.setCore n c).ckError = s.ckError := rfl
@[simp] theorem setCore_ckAddr (s : State) (n : Nat) (c : CoreSt) : (s.setCore n c).ckAddr = s.ckAddr := rfl
@[simp] theorem setCore_ckPeer (s : State) (n : Nat) (c : CoreSt) : (s.setCore n c).ckPeer = s.ckPeer := rfl
@[simp] theorem setCore_ckDone (s : State) (n : Nat) (c : CoreSt) : (s.setCore n c).ckDone = s.ckDone := rfl
@[simp] theorem setCore_ckBlocks (s : State) (n : Nat) (c : CoreSt) : (s.setCore n c).ckBlocks = s.ckBlocks := rfl
@[simp] theorem setCore_ckNext (s : State) (n : Nat) (c : CoreSt) : (s.setCore n c).ckNext = s.ckNext := rfl
@[simp] theorem setCore_booted (s : State) (n : Nat) (c : CoreSt) : (s.setCore n c).booted = s.booted := rfl
@[simp] theorem setCore_trapEntry (s : State) (n : Nat) (c : CoreSt) : (s.setCore n c).trapEntry = s.trapEntry := rfl
@[simp] theorem setCore_measured2 (s : State) (n : Nat) (c : CoreSt) : (s.setCore n c).measured2 = s.measured2 := rfl
@[simp] theorem setCore_negotiated (s : State) (n : Nat) (c : CoreSt) : (s.setCore n c).negotiated = s.negotiated := rfl
@[simp] theorem setCore_spdm (s : State) (n : Nat) (c : CoreSt) : (s.setCore n c).spdm = s.spdm := rfl
@[simp] theorem setCore_hostAnswer (s : State) (n : Nat) (c : CoreSt) : (s.setCore n c).hostAnswer = s.hostAnswer := rfl
@[simp] theorem setCore_served (s : State) (n : Nat) (c : CoreSt) : (s.setCore n c).served = s.served := rfl
@[simp] theorem setCore_visit (s : State) (n : Nat) (c : CoreSt) : (s.setCore n c).visit = s.visit := rfl
@[simp] theorem setCore_visited (s : State) (n : Nat) (c : CoreSt) : (s.setCore n c).visited = s.visited := rfl
@[simp] theorem setCore_cur (s : State) (n : Nat) (c : CoreSt) : (s.setCore n c).cur = s.cur := rfl
@[simp] theorem setCore_schedule (s : State) (n : Nat) (c : CoreSt) : (s.setCore n c).schedule = s.schedule := rfl
@[simp] theorem setCore_choices (s : State) (n : Nat) (c : CoreSt) : (s.setCore n c).choices = s.choices := rfl
@[simp] theorem setCore_fresh (s : State) (n : Nat) (c : CoreSt) : (s.setCore n c).fresh = s.fresh := rfl
@[simp] theorem setCore_uses (s : State) (n : Nat) (c : CoreSt) : (s.setCore n c).uses = s.uses := rfl
@[simp] theorem setCore_pin (s : State) (n : Nat) (c : CoreSt) : (s.setCore n c).pin = s.pin := rfl
@[simp] theorem setCore_olds (s : State) (n : Nat) (c : CoreSt) : (s.setCore n c).olds = s.olds := rfl

/-! ### Fields that setCtx leaves -/

@[simp] theorem setCtx_harts (s : State) (n : Nat) (c : Context) : (s.setCtx n c).harts = s.harts := rfl
@[simp] theorem setCtx_cores (s : State) (n : Nat) (c : Context) : (s.setCtx n c).cores = s.cores := rfl
@[simp] theorem setCtx_time (s : State) (n : Nat) (c : Context) : (s.setCtx n c).time = s.time := rfl
@[simp] theorem setCtx_gens (s : State) (n : Nat) (c : Context) : (s.setCtx n c).gens = s.gens := rfl
@[simp] theorem setCtx_mem (s : State) (n : Nat) (c : Context) : (s.setCtx n c).mem = s.mem := rfl
@[simp] theorem setCtx_marks (s : State) (n : Nat) (c : Context) : (s.setCtx n c).marks = s.marks := rfl
@[simp] theorem setCtx_lineKeys (s : State) (n : Nat) (c : Context) : (s.setCtx n c).lineKeys = s.lineKeys := rfl
@[simp] theorem setCtx_tlb (s : State) (n : Nat) (c : Context) : (s.setCtx n c).tlb = s.tlb := rfl
@[simp] theorem setCtx_stale (s : State) (n : Nat) (c : Context) : (s.setCtx n c).stale = s.stale := rfl
@[simp] theorem setCtx_stash (s : State) (n : Nat) (c : Context) : (s.setCtx n c).stash = s.stash := rfl
@[simp] theorem setCtx_dirty (s : State) (n : Nat) (c : Context) : (s.setCtx n c).dirty = s.dirty := rfl
@[simp] theorem setCtx_live (s : State) (n : Nat) (c : Context) : (s.setCtx n c).live = s.live := rfl
@[simp] theorem setCtx_farms (s : State) (n : Nat) (c : Context) : (s.setCtx n c).farms = s.farms := rfl
@[simp] theorem setCtx_xfers (s : State) (n : Nat) (c : Context) : (s.setCtx n c).xfers = s.xfers := rfl
@[simp] theorem setCtx_backing (s : State) (n : Nat) (c : Context) : (s.setCtx n c).backing = s.backing := rfl
@[simp] theorem setCtx_moves (s : State) (n : Nat) (c : Context) : (s.setCtx n c).moves = s.moves := rfl
@[simp] theorem setCtx_owners (s : State) (n : Nat) (c : Context) : (s.setCtx n c).owners = s.owners := rfl
@[simp] theorem setCtx_channels (s : State) (n : Nat) (c : Context) : (s.setCtx n c).channels = s.channels := rfl
@[simp] theorem setCtx_lostRuns (s : State) (n : Nat) (c : Context) : (s.setCtx n c).lostRuns = s.lostRuns := rfl
@[simp] theorem setCtx_errors (s : State) (n : Nat) (c : Context) : (s.setCtx n c).errors = s.errors := rfl
@[simp] theorem setCtx_retired (s : State) (n : Nat) (c : Context) : (s.setCtx n c).retired = s.retired := rfl
@[simp] theorem setCtx_clusterErrors (s : State) (n : Nat) (c : Context) : (s.setCtx n c).clusterErrors = s.clusterErrors := rfl
@[simp] theorem setCtx_regions (s : State) (n : Nat) (c : Context) : (s.setCtx n c).regions = s.regions := rfl
@[simp] theorem setCtx_netStep (s : State) (n : Nat) (c : Context) : (s.setCtx n c).netStep = s.netStep := rfl
@[simp] theorem setCtx_prsel (s : State) (n : Nat) (c : Context) : (s.setCtx n c).prsel = s.prsel := rfl
@[simp] theorem setCtx_svchart (s : State) (n : Nat) (c : Context) : (s.setCtx n c).svchart = s.svchart := rfl
@[simp] theorem setCtx_blksel (s : State) (n : Nat) (c : Context) : (s.setCtx n c).blksel = s.blksel := rfl
@[simp] theorem setCtx_devid (s : State) (n : Nat) (c : Context) : (s.setCtx n c).devid = s.devid := rfl
@[simp] theorem setCtx_devlock (s : State) (n : Nat) (c : Context) : (s.setCtx n c).devlock = s.devlock := rfl
@[simp] theorem setCtx_hdmsize (s : State) (n : Nat) (c : Context) : (s.setCtx n c).hdmsize = s.hdmsize := rfl
@[simp] theorem setCtx_hdmNext (s : State) (n : Nat) (c : Context) : (s.setCtx n c).hdmNext = s.hdmNext := rfl
@[simp] theorem setCtx_hwbase (s : State) (n : Nat) (c : Context) : (s.setCtx n c).hwbase = s.hwbase := rfl
@[simp] theorem setCtx_rtsel (s : State) (n : Nat) (c : Context) : (s.setCtx n c).rtsel = s.rtsel := rfl
@[simp] theorem setCtx_rtlocal (s : State) (n : Nat) (c : Context) : (s.setCtx n c).rtlocal = s.rtlocal := rfl
@[simp] theorem setCtx_routes (s : State) (n : Nat) (c : Context) : (s.setCtx n c).routes = s.routes := rfl
@[simp] theorem setCtx_ports (s : State) (n : Nat) (c : Context) : (s.setCtx n c).ports = s.ports := rfl
@[simp] theorem setCtx_outbox (s : State) (n : Nat) (c : Context) : (s.setCtx n c).outbox = s.outbox := rfl
@[simp] theorem setCtx_keysel (s : State) (n : Nat) (c : Context) : (s.setCtx n c).keysel = s.keysel := rfl
@[simp] theorem setCtx_keydat (s : State) (n : Nat) (c : Context) : (s.setCtx n c).keydat = s.keydat := rfl
@[simp] theorem setCtx_keys (s : State) (n : Nat) (c : Context) : (s.setCtx n c).keys = s.keys := rfl
@[simp] theorem setCtx_cxsel (s : State) (n : Nat) (c : Context) : (s.setCtx n c).cxsel = s.cxsel := rfl
@[simp] theorem setCtx_cxaddr (s : State) (n : Nat) (c : Context) : (s.setCtx n c).cxaddr = s.cxaddr := rfl
@[simp] theorem setCtx_cxstatus (s : State) (n : Nat) (c : Context) : (s.setCtx n c).cxstatus = s.cxstatus := rfl
@[simp] theorem setCtx_linkUp (s : State) (n : Nat) (c : Context) : (s.setCtx n c).linkUp = s.linkUp := rfl
@[simp] theorem setCtx_ckState (s : State) (n : Nat) (c : Context) : (s.setCtx n c).ckState = s.ckState := rfl
@[simp] theorem setCtx_ckError (s : State) (n : Nat) (c : Context) : (s.setCtx n c).ckError = s.ckError := rfl
@[simp] theorem setCtx_ckAddr (s : State) (n : Nat) (c : Context) : (s.setCtx n c).ckAddr = s.ckAddr := rfl
@[simp] theorem setCtx_ckPeer (s : State) (n : Nat) (c : Context) : (s.setCtx n c).ckPeer = s.ckPeer := rfl
@[simp] theorem setCtx_ckDone (s : State) (n : Nat) (c : Context) : (s.setCtx n c).ckDone = s.ckDone := rfl
@[simp] theorem setCtx_ckBlocks (s : State) (n : Nat) (c : Context) : (s.setCtx n c).ckBlocks = s.ckBlocks := rfl
@[simp] theorem setCtx_ckNext (s : State) (n : Nat) (c : Context) : (s.setCtx n c).ckNext = s.ckNext := rfl
@[simp] theorem setCtx_booted (s : State) (n : Nat) (c : Context) : (s.setCtx n c).booted = s.booted := rfl
@[simp] theorem setCtx_trapEntry (s : State) (n : Nat) (c : Context) : (s.setCtx n c).trapEntry = s.trapEntry := rfl
@[simp] theorem setCtx_measured2 (s : State) (n : Nat) (c : Context) : (s.setCtx n c).measured2 = s.measured2 := rfl
@[simp] theorem setCtx_negotiated (s : State) (n : Nat) (c : Context) : (s.setCtx n c).negotiated = s.negotiated := rfl
@[simp] theorem setCtx_spdm (s : State) (n : Nat) (c : Context) : (s.setCtx n c).spdm = s.spdm := rfl
@[simp] theorem setCtx_hostAnswer (s : State) (n : Nat) (c : Context) : (s.setCtx n c).hostAnswer = s.hostAnswer := rfl
@[simp] theorem setCtx_served (s : State) (n : Nat) (c : Context) : (s.setCtx n c).served = s.served := rfl
@[simp] theorem setCtx_visit (s : State) (n : Nat) (c : Context) : (s.setCtx n c).visit = s.visit := rfl
@[simp] theorem setCtx_visited (s : State) (n : Nat) (c : Context) : (s.setCtx n c).visited = s.visited := rfl
@[simp] theorem setCtx_cur (s : State) (n : Nat) (c : Context) : (s.setCtx n c).cur = s.cur := rfl
@[simp] theorem setCtx_schedule (s : State) (n : Nat) (c : Context) : (s.setCtx n c).schedule = s.schedule := rfl
@[simp] theorem setCtx_choices (s : State) (n : Nat) (c : Context) : (s.setCtx n c).choices = s.choices := rfl
@[simp] theorem setCtx_fresh (s : State) (n : Nat) (c : Context) : (s.setCtx n c).fresh = s.fresh := rfl
@[simp] theorem setCtx_uses (s : State) (n : Nat) (c : Context) : (s.setCtx n c).uses = s.uses := rfl
@[simp] theorem setCtx_pin (s : State) (n : Nat) (c : Context) : (s.setCtx n c).pin = s.pin := rfl
@[simp] theorem setCtx_olds (s : State) (n : Nat) (c : Context) : (s.setCtx n c).olds = s.olds := rfl

/-! ### Fields that adv, addFlags and wrP leave -/

@[simp] theorem adv_run (h : Hart) : h.adv.run = h.run := rfl
@[simp] theorem adv_g (h : Hart) : h.adv.g = h.g := rfl
@[simp] theorem adv_gpois (h : Hart) : h.adv.gpois = h.gpois := rfl
@[simp] theorem adv_gwait (h : Hart) : h.adv.gwait = h.gwait := rfl
@[simp] theorem adv_fflags (h : Hart) : h.adv.fflags = h.fflags := rfl
@[simp] theorem adv_trap (h : Hart) : h.adv.trap = h.trap := rfl
@[simp] theorem adv_link (h : Hart) : h.adv.link = h.link := rfl
@[simp] theorem adv_vec (h : Hart) : h.adv.vec = h.vec := rfl
@[simp] theorem adv_flt (h : Hart) : h.adv.flt = h.flt := rfl
@[simp] theorem adv_queue (h : Hart) : h.adv.queue = h.queue := rfl
@[simp] theorem adv_mode (h : Hart) : h.adv.mode = h.mode := rfl
@[simp] theorem adv_tapeptr (h : Hart) : h.adv.tapeptr = h.tapeptr := rfl
@[simp] theorem adv_tapelim (h : Hart) : h.adv.tapelim = h.tapelim := rfl
@[simp] theorem adv_tapebase (h : Hart) : h.adv.tapebase = h.tapebase := rfl
@[simp] theorem adv_lwin (h : Hart) : h.adv.lwin = h.lwin := rfl
@[simp] theorem adv_drawers (h : Hart) : h.adv.drawers = h.drawers := rfl
@[simp] theorem adv_ctx (h : Hart) : h.adv.ctx = h.ctx := rfl
@[simp] theorem adv_task (h : Hart) : h.adv.task = h.task := rfl
@[simp] theorem adv_farm (h : Hart) : h.adv.farm = h.farm := rfl
@[simp] theorem adv_wake (h : Hart) : h.adv.wake = h.wake := rfl
@[simp] theorem adv_preempt (h : Hart) : h.adv.preempt = h.preempt := rfl
@[simp] theorem adv_ir (h : Hart) : h.adv.ir = h.ir := rfl
@[simp] theorem adv_iseen (h : Hart) : h.adv.iseen = h.iseen := rfl
@[simp] theorem adv_pc (h : Hart) : h.adv.pc = nextPc h.pc := rfl
@[simp] theorem addFlags_run (h : Hart) (x : Flags) : (h.addFlags x).run = h.run := rfl
@[simp] theorem addFlags_pc (h : Hart) (x : Flags) : (h.addFlags x).pc = h.pc := rfl
@[simp] theorem addFlags_g (h : Hart) (x : Flags) : (h.addFlags x).g = h.g := rfl
@[simp] theorem addFlags_gpois (h : Hart) (x : Flags) : (h.addFlags x).gpois = h.gpois := rfl
@[simp] theorem addFlags_gwait (h : Hart) (x : Flags) : (h.addFlags x).gwait = h.gwait := rfl
@[simp] theorem addFlags_trap (h : Hart) (x : Flags) : (h.addFlags x).trap = h.trap := rfl
@[simp] theorem addFlags_link (h : Hart) (x : Flags) : (h.addFlags x).link = h.link := rfl
@[simp] theorem addFlags_vec (h : Hart) (x : Flags) : (h.addFlags x).vec = h.vec := rfl
@[simp] theorem addFlags_flt (h : Hart) (x : Flags) : (h.addFlags x).flt = h.flt := rfl
@[simp] theorem addFlags_queue (h : Hart) (x : Flags) : (h.addFlags x).queue = h.queue := rfl
@[simp] theorem addFlags_mode (h : Hart) (x : Flags) : (h.addFlags x).mode = h.mode := rfl
@[simp] theorem addFlags_tapeptr (h : Hart) (x : Flags) : (h.addFlags x).tapeptr = h.tapeptr := rfl
@[simp] theorem addFlags_tapelim (h : Hart) (x : Flags) : (h.addFlags x).tapelim = h.tapelim := rfl
@[simp] theorem addFlags_tapebase (h : Hart) (x : Flags) : (h.addFlags x).tapebase = h.tapebase := rfl
@[simp] theorem addFlags_lwin (h : Hart) (x : Flags) : (h.addFlags x).lwin = h.lwin := rfl
@[simp] theorem addFlags_drawers (h : Hart) (x : Flags) : (h.addFlags x).drawers = h.drawers := rfl
@[simp] theorem addFlags_ctx (h : Hart) (x : Flags) : (h.addFlags x).ctx = h.ctx := rfl
@[simp] theorem addFlags_task (h : Hart) (x : Flags) : (h.addFlags x).task = h.task := rfl
@[simp] theorem addFlags_farm (h : Hart) (x : Flags) : (h.addFlags x).farm = h.farm := rfl
@[simp] theorem addFlags_wake (h : Hart) (x : Flags) : (h.addFlags x).wake = h.wake := rfl
@[simp] theorem addFlags_preempt (h : Hart) (x : Flags) : (h.addFlags x).preempt = h.preempt := rfl
@[simp] theorem addFlags_ir (h : Hart) (x : Flags) : (h.addFlags x).ir = h.ir := rfl
@[simp] theorem addFlags_iseen (h : Hart) (x : Flags) : (h.addFlags x).iseen = h.iseen := rfl
@[simp] theorem addFlags_fflags (h : Hart) (x : Flags) : (h.addFlags x).fflags = h.fflags ||| x := rfl
@[simp] theorem wrP_run (h : Hart) (r : Nat) (x : W) (p : Bool) : (h.wrP r x p).run = h.run := by
  unfold Hart.wrP; split <;> rfl
@[simp] theorem wrP_pc (h : Hart) (r : Nat) (x : W) (p : Bool) : (h.wrP r x p).pc = h.pc := by
  unfold Hart.wrP; split <;> rfl
@[simp] theorem wrP_gwait (h : Hart) (r : Nat) (x : W) (p : Bool) : (h.wrP r x p).gwait = h.gwait := by
  unfold Hart.wrP; split <;> rfl
@[simp] theorem wrP_fflags (h : Hart) (r : Nat) (x : W) (p : Bool) : (h.wrP r x p).fflags = h.fflags := by
  unfold Hart.wrP; split <;> rfl
@[simp] theorem wrP_trap (h : Hart) (r : Nat) (x : W) (p : Bool) : (h.wrP r x p).trap = h.trap := by
  unfold Hart.wrP; split <;> rfl
@[simp] theorem wrP_link (h : Hart) (r : Nat) (x : W) (p : Bool) : (h.wrP r x p).link = h.link := by
  unfold Hart.wrP; split <;> rfl
@[simp] theorem wrP_vec (h : Hart) (r : Nat) (x : W) (p : Bool) : (h.wrP r x p).vec = h.vec := by
  unfold Hart.wrP; split <;> rfl
@[simp] theorem wrP_flt (h : Hart) (r : Nat) (x : W) (p : Bool) : (h.wrP r x p).flt = h.flt := by
  unfold Hart.wrP; split <;> rfl
@[simp] theorem wrP_queue (h : Hart) (r : Nat) (x : W) (p : Bool) : (h.wrP r x p).queue = h.queue := by
  unfold Hart.wrP; split <;> rfl
@[simp] theorem wrP_mode (h : Hart) (r : Nat) (x : W) (p : Bool) : (h.wrP r x p).mode = h.mode := by
  unfold Hart.wrP; split <;> rfl
@[simp] theorem wrP_tapeptr (h : Hart) (r : Nat) (x : W) (p : Bool) : (h.wrP r x p).tapeptr = h.tapeptr := by
  unfold Hart.wrP; split <;> rfl
@[simp] theorem wrP_tapelim (h : Hart) (r : Nat) (x : W) (p : Bool) : (h.wrP r x p).tapelim = h.tapelim := by
  unfold Hart.wrP; split <;> rfl
@[simp] theorem wrP_tapebase (h : Hart) (r : Nat) (x : W) (p : Bool) : (h.wrP r x p).tapebase = h.tapebase := by
  unfold Hart.wrP; split <;> rfl
@[simp] theorem wrP_lwin (h : Hart) (r : Nat) (x : W) (p : Bool) : (h.wrP r x p).lwin = h.lwin := by
  unfold Hart.wrP; split <;> rfl
@[simp] theorem wrP_drawers (h : Hart) (r : Nat) (x : W) (p : Bool) : (h.wrP r x p).drawers = h.drawers := by
  unfold Hart.wrP; split <;> rfl
@[simp] theorem wrP_ctx (h : Hart) (r : Nat) (x : W) (p : Bool) : (h.wrP r x p).ctx = h.ctx := by
  unfold Hart.wrP; split <;> rfl
@[simp] theorem wrP_task (h : Hart) (r : Nat) (x : W) (p : Bool) : (h.wrP r x p).task = h.task := by
  unfold Hart.wrP; split <;> rfl
@[simp] theorem wrP_farm (h : Hart) (r : Nat) (x : W) (p : Bool) : (h.wrP r x p).farm = h.farm := by
  unfold Hart.wrP; split <;> rfl
@[simp] theorem wrP_wake (h : Hart) (r : Nat) (x : W) (p : Bool) : (h.wrP r x p).wake = h.wake := by
  unfold Hart.wrP; split <;> rfl
@[simp] theorem wrP_preempt (h : Hart) (r : Nat) (x : W) (p : Bool) : (h.wrP r x p).preempt = h.preempt := by
  unfold Hart.wrP; split <;> rfl
@[simp] theorem wrP_ir (h : Hart) (r : Nat) (x : W) (p : Bool) : (h.wrP r x p).ir = h.ir := by
  unfold Hart.wrP; split <;> rfl
@[simp] theorem wrP_iseen (h : Hart) (r : Nat) (x : W) (p : Bool) : (h.wrP r x p).iseen = h.iseen := by
  unfold Hart.wrP; split <;> rfl

/-! ### g registers -/

/-- g0 reads zero whatever was written to it (R41). -/
@[simp] theorem rd_zero (h : Hart) : h.rd 0 = 0 := rfl

@[simp] theorem wrP_zero (h : Hart) (x : W) (p : Bool) : h.wrP 0 x p = h := rfl

@[simp] theorem rd_wrP_same (h : Hart) {r : Nat} (x : W) (p : Bool) (hr : r ≠ 0) : (h.wrP r x p).rd r = x := by
  simp [Hart.rd, Hart.wrP, hr]

theorem rd_wrP_other (h : Hart) {r q : Nat} (x : W) (p : Bool) (e : q ≠ r) : (h.wrP r x p).rd q = h.rd q := by
  unfold Hart.rd Hart.wrP
  split
  · rfl
  · split
    · rfl
    · simp [Tab.get_set_other _ _ _ e]

@[simp] theorem rd_adv (h : Hart) (r : Nat) : h.adv.rd r = h.rd r := rfl
@[simp] theorem rdP_adv (h : Hart) (r : Nat) : h.adv.rdP r = h.rdP r := rfl
@[simp] theorem priv_adv (h : Hart) : h.adv.priv = h.priv := rfl

end Machine

end Sys2Proof
end

