-- ==== Sys2Proof/Laws/Memory.lean ====
section
/-! SUPPORT. The bytes of memory: a byte reads as it was last written, a write leaves every other byte, and every memory
operation keeps the canonical form. -/

namespace Sys2Proof.Machine

/-! ### Reading what was written -/

theorem memGet_memIns (m : List Host.Cell) (k i : Nat) (v : Byte) :
    memGet (memIns m k v) i = if i = k then v else memGet m i := by
  induction m with
  | nil => simp [memIns, memGet]
  | cons e r ih =>
    obtain ⟨a, b⟩ := e
    simp only [memIns]
    split
    · simp [memGet]
    · split
      · rename_i h; subst h
        by_cases hi : i = k <;> simp [memGet, hi]
      · rename_i h1 h2
        simp only [memGet, ih]
        by_cases hi : i = a
        · subst hi; simp [Ne.symm h2]
        · simp [hi]

theorem memGet_filter (m : List Host.Cell) (p : Nat → Bool) (i : Nat) :
    memGet (m.filter fun c => p c.1) i = if p i then memGet m i else defaultByte := by
  induction m with
  | nil => simp [memGet]
  | cons e r ih =>
    obtain ⟨a, b⟩ := e
    by_cases ha : p a
    · simp only [List.filter_cons, ha, if_true, memGet, ih]
      by_cases hi : i = a
      · subst hi; simp [ha]
      · simp [hi]
    · simp only [List.filter_cons, ha, memGet]
      by_cases hi : i = a
      · subst hi; simp [ha, ih]
      · simp [hi, ih]

/-- A byte reads as it was last written, and a write leaves every other byte. -/
theorem memGet_memPut (m : List Host.Cell) (k i : Nat) (v : Byte) :
    memGet (memPut m k v) i = if i = k then v else memGet m i := by
  unfold memPut
  split
  · rename_i h
    have := memGet_filter m (fun a => a != k) i
    rw [this]
    by_cases hi : i = k <;> simp [hi, h]
  · exact memGet_memIns m k i v

/-- Consecutive bytes written: those read as written, and every other byte as before. -/
theorem memGet_memPuts (bs : List Byte) (m : List Host.Cell) (k i : Nat) :
    memGet (memPuts m k bs) i = if h : k ≤ i ∧ i < k + bs.length then bs[i - k]'(by omega) else memGet m i := by
  induction bs generalizing m k with
  | nil =>
    have h : ¬ (k ≤ i ∧ i < k + ([] : List Byte).length) := by simp
    rw [memPuts, dif_neg h]
  | cons b r ih =>
    rw [memPuts, ih]
    by_cases h : k + 1 ≤ i ∧ i < k + 1 + r.length
    · have h' : k ≤ i ∧ i < k + (b :: r).length := by simp; omega
      rw [dif_pos h, dif_pos h']
      have e : i - k = (i - (k + 1)) + 1 := by omega
      simp [e]
    · rw [dif_neg h, memGet_memPut]
      by_cases e : i = k
      · subst e; simp
      · have h' : ¬ (k ≤ i ∧ i < k + (b :: r).length) := by simp; omega
        rw [dif_neg h', if_neg e]

/-! ### The canonical form -/

/-- The canonical form, cell by cell. -/
theorem memWf_cons (a : Nat) (b : Byte) (r : List Host.Cell) :
    memWf ((a, b) :: r) = true ↔ b ≠ defaultByte ∧ (∀ c ∈ r, a < c.1) ∧ memWf r = true := by
  induction r generalizing a b with
  | nil => simp [memWf]
  | cons e r ih =>
    obtain ⟨a', b'⟩ := e
    simp only [memWf, Bool.and_eq_true, bne_iff_ne, decide_eq_true_eq, List.mem_cons, forall_eq_or_imp]
    constructor
    · rintro ⟨⟨h1, h2⟩, h3⟩
      obtain ⟨_, h5, _⟩ := (ih a' b').mp h3
      exact ⟨h1, ⟨h2, fun c hc => Nat.lt_trans h2 (h5 c hc)⟩, h3⟩
    · rintro ⟨h1, ⟨h2, _⟩, h3⟩
      exact ⟨⟨h1, h2⟩, h3⟩

theorem memWf_filter (p : Host.Cell → Bool) (m : List Host.Cell) (h : memWf m = true) : memWf (m.filter p) = true := by
  induction m with
  | nil => simp [memWf]
  | cons e r ih =>
    obtain ⟨a, b⟩ := e
    obtain ⟨h1, h2, h3⟩ := (memWf_cons a b r).mp h
    by_cases hp : p (a, b)
    · rw [List.filter_cons_of_pos hp]
      exact (memWf_cons a b _).mpr ⟨h1, fun c hc => h2 c (List.mem_filter.mp hc).1, ih h3⟩
    · rw [List.filter_cons_of_neg hp]
      exact ih h3

theorem mem_memIns {m : List Host.Cell} {k : Nat} {v : Byte} {c : Host.Cell} (h : c ∈ memIns m k v) :
    c = (k, v) ∨ c ∈ m := by
  induction m with
  | nil => simpa [memIns] using h
  | cons e r ih =>
    obtain ⟨a, b⟩ := e
    simp only [memIns] at h
    split at h
    · simpa using h
    · split at h
      · simp only [List.mem_cons] at h ⊢
        rcases h with h | h
        · exact .inl h
        · exact .inr (.inr h)
      · simp only [List.mem_cons] at h ⊢
        rcases h with h | h
        · exact .inr (.inl h)
        · rcases ih h with h | h
          · exact .inl h
          · exact .inr (.inr h)

theorem memWf_memIns (m : List Host.Cell) (k : Nat) (v : Byte) (hv : v ≠ defaultByte) (h : memWf m = true) :
    memWf (memIns m k v) = true := by
  induction m with
  | nil => simpa [memIns, memWf] using hv
  | cons e r ih =>
    obtain ⟨a, b⟩ := e
    obtain ⟨h1, h2, h3⟩ := (memWf_cons a b r).mp h
    simp only [memIns]
    split
    · rename_i hk
      refine (memWf_cons k v _).mpr ⟨hv, fun c hc => ?_, h⟩
      rcases List.mem_cons.mp hc with hc | hc
      · subst hc; exact hk
      · exact Nat.lt_trans hk (h2 c hc)
    · split
      · rename_i hk
        subst hk
        exact (memWf_cons k v r).mpr ⟨hv, h2, h3⟩
      · rename_i hk1 hk2
        refine (memWf_cons a b _).mpr ⟨h1, fun c hc => ?_, ih h3⟩
        rcases mem_memIns hc with hc | hc
        · subst hc; show a < k; omega
        · exact h2 c hc

/-- Writing one byte keeps the canonical form. -/
theorem memWf_memPut (m : List Host.Cell) (k : Nat) (v : Byte) (h : memWf m = true) : memWf (memPut m k v) = true := by
  unfold memPut
  split
  · exact memWf_filter _ m h
  · rename_i hv
    exact memWf_memIns m k v hv h

/-- Writing consecutive bytes keeps the canonical form. -/
theorem memWf_memPuts (bs : List Byte) (m : List Host.Cell) (k : Nat) (h : memWf m = true) :
    memWf (memPuts m k bs) = true := by
  induction bs generalizing m k with
  | nil => exact h
  | cons b r ih => exact ih _ _ (memWf_memPut m k b h)

/-- No cell of a memory in canonical form holds the default byte. -/
theorem memWf_listed (m : List Host.Cell) (h : memWf m = true) : ∀ c ∈ m, c.2 ≠ defaultByte := by
  induction m with
  | nil => simp
  | cons e r ih =>
    obtain ⟨a, b⟩ := e
    obtain ⟨h1, _, h3⟩ := (memWf_cons a b r).mp h
    intro c hc
    rcases List.mem_cons.mp hc with hc | hc
    · subst hc; exact h1
    · exact ih h3 c hc

theorem memWf_foldl_memIns (f : Host.Cell → Nat) (l acc : List Host.Cell) (hl : ∀ c ∈ l, c.2 ≠ defaultByte)
    (h : memWf acc = true) : memWf (l.foldl (fun acc c => memIns acc (f c) c.2) acc) = true := by
  induction l generalizing acc with
  | nil => exact h
  | cons c r ih =>
    exact ih _ (fun d hd => hl d (List.mem_cons_of_mem _ hd)) (memWf_memIns _ _ _ (hl c List.mem_cons_self) h)

/-- Copying a range keeps the canonical form. -/
theorem memWf_copyFrom (old m : List Host.Cell) (src dst n : Nat) (ho : memWf old = true) (h : memWf m = true) :
    memWf (copyFrom old m src dst n) = true := by
  unfold copyFrom
  exact memWf_foldl_memIns _ _ _ (fun c hc => memWf_listed old ho c (List.mem_filter.mp hc).1) (memWf_filter _ m h)

theorem memWf_copyRange (m : List Host.Cell) (src dst n : Nat) (h : memWf m = true) :
    memWf (copyRange m src dst n) = true := memWf_copyFrom m m src dst n h h

/-! ### The operations of Ops.lean -/

@[simp] theorem rawPut_mem (s : State) (loc : Nat) (bs : List Byte) : (rawPut s loc bs).mem = memPuts s.mem loc bs := rfl

theorem memWf_rawPut (s : State) (loc : Nat) (bs : List Byte) (h : memWf s.mem = true) :
    memWf (rawPut s loc bs).mem = true := memWf_memPuts bs s.mem loc h

@[simp] theorem clearLinks_mem (s : State) (loc n : Nat) (k : Option Nat) : (clearLinks s loc n k).mem = s.mem := rfl

@[simp] theorem clearMarks_mem (s : State) (loc n : Nat) : (clearMarks s loc n).mem = s.mem := by
  unfold clearMarks; split <;> rfl

@[simp] theorem sendRemote_mem (s : State) (loc : Nat) : (sendRemote s loc).mem = s.mem := by
  unfold sendRemote; split <;> rfl

theorem memWf_rekeyLine (s : State) (k : Option (BitVec 512)) (l : Nat) (h : memWf s.mem = true) :
    memWf (rekeyLine s k l).mem = true := by
  unfold rekeyLine
  split
  · exact h
  · exact memWf_memPuts _ _ _ h

@[simp] theorem recallLines_mem (s : State) (via : Option Nat) (key : Option (BitVec 10)) (loc n : Nat) :
    (recallLines s via key loc n).mem = s.mem := by
  unfold recallLines
  dsimp only
  split <;> rfl

@[simp] theorem soil_mem (s : State) (via : Option Nat) (key : Option (BitVec 10)) (loc n : Nat) :
    (soil s via key loc n).mem = s.mem := by
  cases via <;> rfl

@[simp] theorem releaseTo_mem (s : State) (sys : Bool) : (releaseTo s sys).mem = s.mem := by
  cases sys <;> rfl

@[simp] theorem pinLeaf_mem (s : State) (va atp : W) (base : Nat) (pte : W) : (pinLeaf s va atp base pte).mem = s.mem := by
  unfold pinLeaf; split <;> rfl

/-- A fold keeps what each of its steps keeps. -/
theorem foldl_keeps {α β : Type} (P : β → Prop) (f : β → α → β) (hf : ∀ b a, P b → P (f b a)) (l : List α) (b : β)
    (h : P b) : P (l.foldl f b) := by
  induction l generalizing b with
  | nil => exact h
  | cons a r ih => exact ih _ (hf _ _ h)

/-- A stream's lines change no memory beside what was copied for them. -/
@[simp] theorem streamed_mem (s : State) (a m n bytes : Nat) : (streamed s a m n bytes).mem = s.mem := by
  unfold streamed
  dsimp only
  split <;> rfl

theorem memWf_asStored (s : State) (h : memWf s.mem = true) : memWf (asStored s).mem = true :=
  foldl_keeps (fun t : State => memWf t.mem = true) _ (fun t e ht => memWf_rekeyLine t none e.1 ht) _ _ h

/-- With no encrypted line, memory is what is stored. -/
theorem asStored_plain {s : State} (h : s.lineKeys = []) : asStored s = s := by simp [asStored, h]

theorem memWf_streamMap (s : State) (h : memWf s.mem = true) : memWf (streamMap s).mem = true := by
  simp only [streamMap, streamed_mem]
  exact memWf_memPuts _ _ _ h

theorem memWf_advanceCk (n : Nat) (s : State) (h : memWf s.mem = true) : memWf (advanceCk n s).mem = true := by
  induction n generalizing s with
  | zero => exact h
  | succ n ih =>
    unfold advanceCk
    split
    · exact ih _ h
    · split
      · exact memWf_streamMap s h
      · exact h

/-- Memory as it stands behind the stash lines keeps the canonical form. -/
theorem memWf_behind (s : State) (h : memWf s.mem = true) : memWf (behind s).mem = true := by
  exact foldl_keeps (fun m : List Host.Cell => memWf m = true) _ (fun m e hm => memWf_memPut m _ _ hm) _ _ h

theorem memWf_copyStored (s : State) (b dst n : Nat) (h : memWf s.mem = true) : memWf (copyStored s b dst n).mem = true := by
  unfold copyStored
  exact foldl_keeps (fun t : State => memWf t.mem = true) _ (fun t e ht => memWf_rawPut t _ _ ht) _ _
    (memWf_copyFrom _ _ _ _ _ (memWf_behind s h) h)

theorem memWf_streamBlock (s : State) (b : Nat) (h : memWf s.mem = true) : memWf (streamBlock s b).mem = true := by
  unfold streamBlock
  split
  · dsimp only
    split
    · simpa using memWf_copyStored s b _ _ h
    · exact memWf_advanceCk _ _ (by simpa using memWf_copyStored s b _ _ h)
  · exact h

theorem memWf_beforeWrite (s : State) (loc n : Nat) (h : memWf s.mem = true) :
    memWf (beforeWrite s loc n).mem = true := by
  unfold beforeWrite
  split
  · exact memWf_streamBlock _ _ (memWf_streamBlock _ _ h)
  · exact h

theorem memWf_putUnder (s : State) (loc : Nat) (k : Option (BitVec 512)) (bs : List Byte) (h : memWf s.mem = true) :
    memWf (putUnder s loc k bs).mem = true := by
  unfold putUnder
  dsimp only
  split
  · exact h
  · exact memWf_rawPut _ _ _ (memWf_rekeyLine _ _ _ (memWf_beforeWrite _ _ _ (by simpa using h)))

theorem memWf_rimeElem (s : State) (kb rb geo : W) (b : KeyBind) (e : Nat) (h : memWf s.mem = true) :
    memWf (rimeElem s kb rb geo b e).mem = true := by
  unfold rimeElem
  simp only []
  split
  · exact memWf_putUnder _ _ _ _ (memWf_putUnder _ _ _ _ h)
  · exact h

theorem memWf_rimeUpdate (s : State) (loc n : Nat) (h : memWf s.mem = true) : memWf (rimeUpdate s loc n).mem = true := by
  unfold rimeUpdate
  exact foldl_keeps (fun t : State => memWf t.mem = true) _
    (fun t a ht => foldl_keeps (fun t : State => memWf t.mem = true) _
      (fun t e ht => memWf_rimeElem t a.1 a.2.1 a.2.2.1 a.2.2.2 e ht) _ _ ht) _ _ h

/-- A store keeps the canonical form. -/
theorem memWf_storeAt (s : State) (p : Phys) (bs : List Byte) (k : Option Nat) (h : memWf s.mem = true) :
    memWf (storeAt s p bs k).mem = true := by
  unfold storeAt
  simp only []
  split
  · exact h
  · simp only [sendRemote_mem]
    refine memWf_rimeUpdate _ _ _ ?_
    have hb := memWf_beforeWrite (recallLines s p.via p.key p.loc bs.length) p.loc bs.length (by simpa using h)
    simp only [clearMarks_mem, clearLinks_mem]
    refine memWf_rawPut _ _ _ ?_
    rw [soil_mem]
    split
    · exact hb
    · exact memWf_rekeyLine _ _ _ (memWf_rekeyLine _ _ _ hb)

/-- A write by hardware keeps the canonical form. -/
theorem memWf_hwWrite (s : State) (loc : Nat) (bs : List Byte) (h : memWf s.mem = true) :
    memWf (hwWrite s loc bs).mem = true := by
  exact memWf_putUnder s loc none bs h

/-- Marking words as poison leaves memory as it is. -/
@[simp] theorem poisonRange_mem (s : State) (loc n : Nat) : (poisonRange s loc n).mem = s.mem := rfl

/-- A copy with its poison keeps the canonical form. -/
theorem memWf_copyAt (s : State) (p : Phys) (bs : List Byte) (q : Bool) (h : memWf s.mem = true) :
    memWf (copyAt s p bs q).mem = true := by
  unfold copyAt
  dsimp only
  split
  · exact memWf_storeAt s p bs none h
  · exact memWf_storeAt s p bs none h

/-- The use of a leaf keeps the canonical form: the walker may set A and D (R239). -/
theorem memWf_useLeaf (s : State) (k : Kind) (va atp : W) (f : Found) (h : memWf s.mem = true) :
    memWf (useLeaf s k va atp f).mem = true := by
  unfold useLeaf
  split
  · exact h
  · simpa using h
  · simp only [pinLeaf_mem, holdWalk]
    split
    · exact h
    · exact memWf_hwWrite _ _ _ h

/-- Translation keeps the canonical form. -/
theorem memWf_xlate {s : State} {hart ctx priv : Nat} {party : Party} {k : Kind} {va : W} {w : Nat} {p : Placed}
    (e : xlate s hart ctx priv party k va w = .ok p) (h : memWf s.mem = true) : memWf p.st.mem = true := by
  unfold xlate at e
  simp only [] at e
  repeat' split at e
  all_goals first
    | (injection e with e
       subst e
       simp only [recallLines_mem]
       first
         | exact h
         | exact memWf_useLeaf _ _ _ _ _ h)
    | exact absurd e (by simp)

/-- What is kept for later fetches leaves memory as the move left it. -/
theorem keepOld_next {s t : State} {o : Out} (e : keepOld s o = .next t) :
    ∃ u, o = .next u ∧ t = { u with stale := replaced s.mem u.mem ++ u.stale } := by
  unfold keepOld at e
  split at e
  · exact ⟨_, rfl, by injection e with e; exact e.symm⟩
  · rename_i h
    exact absurd e (h t)

/-- Memory after reset has the canonical form. -/
theorem memWf_reset : memWf State.reset.mem = true := rfl

end Sys2Proof.Machine
end

