-- ==== Sys2Proof/Laws/Ops.lean ====
section
/-! SUPPORT. What the shared operations can do: the ends of a scalar instruction, the four ways in which a trap is taken, and the stop of a hart. -/

namespace Sys2Proof.Machine

/-! ### The ends of a scalar instruction -/

theorem scalar_ok {s t : State} {regs : List Nat} (h : mustWait s.me regs = false) :
    scalar s regs (.ok t) = .next t := by simp [scalar, h, Res.out]

theorem scalar_trap {s : State} {regs : List Nat} {c : Cause} (h : mustWait s.me regs = false) :
    scalar s regs (.trap c) = .next (trapAt s c) := by simp [scalar, h, Res.out]

theorem scalar_wait {s : State} {regs : List Nat} {b : Res} (h : mustWait s.me regs = true) :
    scalar s regs b = .next (stall s) := by simp [scalar, h]

/-- Everything a scalar instruction can do. -/
theorem scalar_cases (s : State) (regs : List Nat) (b : Res) :
    (mustWait s.me regs = true ∧ scalar s regs b = .next (stall s)) ∨
      (mustWait s.me regs = false ∧ scalar s regs b = b.out s) := by
  unfold scalar
  cases mustWait s.me regs <;> simp

/-- A write of the result of a scalar instruction, outside the registers that a farm bars (R176). -/
theorem writeBack_ok {s : State} {d : BitVec 5} (x : W) (p : Bool) (h : farmBars s.me d = false) :
    writeBack s d x p = .ok (s.setMe ((s.me.wrP d.toNat x p).adv)) := by simp [writeBack, h]

/-! ### Traps (R61 to R63) -/

/-- The moving hart as it takes a trap: its vector side has stopped, and its links are cleared. -/
def stopped (h : Hart) (f : Option VFault) : Hart :=
  let h := stopVector h f
  { h with link := none, vec := { h.vec with vlinks := [] } }

theorem stopVector_trap (h : Hart) (f : Option VFault) : (stopVector h f).trap = h.trap := by
  unfold stopVector
  split <;> rfl

theorem stopVector_g (h : Hart) (f : Option VFault) : (stopVector h f).g = h.g ∧ (stopVector h f).gpois = h.gpois := by
  unfold stopVector
  split <;> exact ⟨rfl, rfl⟩

theorem stopped_priv (h : Hart) (f : Option VFault) : (stopped h f).priv = h.priv := by
  simp [stopped, Hart.priv, stopVector_trap]

theorem stopped_stat (h : Hart) (f : Option VFault) : (stopped h f).trap.stat = h.trap.stat := by
  simp [stopped, stopVector_trap]

/-- A trap at user or kernel level outside a handler, or an event there, enters the kernel. -/
theorem takeTrap_kernel (s : State) (async : Bool) (code : Nat) (epc tval : W) (f : Option VFault) (hp : s.me.priv ≠ 2)
    (hn : (!async && bit s.me.trap.stat 7) = false) :
    takeTrap s async code epc tval f = s.setMe (enterKernel (stopped s.me f) async code epc tval) := by
  have h1 := stopped_priv s.me f
  have h2 := stopped_stat s.me f
  unfold takeTrap
  simp only [stopped] at h1 h2
  simp only [h1, h2, hp, hn, if_false, Bool.false_eq_true, stopped]

/-- A synchronous trap inside a kernel handler is a double trap: it enters firmware. -/
theorem takeTrap_double (s : State) (code : Nat) (epc tval : W) (f : Option VFault) (hp : s.me.priv ≠ 2)
    (hn : bit s.me.trap.stat 7 = true) :
    takeTrap s false code epc tval f = s.setMe (enterFirmware (stopped s.me f) false true code epc tval) := by
  have h1 := stopped_priv s.me f
  have h2 := stopped_stat s.me f
  unfold takeTrap
  simp only [stopped] at h1 h2
  simp only [h1, h2, hp, hn, if_false, Bool.not_false, Bool.and_self, if_true, stopped]

/-- A trap at firmware level outside a handler, or an event there, is a firmware trap. -/
theorem takeTrap_firmware (s : State) (async : Bool) (code : Nat) (epc tval : W) (f : Option VFault) (hp : s.me.priv = 2)
    (hn : (!async && bit s.me.trap.stat 15) = false) :
    takeTrap s async code epc tval f = s.setMe (enterFirmware (stopped s.me f) async false code epc tval) := by
  have h1 := stopped_priv s.me f
  have h2 := stopped_stat s.me f
  unfold takeTrap
  simp only [stopped] at h1 h2
  simp only [h1, h2, hp, hn, if_true, if_false, Bool.false_eq_true, stopped]

/-- A synchronous trap inside a firmware handler stops the hart. -/
theorem takeTrap_stops (s : State) (code : Nat) (epc tval : W) (f : Option VFault) (hp : s.me.priv = 2)
    (hn : bit s.me.trap.stat 15 = true) :
    takeTrap s false code epc tval f = stopHart (s.setMe (stopped s.me f)) s.cur false := by
  have h1 := stopped_priv s.me f
  have h2 := stopped_stat s.me f
  unfold takeTrap
  simp only [stopped] at h1 h2
  simp only [h1, h2, hp, hn, if_true, Bool.not_false, Bool.and_self, stopped]

/-- Taking a trap leaves memory as it was. -/
theorem takeTrap_mem (s : State) (async : Bool) (code : Nat) (epc tval : W) (f : Option VFault) :
    (takeTrap s async code epc tval f).mem = s.mem := by
  unfold takeTrap
  dsimp only
  split
  · split <;> rfl
  · split <;> rfl

/-! ### What the loop contexts of a hart share (R147, R176) -/

/-- The loop context whose values the others take is not changed. -/
@[simp] theorem spread_self (s : State) (n : Nat) : (spread s n).hart n = s.hart n := by
  have := Tab.get_map Hart.reset (fun m x => if m ≠ n ∧ hartOf m = hartOf n then x.sharing (s.hart n) else x) s.harts n (.inl (by simp))
  simpa [spread, State.hart] using this

@[simp] theorem spread_mem (s : State) (n : Nat) : (spread s n).mem = s.mem := rfl
@[simp] theorem spread_cur (s : State) (n : Nat) : (spread s n).cur = s.cur := rfl

/-! ### Stopping a hart (R63) -/

/-- A hart that has stopped stays so when an event is made pending at it. -/
theorem post_halted {s : State} {m : Nat} (n code : Nat) (tval : W) (h : (s.hart m).run = .halted) :
    ((post s n code tval).hart m).run = .halted := by
  by_cases e : m = n
  · subst e
    simp [post, noteWake, h]
  · rw [post, hart_setHart_other _ _ e, h]

/-- The loop context that stops a hart is not changed again by the stop of the others. -/
theorem stopLoops_self (s : State) (n : Nat) : (stopLoops s n).hart n = s.hart n := by
  have := Tab.get_map Hart.reset (fun m x => if m ≠ n ∧ hartOf m = hartOf n then x.halt else x) s.harts n (.inl (by simp))
  simpa [stopLoops, State.hart] using this

/-- The other loop contexts of a divided hart stop with it. -/
theorem stopLoops_other {s : State} {m n : Nat} (e : m ≠ n) (h : hartOf m = hartOf n) (l : ∃ x, (m, x) ∈ s.harts) :
    (stopLoops s n).hart m = (s.hart m).halt := by
  have := Tab.get_map Hart.reset (fun m x => if m ≠ n ∧ hartOf m = hartOf n then x.halt else x) s.harts m (.inr l)
  simpa [stopLoops, State.hart, e, h] using this

/-- A stop of a hart stops every loop context of it. -/
theorem stopHart_halts {s : State} {m n : Nat} (lost : Bool) (h : hartOf m = hartOf n) (l : m = n ∨ ∃ x, (m, x) ∈ s.harts) :
    ((stopHart s n lost).hart m).run = .halted := by
  refine post_halted _ _ _ ?_
  by_cases e : m = n
  · subst e
    rw [stopLoops_self, hart_setHart_same]
    rfl
  · rw [stopLoops_other e h (Tab.set_listed _ _ _ (l.resolve_left e))]
    rfl

@[simp] theorem stopHart_mem (s : State) (n : Nat) (lost : Bool) : (stopHart s n lost).mem = s.mem := rfl

end Sys2Proof.Machine
end

