-- ==== Sys2Proof/Laws/PerInstr.lean ====
section
/-! SUPPORT. Every instruction fits its word: its opcode has ten bits and its fields the other 22 (R94); an event, which has
no word, has both 0. -/

namespace Sys2Proof.Laws.Fits

/-- The opcode and the fields of an instruction do not overlap in its word. -/
def Statement (i : Instr) : Prop := opcodeOf i < 1024 ∧ lowOf i < 2 ^ 22

theorem lowS_lt (f : FS) : lowS f < 2 ^ 22 := by
  have := f.a.isLt; have := f.b.isLt; have := f.c.isLt; have := f.sub.isLt; have := f.fs.isLt
  simp only [lowS]; omega

theorem lowI_lt (f : FI) : lowI f < 2 ^ 22 := by
  have := f.a.isLt; have := f.b.isLt; have := f.imm.isLt
  simp only [lowI]; omega

theorem lowU_lt (f : FU) : lowU f < 2 ^ 22 := by
  have := f.a.isLt; have := f.imm.isLt
  simp only [lowU]; omega

theorem lowV_lt (f : FV) : lowV f < 2 ^ 22 := by
  have := f.a.isLt; have := f.b.isLt; have := f.c.isLt; have := f.c1.isLt; have := f.c2.isLt
  have := f.msk.isLt; have := f.fs.isLt
  simp only [lowV]; omega

theorem lowM_lt (f : FM) : lowM f < 2 ^ 22 := by
  have := f.a.isLt; have := f.b.isLt; have := f.c.isLt; have := f.ew.isLt; have := f.msk.isLt; have := f.hint.isLt
  simp only [lowM]; omega

theorem lowA_lt (f : FA) : lowA f < 2 ^ 22 := by
  have := f.a.isLt; have := f.b.isLt; have := f.c.isLt; have := f.aq.isLt; have := f.rl.isLt
  have := f.msk.isLt; have := f.scope.isLt
  simp only [lowA]; omega

theorem lowE_lt (f : FE) : lowE f < 2 ^ 22 := by
  have := f.a.isLt; have := f.b.isLt; have := f.c.isLt; have := f.push.isLt; have := f.pop.isLt; have := f.imm.isLt
  simp only [lowE]; omega


theorem add (f : FS) : Statement (.add f) := ⟨(by decide : 0x001 < 1024), lowS_lt f⟩
theorem sub (f : FS) : Statement (.sub f) := ⟨(by decide : 0x002 < 1024), lowS_lt f⟩
theorem mul (f : FS) : Statement (.mul f) := ⟨(by decide : 0x003 < 1024), lowS_lt f⟩
theorem mulh (f : FS) : Statement (.mulh f) := ⟨(by decide : 0x004 < 1024), lowS_lt f⟩
theorem mulhu (f : FS) : Statement (.mulhu f) := ⟨(by decide : 0x005 < 1024), lowS_lt f⟩
theorem div (f : FS) : Statement (.div f) := ⟨(by decide : 0x006 < 1024), lowS_lt f⟩
theorem divu (f : FS) : Statement (.divu f) := ⟨(by decide : 0x007 < 1024), lowS_lt f⟩
theorem mod (f : FS) : Statement (.mod f) := ⟨(by decide : 0x008 < 1024), lowS_lt f⟩
theorem modu (f : FS) : Statement (.modu f) := ⟨(by decide : 0x009 < 1024), lowS_lt f⟩
theorem and (f : FS) : Statement (.and f) := ⟨(by decide : 0x00A < 1024), lowS_lt f⟩
theorem or (f : FS) : Statement (.or f) := ⟨(by decide : 0x00B < 1024), lowS_lt f⟩
theorem xor (f : FS) : Statement (.xor f) := ⟨(by decide : 0x00C < 1024), lowS_lt f⟩
theorem shl (f : FS) : Statement (.shl f) := ⟨(by decide : 0x00D < 1024), lowS_lt f⟩
theorem shr (f : FS) : Statement (.shr f) := ⟨(by decide : 0x00E < 1024), lowS_lt f⟩
theorem sar (f : FS) : Statement (.sar f) := ⟨(by decide : 0x00F < 1024), lowS_lt f⟩
theorem cmplt (f : FS) : Statement (.cmplt f) := ⟨(by decide : 0x010 < 1024), lowS_lt f⟩
theorem cmpltu (f : FS) : Statement (.cmpltu f) := ⟨(by decide : 0x011 < 1024), lowS_lt f⟩
theorem min (f : FS) : Statement (.min f) := ⟨(by decide : 0x012 < 1024), lowS_lt f⟩
theorem max (f : FS) : Statement (.max f) := ⟨(by decide : 0x013 < 1024), lowS_lt f⟩
theorem minu (f : FS) : Statement (.minu f) := ⟨(by decide : 0x014 < 1024), lowS_lt f⟩
theorem maxu (f : FS) : Statement (.maxu f) := ⟨(by decide : 0x015 < 1024), lowS_lt f⟩
theorem clz (f : FS) : Statement (.clz f) := ⟨(by decide : 0x016 < 1024), lowS_lt f⟩
theorem ctz (f : FS) : Statement (.ctz f) := ⟨(by decide : 0x017 < 1024), lowS_lt f⟩
theorem popc (f : FS) : Statement (.popc f) := ⟨(by decide : 0x018 < 1024), lowS_lt f⟩
theorem addk (f : FI) : Statement (.addk f) := ⟨(by decide : 0x019 < 1024), lowI_lt f⟩
theorem andk (f : FI) : Statement (.andk f) := ⟨(by decide : 0x01A < 1024), lowI_lt f⟩
theorem ork (f : FI) : Statement (.ork f) := ⟨(by decide : 0x01B < 1024), lowI_lt f⟩
theorem xork (f : FI) : Statement (.xork f) := ⟨(by decide : 0x01C < 1024), lowI_lt f⟩
theorem shlk (f : FI) : Statement (.shlk f) := ⟨(by decide : 0x01D < 1024), lowI_lt f⟩
theorem shrk (f : FI) : Statement (.shrk f) := ⟨(by decide : 0x01E < 1024), lowI_lt f⟩
theorem sark (f : FI) : Statement (.sark f) := ⟨(by decide : 0x01F < 1024), lowI_lt f⟩
theorem cmpltk (f : FI) : Statement (.cmpltk f) := ⟨(by decide : 0x020 < 1024), lowI_lt f⟩
theorem cmpltuk (f : FI) : Statement (.cmpltuk f) := ⟨(by decide : 0x021 < 1024), lowI_lt f⟩
theorem high (f : FU) : Statement (.high f) := ⟨(by decide : 0x022 < 1024), lowU_lt f⟩
theorem pcrel (f : FU) : Statement (.pcrel f) := ⟨(by decide : 0x023 < 1024), lowU_lt f⟩
theorem ld8 (f : FI) : Statement (.ld8 f) := ⟨(by decide : 0x024 < 1024), lowI_lt f⟩
theorem ld8s (f : FI) : Statement (.ld8s f) := ⟨(by decide : 0x025 < 1024), lowI_lt f⟩
theorem ld16 (f : FI) : Statement (.ld16 f) := ⟨(by decide : 0x026 < 1024), lowI_lt f⟩
theorem ld16s (f : FI) : Statement (.ld16s f) := ⟨(by decide : 0x027 < 1024), lowI_lt f⟩
theorem ld32 (f : FI) : Statement (.ld32 f) := ⟨(by decide : 0x028 < 1024), lowI_lt f⟩
theorem ld32s (f : FI) : Statement (.ld32s f) := ⟨(by decide : 0x029 < 1024), lowI_lt f⟩
theorem ld64 (f : FI) : Statement (.ld64 f) := ⟨(by decide : 0x02A < 1024), lowI_lt f⟩
theorem st8 (f : FI) : Statement (.st8 f) := ⟨(by decide : 0x02B < 1024), lowI_lt f⟩
theorem st16 (f : FI) : Statement (.st16 f) := ⟨(by decide : 0x02C < 1024), lowI_lt f⟩
theorem st32 (f : FI) : Statement (.st32 f) := ⟨(by decide : 0x02D < 1024), lowI_lt f⟩
theorem st64 (f : FI) : Statement (.st64 f) := ⟨(by decide : 0x02E < 1024), lowI_lt f⟩
theorem beq (f : FI) : Statement (.beq f) := ⟨(by decide : 0x030 < 1024), lowI_lt f⟩
theorem bne (f : FI) : Statement (.bne f) := ⟨(by decide : 0x031 < 1024), lowI_lt f⟩
theorem blt (f : FI) : Statement (.blt f) := ⟨(by decide : 0x032 < 1024), lowI_lt f⟩
theorem bge (f : FI) : Statement (.bge f) := ⟨(by decide : 0x033 < 1024), lowI_lt f⟩
theorem bltu (f : FI) : Statement (.bltu f) := ⟨(by decide : 0x034 < 1024), lowI_lt f⟩
theorem bgeu (f : FI) : Statement (.bgeu f) := ⟨(by decide : 0x035 < 1024), lowI_lt f⟩
theorem jl (f : FU) : Statement (.jl f) := ⟨(by decide : 0x036 < 1024), lowU_lt f⟩
theorem jlr (f : FI) : Statement (.jlr f) := ⟨(by decide : 0x037 < 1024), lowI_lt f⟩
theorem fadd (f : FS) : Statement (.fadd f) := ⟨(by decide : 0x040 < 1024), lowS_lt f⟩
theorem fsub (f : FS) : Statement (.fsub f) := ⟨(by decide : 0x041 < 1024), lowS_lt f⟩
theorem fmul (f : FS) : Statement (.fmul f) := ⟨(by decide : 0x042 < 1024), lowS_lt f⟩
theorem fdiv (f : FS) : Statement (.fdiv f) := ⟨(by decide : 0x043 < 1024), lowS_lt f⟩
theorem fsqrt (f : FS) : Statement (.fsqrt f) := ⟨(by decide : 0x044 < 1024), lowS_lt f⟩
theorem fma (f : FS) : Statement (.fma f) := ⟨(by decide : 0x045 < 1024), lowS_lt f⟩
theorem fmin (f : FS) : Statement (.fmin f) := ⟨(by decide : 0x046 < 1024), lowS_lt f⟩
theorem fmax (f : FS) : Statement (.fmax f) := ⟨(by decide : 0x047 < 1024), lowS_lt f⟩
theorem fcmp (f : FS) : Statement (.fcmp f) := ⟨(by decide : 0x048 < 1024), lowS_lt f⟩
theorem fcvt (f : FS) : Statement (.fcvt f) := ⟨(by decide : 0x049 < 1024), lowS_lt f⟩
theorem fclass (f : FS) : Statement (.fclass f) := ⟨(by decide : 0x04A < 1024), lowS_lt f⟩
theorem llinkw (f : FA) : Statement (.llinkw f) := ⟨(by decide : 0x050 < 1024), lowA_lt f⟩
theorem llinkd (f : FA) : Statement (.llinkd f) := ⟨(by decide : 0x051 < 1024), lowA_lt f⟩
theorem scondw (f : FA) : Statement (.scondw f) := ⟨(by decide : 0x052 < 1024), lowA_lt f⟩
theorem scondd (f : FA) : Statement (.scondd f) := ⟨(by decide : 0x053 < 1024), lowA_lt f⟩
theorem amoswapw (f : FA) : Statement (.amoswapw f) := ⟨(by decide : 0x054 < 1024), lowA_lt f⟩
theorem amoaddw (f : FA) : Statement (.amoaddw f) := ⟨(by decide : 0x055 < 1024), lowA_lt f⟩
theorem amoandw (f : FA) : Statement (.amoandw f) := ⟨(by decide : 0x056 < 1024), lowA_lt f⟩
theorem amoorw (f : FA) : Statement (.amoorw f) := ⟨(by decide : 0x057 < 1024), lowA_lt f⟩
theorem amoxorw (f : FA) : Statement (.amoxorw f) := ⟨(by decide : 0x058 < 1024), lowA_lt f⟩
theorem amominw (f : FA) : Statement (.amominw f) := ⟨(by decide : 0x059 < 1024), lowA_lt f⟩
theorem amomaxw (f : FA) : Statement (.amomaxw f) := ⟨(by decide : 0x05A < 1024), lowA_lt f⟩
theorem amominuw (f : FA) : Statement (.amominuw f) := ⟨(by decide : 0x05B < 1024), lowA_lt f⟩
theorem amomaxuw (f : FA) : Statement (.amomaxuw f) := ⟨(by decide : 0x05C < 1024), lowA_lt f⟩
theorem amoswapd (f : FA) : Statement (.amoswapd f) := ⟨(by decide : 0x05D < 1024), lowA_lt f⟩
theorem amoaddd (f : FA) : Statement (.amoaddd f) := ⟨(by decide : 0x05E < 1024), lowA_lt f⟩
theorem amoandd (f : FA) : Statement (.amoandd f) := ⟨(by decide : 0x05F < 1024), lowA_lt f⟩
theorem amoord (f : FA) : Statement (.amoord f) := ⟨(by decide : 0x060 < 1024), lowA_lt f⟩
theorem amoxord (f : FA) : Statement (.amoxord f) := ⟨(by decide : 0x061 < 1024), lowA_lt f⟩
theorem amomind (f : FA) : Statement (.amomind f) := ⟨(by decide : 0x062 < 1024), lowA_lt f⟩
theorem amomaxd (f : FA) : Statement (.amomaxd f) := ⟨(by decide : 0x063 < 1024), lowA_lt f⟩
theorem amominud (f : FA) : Statement (.amominud f) := ⟨(by decide : 0x064 < 1024), lowA_lt f⟩
theorem amomaxud (f : FA) : Statement (.amomaxud f) := ⟨(by decide : 0x065 < 1024), lowA_lt f⟩
theorem trap (f : FU) : Statement (.trap f) := ⟨(by decide : 0x080 < 1024), lowU_lt f⟩
theorem eret (f : FS) : Statement (.eret f) := ⟨(by decide : 0x081 < 1024), lowS_lt f⟩
theorem eretReplay (f : FS) : Statement (.eretReplay f) := ⟨(by decide : 0x081 < 1024), lowS_lt f⟩
theorem brk (f : FU) : Statement (.brk f) := ⟨(by decide : 0x082 < 1024), lowU_lt f⟩
theorem park (f : FI) : Statement (.park f) := ⟨(by decide : 0x083 < 1024), lowI_lt f⟩
theorem fence (f : FA) : Statement (.fence f) := ⟨(by decide : 0x084 < 1024), lowA_lt f⟩
theorem crd (f : FI) : Statement (.crd f) := ⟨(by decide : 0x085 < 1024), lowI_lt f⟩
theorem cwr (f : FI) : Statement (.cwr f) := ⟨(by decide : 0x086 < 1024), lowI_lt f⟩
theorem cset (f : FI) : Statement (.cset f) := ⟨(by decide : 0x087 < 1024), lowI_lt f⟩
theorem cclr (f : FI) : Statement (.cclr f) := ⟨(by decide : 0x088 < 1024), lowI_lt f⟩
theorem dtload (f : FI) : Statement (.dtload f) := ⟨(by decide : 0x089 < 1024), lowI_lt f⟩
theorem iflush (f : FS) : Statement (.iflush f) := ⟨(by decide : 0x08A < 1024), lowS_lt f⟩
theorem tlbinv (f : FS) : Statement (.tlbinv f) := ⟨(by decide : 0x08B < 1024), lowS_lt f⟩
theorem ctxsv (f : FI) : Statement (.ctxsv f) := ⟨(by decide : 0x08C < 1024), lowI_lt f⟩
theorem ctxld (f : FI) : Statement (.ctxld f) := ⟨(by decide : 0x08D < 1024), lowI_lt f⟩
theorem setvl (f : FI) : Statement (.setvl f) := ⟨(by decide : 0x100 < 1024), lowI_lt f⟩
theorem setvlk (f : FU) : Statement (.setvlk f) := ⟨(by decide : 0x101 < 1024), lowU_lt f⟩
theorem shape (f : FI) : Statement (.shape f) := ⟨(by decide : 0x102 < 1024), lowI_lt f⟩
theorem vfold (f : FV) : Statement (.vfold f) := ⟨(by decide : 0x103 < 1024), lowV_lt f⟩
theorem vfoldto (f : FV) : Statement (.vfoldto f) := ⟨(by decide : 0x104 < 1024), lowV_lt f⟩
theorem vadd (f : FV) : Statement (.vadd f) := ⟨(by decide : 0x108 < 1024), lowV_lt f⟩
theorem vsub (f : FV) : Statement (.vsub f) := ⟨(by decide : 0x109 < 1024), lowV_lt f⟩
theorem vrsub (f : FV) : Statement (.vrsub f) := ⟨(by decide : 0x10A < 1024), lowV_lt f⟩
theorem vmul (f : FV) : Statement (.vmul f) := ⟨(by decide : 0x10B < 1024), lowV_lt f⟩
theorem vmulh (f : FV) : Statement (.vmulh f) := ⟨(by decide : 0x10C < 1024), lowV_lt f⟩
theorem vmulhu (f : FV) : Statement (.vmulhu f) := ⟨(by decide : 0x10D < 1024), lowV_lt f⟩
theorem vdiv (f : FV) : Statement (.vdiv f) := ⟨(by decide : 0x10E < 1024), lowV_lt f⟩
theorem vmod (f : FV) : Statement (.vmod f) := ⟨(by decide : 0x10F < 1024), lowV_lt f⟩
theorem vand (f : FV) : Statement (.vand f) := ⟨(by decide : 0x110 < 1024), lowV_lt f⟩
theorem vor (f : FV) : Statement (.vor f) := ⟨(by decide : 0x111 < 1024), lowV_lt f⟩
theorem vxor (f : FV) : Statement (.vxor f) := ⟨(by decide : 0x112 < 1024), lowV_lt f⟩
theorem vshl (f : FV) : Statement (.vshl f) := ⟨(by decide : 0x113 < 1024), lowV_lt f⟩
theorem vshr (f : FV) : Statement (.vshr f) := ⟨(by decide : 0x114 < 1024), lowV_lt f⟩
theorem vsar (f : FV) : Statement (.vsar f) := ⟨(by decide : 0x115 < 1024), lowV_lt f⟩
theorem vmin (f : FV) : Statement (.vmin f) := ⟨(by decide : 0x116 < 1024), lowV_lt f⟩
theorem vmax (f : FV) : Statement (.vmax f) := ⟨(by decide : 0x117 < 1024), lowV_lt f⟩
theorem vminu (f : FV) : Statement (.vminu f) := ⟨(by decide : 0x118 < 1024), lowV_lt f⟩
theorem vmaxu (f : FV) : Statement (.vmaxu f) := ⟨(by decide : 0x119 < 1024), lowV_lt f⟩
theorem vadds (f : FV) : Statement (.vadds f) := ⟨(by decide : 0x11A < 1024), lowV_lt f⟩
theorem vsubs (f : FV) : Statement (.vsubs f) := ⟨(by decide : 0x11B < 1024), lowV_lt f⟩
theorem vclz (f : FV) : Statement (.vclz f) := ⟨(by decide : 0x11C < 1024), lowV_lt f⟩
theorem vpope (f : FV) : Statement (.vpope f) := ⟨(by decide : 0x11D < 1024), lowV_lt f⟩
theorem vaddVs (f : FV) : Statement (.vaddVs f) := ⟨(by decide : 0x120 < 1024), lowV_lt f⟩
theorem vsubVs (f : FV) : Statement (.vsubVs f) := ⟨(by decide : 0x121 < 1024), lowV_lt f⟩
theorem vrsubVs (f : FV) : Statement (.vrsubVs f) := ⟨(by decide : 0x122 < 1024), lowV_lt f⟩
theorem vmulVs (f : FV) : Statement (.vmulVs f) := ⟨(by decide : 0x123 < 1024), lowV_lt f⟩
theorem vmulhVs (f : FV) : Statement (.vmulhVs f) := ⟨(by decide : 0x124 < 1024), lowV_lt f⟩
theorem vmulhuVs (f : FV) : Statement (.vmulhuVs f) := ⟨(by decide : 0x125 < 1024), lowV_lt f⟩
theorem vdivVs (f : FV) : Statement (.vdivVs f) := ⟨(by decide : 0x126 < 1024), lowV_lt f⟩
theorem vmodVs (f : FV) : Statement (.vmodVs f) := ⟨(by decide : 0x127 < 1024), lowV_lt f⟩
theorem vandVs (f : FV) : Statement (.vandVs f) := ⟨(by decide : 0x128 < 1024), lowV_lt f⟩
theorem vorVs (f : FV) : Statement (.vorVs f) := ⟨(by decide : 0x129 < 1024), lowV_lt f⟩
theorem vxorVs (f : FV) : Statement (.vxorVs f) := ⟨(by decide : 0x12A < 1024), lowV_lt f⟩
theorem vshlVs (f : FV) : Statement (.vshlVs f) := ⟨(by decide : 0x12B < 1024), lowV_lt f⟩
theorem vshrVs (f : FV) : Statement (.vshrVs f) := ⟨(by decide : 0x12C < 1024), lowV_lt f⟩
theorem vsarVs (f : FV) : Statement (.vsarVs f) := ⟨(by decide : 0x12D < 1024), lowV_lt f⟩
theorem vminVs (f : FV) : Statement (.vminVs f) := ⟨(by decide : 0x12E < 1024), lowV_lt f⟩
theorem vmaxVs (f : FV) : Statement (.vmaxVs f) := ⟨(by decide : 0x12F < 1024), lowV_lt f⟩
theorem vminuVs (f : FV) : Statement (.vminuVs f) := ⟨(by decide : 0x130 < 1024), lowV_lt f⟩
theorem vmaxuVs (f : FV) : Statement (.vmaxuVs f) := ⟨(by decide : 0x131 < 1024), lowV_lt f⟩
theorem vaddsVs (f : FV) : Statement (.vaddsVs f) := ⟨(by decide : 0x132 < 1024), lowV_lt f⟩
theorem vsubsVs (f : FV) : Statement (.vsubsVs f) := ⟨(by decide : 0x133 < 1024), lowV_lt f⟩
theorem vceq (f : FV) : Statement (.vceq f) := ⟨(by decide : 0x138 < 1024), lowV_lt f⟩
theorem vcne (f : FV) : Statement (.vcne f) := ⟨(by decide : 0x139 < 1024), lowV_lt f⟩
theorem vclt (f : FV) : Statement (.vclt f) := ⟨(by decide : 0x13A < 1024), lowV_lt f⟩
theorem vcle (f : FV) : Statement (.vcle f) := ⟨(by decide : 0x13B < 1024), lowV_lt f⟩
theorem vcltu (f : FV) : Statement (.vcltu f) := ⟨(by decide : 0x13C < 1024), lowV_lt f⟩
theorem vcleu (f : FV) : Statement (.vcleu f) := ⟨(by decide : 0x13D < 1024), lowV_lt f⟩
theorem vceqVs (f : FV) : Statement (.vceqVs f) := ⟨(by decide : 0x13E < 1024), lowV_lt f⟩
theorem vcneVs (f : FV) : Statement (.vcneVs f) := ⟨(by decide : 0x13F < 1024), lowV_lt f⟩
theorem vcltVs (f : FV) : Statement (.vcltVs f) := ⟨(by decide : 0x140 < 1024), lowV_lt f⟩
theorem vcleVs (f : FV) : Statement (.vcleVs f) := ⟨(by decide : 0x141 < 1024), lowV_lt f⟩
theorem vcltuVs (f : FV) : Statement (.vcltuVs f) := ⟨(by decide : 0x142 < 1024), lowV_lt f⟩
theorem vcleuVs (f : FV) : Statement (.vcleuVs f) := ⟨(by decide : 0x143 < 1024), lowV_lt f⟩
theorem vfeq (f : FV) : Statement (.vfeq f) := ⟨(by decide : 0x144 < 1024), lowV_lt f⟩
theorem vfne (f : FV) : Statement (.vfne f) := ⟨(by decide : 0x145 < 1024), lowV_lt f⟩
theorem vflt (f : FV) : Statement (.vflt f) := ⟨(by decide : 0x146 < 1024), lowV_lt f⟩
theorem vfle (f : FV) : Statement (.vfle f) := ⟨(by decide : 0x147 < 1024), lowV_lt f⟩
theorem vford (f : FV) : Statement (.vford f) := ⟨(by decide : 0x148 < 1024), lowV_lt f⟩
theorem vfadd (f : FV) : Statement (.vfadd f) := ⟨(by decide : 0x150 < 1024), lowV_lt f⟩
theorem vfsub (f : FV) : Statement (.vfsub f) := ⟨(by decide : 0x151 < 1024), lowV_lt f⟩
theorem vfmul (f : FV) : Statement (.vfmul f) := ⟨(by decide : 0x152 < 1024), lowV_lt f⟩
theorem vfdiv (f : FV) : Statement (.vfdiv f) := ⟨(by decide : 0x153 < 1024), lowV_lt f⟩
theorem vfsqrt (f : FV) : Statement (.vfsqrt f) := ⟨(by decide : 0x154 < 1024), lowV_lt f⟩
theorem vfma (f : FV) : Statement (.vfma f) := ⟨(by decide : 0x155 < 1024), lowV_lt f⟩
theorem vfms (f : FV) : Statement (.vfms f) := ⟨(by decide : 0x156 < 1024), lowV_lt f⟩
theorem vfnma (f : FV) : Statement (.vfnma f) := ⟨(by decide : 0x157 < 1024), lowV_lt f⟩
theorem vfmin (f : FV) : Statement (.vfmin f) := ⟨(by decide : 0x158 < 1024), lowV_lt f⟩
theorem vfmax (f : FV) : Statement (.vfmax f) := ⟨(by decide : 0x159 < 1024), lowV_lt f⟩
theorem vfsgn (f : FV) : Statement (.vfsgn f) := ⟨(by decide : 0x15A < 1024), lowV_lt f⟩
theorem vfcvt (f : FV) : Statement (.vfcvt f) := ⟨(by decide : 0x15B < 1024), lowV_lt f⟩
theorem vfclass (f : FV) : Statement (.vfclass f) := ⟨(by decide : 0x15C < 1024), lowV_lt f⟩
theorem vfexp (f : FV) : Statement (.vfexp f) := ⟨(by decide : 0x15D < 1024), lowV_lt f⟩
theorem vflog (f : FV) : Statement (.vflog f) := ⟨(by decide : 0x15E < 1024), lowV_lt f⟩
theorem vmerge (f : FV) : Statement (.vmerge f) := ⟨(by decide : 0x160 < 1024), lowV_lt f⟩
theorem vmov (f : FV) : Statement (.vmov f) := ⟨(by decide : 0x161 < 1024), lowV_lt f⟩
theorem vsplat (f : FV) : Statement (.vsplat f) := ⟨(by decide : 0x162 < 1024), lowV_lt f⟩
theorem vtog (f : FV) : Statement (.vtog f) := ⟨(by decide : 0x163 < 1024), lowV_lt f⟩
theorem vfromg (f : FV) : Statement (.vfromg f) := ⟨(by decide : 0x164 < 1024), lowV_lt f⟩
theorem vext (f : FV) : Statement (.vext f) := ⟨(by decide : 0x165 < 1024), lowV_lt f⟩
theorem vindex (f : FV) : Statement (.vindex f) := ⟨(by decide : 0x166 < 1024), lowV_lt f⟩
theorem vprefix (f : FV) : Statement (.vprefix f) := ⟨(by decide : 0x167 < 1024), lowV_lt f⟩
theorem vslup (f : FV) : Statement (.vslup f) := ⟨(by decide : 0x168 < 1024), lowV_lt f⟩
theorem vsldn (f : FV) : Statement (.vsldn f) := ⟨(by decide : 0x169 < 1024), lowV_lt f⟩
theorem vsl1up (f : FV) : Statement (.vsl1up f) := ⟨(by decide : 0x16A < 1024), lowV_lt f⟩
theorem vsl1dn (f : FV) : Statement (.vsl1dn f) := ⟨(by decide : 0x16B < 1024), lowV_lt f⟩
theorem vperm (f : FV) : Statement (.vperm f) := ⟨(by decide : 0x16C < 1024), lowV_lt f⟩
theorem vpack (f : FV) : Statement (.vpack f) := ⟨(by decide : 0x16D < 1024), lowV_lt f⟩
theorem mand (f : FV) : Statement (.mand f) := ⟨(by decide : 0x170 < 1024), lowV_lt f⟩
theorem mor (f : FV) : Statement (.mor f) := ⟨(by decide : 0x171 < 1024), lowV_lt f⟩
theorem mxor (f : FV) : Statement (.mxor f) := ⟨(by decide : 0x172 < 1024), lowV_lt f⟩
theorem mandn (f : FV) : Statement (.mandn f) := ⟨(by decide : 0x173 < 1024), lowV_lt f⟩
theorem mmov (f : FV) : Statement (.mmov f) := ⟨(by decide : 0x174 < 1024), lowV_lt f⟩
theorem mfromv (f : FV) : Statement (.mfromv f) := ⟨(by decide : 0x175 < 1024), lowV_lt f⟩
theorem mtov (f : FV) : Statement (.mtov f) := ⟨(by decide : 0x176 < 1024), lowV_lt f⟩
theorem mpopc (f : FV) : Statement (.mpopc f) := ⟨(by decide : 0x177 < 1024), lowV_lt f⟩
theorem mffs (f : FV) : Statement (.mffs f) := ⟨(by decide : 0x178 < 1024), lowV_lt f⟩
theorem mbefore (f : FV) : Statement (.mbefore f) := ⟨(by decide : 0x179 < 1024), lowV_lt f⟩
theorem mthrough (f : FV) : Statement (.mthrough f) := ⟨(by decide : 0x17A < 1024), lowV_lt f⟩
theorem monly (f : FV) : Statement (.monly f) := ⟨(by decide : 0x17B < 1024), lowV_lt f⟩
theorem vrsum (f : FV) : Statement (.vrsum f) := ⟨(by decide : 0x180 < 1024), lowV_lt f⟩
theorem vrmax (f : FV) : Statement (.vrmax f) := ⟨(by decide : 0x181 < 1024), lowV_lt f⟩
theorem vrmin (f : FV) : Statement (.vrmin f) := ⟨(by decide : 0x182 < 1024), lowV_lt f⟩
theorem vrand (f : FV) : Statement (.vrand f) := ⟨(by decide : 0x183 < 1024), lowV_lt f⟩
theorem vror (f : FV) : Statement (.vror f) := ⟨(by decide : 0x184 < 1024), lowV_lt f⟩
theorem vrxor (f : FV) : Statement (.vrxor f) := ⟨(by decide : 0x185 < 1024), lowV_lt f⟩
theorem vwrsum (f : FV) : Statement (.vwrsum f) := ⟨(by decide : 0x186 < 1024), lowV_lt f⟩
theorem vfrsum (f : FV) : Statement (.vfrsum f) := ⟨(by decide : 0x187 < 1024), lowV_lt f⟩
theorem vfrsumt (f : FV) : Statement (.vfrsumt f) := ⟨(by decide : 0x188 < 1024), lowV_lt f⟩
theorem vfrmax (f : FV) : Statement (.vfrmax f) := ⟨(by decide : 0x189 < 1024), lowV_lt f⟩
theorem vfrmin (f : FV) : Statement (.vfrmin f) := ⟨(by decide : 0x18A < 1024), lowV_lt f⟩
theorem vld (f : FM) : Statement (.vld f) := ⟨(by decide : 0x200 < 1024), lowM_lt f⟩
theorem vlds (f : FM) : Statement (.vlds f) := ⟨(by decide : 0x201 < 1024), lowM_lt f⟩
theorem vldx (f : FM) : Statement (.vldx f) := ⟨(by decide : 0x202 < 1024), lowM_lt f⟩
theorem vldff (f : FM) : Statement (.vldff f) := ⟨(by decide : 0x203 < 1024), lowM_lt f⟩
theorem vldm (f : FM) : Statement (.vldm f) := ⟨(by decide : 0x204 < 1024), lowM_lt f⟩
theorem vst (f : FM) : Statement (.vst f) := ⟨(by decide : 0x205 < 1024), lowM_lt f⟩
theorem vsts (f : FM) : Statement (.vsts f) := ⟨(by decide : 0x206 < 1024), lowM_lt f⟩
theorem vstx (f : FM) : Statement (.vstx f) := ⟨(by decide : 0x207 < 1024), lowM_lt f⟩
theorem vstxo (f : FM) : Statement (.vstxo f) := ⟨(by decide : 0x208 < 1024), lowM_lt f⟩
theorem vstm (f : FM) : Statement (.vstm f) := ⟨(by decide : 0x209 < 1024), lowM_lt f⟩
theorem vamoswap (f : FA) : Statement (.vamoswap f) := ⟨(by decide : 0x210 < 1024), lowA_lt f⟩
theorem vamoadd (f : FA) : Statement (.vamoadd f) := ⟨(by decide : 0x211 < 1024), lowA_lt f⟩
theorem vamoand (f : FA) : Statement (.vamoand f) := ⟨(by decide : 0x212 < 1024), lowA_lt f⟩
theorem vamoor (f : FA) : Statement (.vamoor f) := ⟨(by decide : 0x213 < 1024), lowA_lt f⟩
theorem vamoxor (f : FA) : Statement (.vamoxor f) := ⟨(by decide : 0x214 < 1024), lowA_lt f⟩
theorem vamomin (f : FA) : Statement (.vamomin f) := ⟨(by decide : 0x215 < 1024), lowA_lt f⟩
theorem vamomax (f : FA) : Statement (.vamomax f) := ⟨(by decide : 0x216 < 1024), lowA_lt f⟩
theorem vamominu (f : FA) : Statement (.vamominu f) := ⟨(by decide : 0x217 < 1024), lowA_lt f⟩
theorem vamomaxu (f : FA) : Statement (.vamomaxu f) := ⟨(by decide : 0x218 < 1024), lowA_lt f⟩
theorem vamofadd (f : FA) : Statement (.vamofadd f) := ⟨(by decide : 0x219 < 1024), lowA_lt f⟩
theorem vgll (f : FA) : Statement (.vgll f) := ⟨(by decide : 0x21A < 1024), lowA_lt f⟩
theorem vscc (f : FA) : Statement (.vscc f) := ⟨(by decide : 0x21B < 1024), lowA_lt f⟩
theorem vwait (f : FE) : Statement (.vwait f) := ⟨(by decide : 0x220 < 1024), lowE_lt f⟩
theorem vsredadd (f : FV) : Statement (.vsredadd f) := ⟨(by decide : 0x228 < 1024), lowV_lt f⟩
theorem vsredmax (f : FV) : Statement (.vsredmax f) := ⟨(by decide : 0x229 < 1024), lowV_lt f⟩
theorem vsredmin (f : FV) : Statement (.vsredmin f) := ⟨(by decide : 0x22A < 1024), lowV_lt f⟩
theorem vsredfadd (f : FV) : Statement (.vsredfadd f) := ⟨(by decide : 0x22B < 1024), lowV_lt f⟩
theorem vmredadd (f : FV) : Statement (.vmredadd f) := ⟨(by decide : 0x22C < 1024), lowV_lt f⟩
theorem vmredmax (f : FV) : Statement (.vmredmax f) := ⟨(by decide : 0x22D < 1024), lowV_lt f⟩
theorem vmredmin (f : FV) : Statement (.vmredmin f) := ⟨(by decide : 0x22E < 1024), lowV_lt f⟩
theorem vmredfadd (f : FV) : Statement (.vmredfadd f) := ⟨(by decide : 0x22F < 1024), lowV_lt f⟩
theorem tres (f : FE) : Statement (.tres f) := ⟨(by decide : 0x240 < 1024), lowE_lt f⟩
theorem tevict (f : FE) : Statement (.tevict f) := ⟨(by decide : 0x241 < 1024), lowE_lt f⟩
theorem tdemote (f : FE) : Statement (.tdemote f) := ⟨(by decide : 0x242 < 1024), lowE_lt f⟩
theorem stmap (f : FS) : Statement (.stmap f) := ⟨(by decide : 0x243 < 1024), lowS_lt f⟩
theorem cways (f : FI) : Statement (.cways f) := ⟨(by decide : 0x244 < 1024), lowI_lt f⟩
theorem vmmad (f : FV) : Statement (.vmmad f) := ⟨(by decide : 0x280 < 1024), lowV_lt f⟩
theorem vmmar (f : FV) : Statement (.vmmar f) := ⟨(by decide : 0x281 < 1024), lowV_lt f⟩
theorem vmmao (f : FV) : Statement (.vmmao f) := ⟨(by decide : 0x282 < 1024), lowV_lt f⟩
theorem vmmas (f : FV) : Statement (.vmmas f) := ⟨(by decide : 0x283 < 1024), lowV_lt f⟩
theorem vlgmul (f : FV) : Statement (.vlgmul f) := ⟨(by decide : 0x288 < 1024), lowV_lt f⟩
theorem vlgacc (f : FV) : Statement (.vlgacc f) := ⟨(by decide : 0x289 < 1024), lowV_lt f⟩
theorem vlgcvt (f : FV) : Statement (.vlgcvt f) := ⟨(by decide : 0x28A < 1024), lowV_lt f⟩
theorem vscale (f : FV) : Statement (.vscale f) := ⟨(by decide : 0x290 < 1024), lowV_lt f⟩
theorem vamax (f : FV) : Statement (.vamax f) := ⟨(by decide : 0x291 < 1024), lowV_lt f⟩
theorem vquant (f : FV) : Statement (.vquant f) := ⟨(by decide : 0x292 < 1024), lowV_lt f⟩
theorem bxg (f : FE) : Statement (.bxg f) := ⟨(by decide : 0x2C0 < 1024), lowE_lt f⟩
theorem bxc (f : FE) : Statement (.bxc f) := ⟨(by decide : 0x2C1 < 1024), lowE_lt f⟩
theorem bxsRow (f : FE) : Statement (.bxsRow f) := ⟨(by decide : 0x2C2 < 1024), lowE_lt f⟩
theorem bxsStream (f : FE) : Statement (.bxsStream f) := ⟨(by decide : 0x2C2 < 1024), lowE_lt f⟩
theorem shinit (f : FE) : Statement (.shinit f) := ⟨(by decide : 0x2C8 < 1024), lowE_lt f⟩
theorem shacq (f : FE) : Statement (.shacq f) := ⟨(by decide : 0x2C9 < 1024), lowE_lt f⟩
theorem shcom (f : FE) : Statement (.shcom f) := ⟨(by decide : 0x2CA < 1024), lowE_lt f⟩
theorem shwait (f : FE) : Statement (.shwait f) := ⟨(by decide : 0x2CB < 1024), lowE_lt f⟩
theorem shrel (f : FE) : Statement (.shrel f) := ⟨(by decide : 0x2CC < 1024), lowE_lt f⟩
theorem bset (f : FE) : Statement (.bset f) := ⟨(by decide : 0x2D0 < 1024), lowE_lt f⟩
theorem barv (f : FE) : Statement (.barv f) := ⟨(by decide : 0x2D1 < 1024), lowE_lt f⟩
theorem bwait (f : FE) : Statement (.bwait f) := ⟨(by decide : 0x2D2 < 1024), lowE_lt f⟩
theorem bexp (f : FE) : Statement (.bexp f) := ⟨(by decide : 0x2D3 < 1024), lowE_lt f⟩
theorem bret (f : FE) : Statement (.bret f) := ⟨(by decide : 0x2D4 < 1024), lowE_lt f⟩
theorem tkdef (f : FE) : Statement (.tkdef f) := ⟨(by decide : 0x2D8 < 1024), lowE_lt f⟩
theorem tkdep (f : FE) : Statement (.tkdep f) := ⟨(by decide : 0x2D9 < 1024), lowE_lt f⟩
theorem tksig (f : FE) : Statement (.tksig f) := ⟨(by decide : 0x2DA < 1024), lowE_lt f⟩
theorem tkspawn (f : FE) : Statement (.tkspawn f) := ⟨(by decide : 0x2DB < 1024), lowE_lt f⟩
theorem tkend (f : FE) : Statement (.tkend f) := ⟨(by decide : 0x2DC < 1024), lowE_lt f⟩
theorem tkfree (f : FE) : Statement (.tkfree f) := ⟨(by decide : 0x2DD < 1024), lowE_lt f⟩
theorem sfstart (f : FE) : Statement (.sfstart f) := ⟨(by decide : 0x2E0 < 1024), lowE_lt f⟩
theorem sfnext (f : FE) : Statement (.sfnext f) := ⟨(by decide : 0x2E1 < 1024), lowE_lt f⟩
theorem sfend (f : FE) : Statement (.sfend f) := ⟨(by decide : 0x2E2 < 1024), lowE_lt f⟩
theorem drpush (f : FE) : Statement (.drpush f) := ⟨(by decide : 0x2E8 < 1024), lowE_lt f⟩
theorem drpop (f : FE) : Statement (.drpop f) := ⟨(by decide : 0x2E9 < 1024), lowE_lt f⟩
theorem drgn (f : FE) : Statement (.drgn f) := ⟨(by decide : 0x300 < 1024), lowE_lt f⟩
theorem dmode (f : FI) : Statement (.dmode f) := ⟨(by decide : 0x301 < 1024), lowI_lt f⟩
theorem dtape (f : FS) : Statement (.dtape f) := ⟨(by decide : 0x302 < 1024), lowS_lt f⟩
theorem drest (f : FI) : Statement (.drest f) := ⟨(by decide : 0x303 < 1024), lowI_lt f⟩
theorem dmark (f : FI) : Statement (.dmark f) := ⟨(by decide : 0x304 < 1024), lowI_lt f⟩
theorem kpage (f : FE) : Statement (.kpage f) := ⟨(by decide : 0x320 < 1024), lowE_lt f⟩
theorem ksel (f : FE) : Statement (.ksel f) := ⟨(by decide : 0x321 < 1024), lowE_lt f⟩
theorem kgat (f : FE) : Statement (.kgat f) := ⟨(by decide : 0x322 < 1024), lowE_lt f⟩
theorem ksync (f : FE) : Statement (.ksync f) := ⟨(by decide : 0x323 < 1024), lowE_lt f⟩
theorem packageReset : Statement .packageReset := ⟨(by decide : 0 < 1024), (by decide : 0 < 2 ^ 22)⟩
theorem bootHartStart : Statement .bootHartStart := ⟨(by decide : 0 < 1024), (by decide : 0 < 2 ^ 22)⟩
theorem hrun (x : BitVec 64) : Statement (.hrun x) := ⟨(by decide : 0 < 1024), (by decide : 0 < 2 ^ 22)⟩
theorem controlRegisterWrite (n : BitVec 12) (x : BitVec 64) : Statement (.controlRegisterWrite n x) := ⟨(by decide : 0 < 1024), (by decide : 0 < 2 ^ 22)⟩
theorem atpWrite (x : BitVec 64) : Statement (.atpWrite x) := ⟨(by decide : 0 < 1024), (by decide : 0 < 2 ^ 22)⟩
theorem timeWrite (x : BitVec 64) : Statement (.timeWrite x) := ⟨(by decide : 0 < 1024), (by decide : 0 < 2 ^ 22)⟩
theorem poolCarveWrite (n : BitVec 12) (x : BitVec 64) : Statement (.poolCarveWrite n x) := ⟨(by decide : 0 < 1024), (by decide : 0 < 2 ^ 22)⟩
theorem callotWrite (x : BitVec 64) : Statement (.callotWrite x) := ⟨(by decide : 0 < 1024), (by decide : 0 < 2 ^ 22)⟩
theorem droopClear : Statement .droopClear := ⟨(by decide : 0 < 1024), (by decide : 0 < 2 ^ 22)⟩
theorem keyLoad : Statement .keyLoad := ⟨(by decide : 0 < 1024), (by decide : 0 < 2 ^ 22)⟩
theorem keyErase : Statement .keyErase := ⟨(by decide : 0 < 1024), (by decide : 0 < 2 ^ 22)⟩
theorem contextExport : Statement .contextExport := ⟨(by decide : 0 < 1024), (by decide : 0 < 2 ^ 22)⟩
theorem contextImport : Statement .contextImport := ⟨(by decide : 0 < 1024), (by decide : 0 < 2 ^ 22)⟩
theorem blkownWrite (x : BitVec 64) : Statement (.blkownWrite x) := ⟨(by decide : 0 < 1024), (by decide : 0 < 2 ^ 22)⟩
theorem doorbell (ctx : Nat) (x : BitVec 64) : Statement (.doorbell ctx x) := ⟨(by decide : 0 < 1024), (by decide : 0 < 2 ^ 22)⟩
theorem ckrun (x : BitVec 64) : Statement (.ckrun x) := ⟨(by decide : 0 < 1024), (by decide : 0 < 2 ^ 22)⟩
theorem snapshotPoint : Statement .snapshotPoint := ⟨(by decide : 0 < 1024), (by decide : 0 < 2 ^ 22)⟩
theorem checkpointBlockStream (block : Nat) : Statement (.checkpointBlockStream block) := ⟨(by decide : 0 < 1024), (by decide : 0 < 2 ^ 22)⟩
theorem asyncEventTake : Statement .asyncEventTake := ⟨(by decide : 0 < 1024), (by decide : 0 < 2 ^ 22)⟩
theorem vectorFaultDelivery : Statement .vectorFaultDelivery := ⟨(by decide : 0 < 1024), (by decide : 0 < 2 ^ 22)⟩
theorem grantLoss : Statement .grantLoss := ⟨(by decide : 0 < 1024), (by decide : 0 < 2 ^ 22)⟩
theorem poisonRecord : Statement .poisonRecord := ⟨(by decide : 0 < 1024), (by decide : 0 < 2 ^ 22)⟩
theorem memoryError (loc : Nat) : Statement (.memoryError loc) := ⟨(by decide : 0 < 1024), (by decide : 0 < 2 ^ 22)⟩
theorem laneError (core lane : Nat) (reg : BitVec 5) (unc : Bool) : Statement (.laneError core lane reg unc) := ⟨(by decide : 0 < 1024), (by decide : 0 < 2 ^ 22)⟩
theorem unitError (kind index : Nat) (unc : Bool) : Statement (.unitError kind index unc) := ⟨(by decide : 0 < 1024), (by decide : 0 < 2 ^ 22)⟩
theorem errorAgeOut (kind index : Nat) : Statement (.errorAgeOut kind index) := ⟨(by decide : 0 < 1024), (by decide : 0 < 2 ^ 22)⟩
theorem budgetRefresh (x : PowerReport) : Statement (.budgetRefresh x) := ⟨(by decide : 0 < 1024), (by decide : 0 < 2 ^ 22)⟩
theorem quotaRefill (ctx : Nat) : Statement (.quotaRefill ctx) := ⟨(by decide : 0 < 1024), (by decide : 0 < 2 ^ 22)⟩
theorem hardShrink (lanes : Nat) : Statement (.hardShrink lanes) := ⟨(by decide : 0 < 1024), (by decide : 0 < 2 ^ 22)⟩
theorem scriptShrinkCount : Statement .scriptShrinkCount := ⟨(by decide : 0 < 1024), (by decide : 0 < 2 ^ 22)⟩
theorem currentLimitEmergency (core : Nat) : Statement (.currentLimitEmergency core) := ⟨(by decide : 0 < 1024), (by decide : 0 < 2 ^ 22)⟩
theorem phaseTrip (region phase : Nat) (unc : Bool) : Statement (.phaseTrip region phase unc) := ⟨(by decide : 0 < 1024), (by decide : 0 < 2 ^ 22)⟩
theorem phaseReturn (region phase : Nat) (pass : Bool) : Statement (.phaseReturn region phase pass) := ⟨(by decide : 0 < 1024), (by decide : 0 < 2 ^ 22)⟩
theorem supplyDroop (region millivolts step : Nat) : Statement (.supplyDroop region millivolts step) := ⟨(by decide : 0 < 1024), (by decide : 0 < 2 ^ 22)⟩
theorem regulatorFail (region : Nat) (dirty : List Nat) : Statement (.regulatorFail region dirty) := ⟨(by decide : 0 < 1024), (by decide : 0 < 2 ^ 22)⟩
theorem sensorSample (die : Nat) (x : List Reading) : Statement (.sensorSample die x) := ⟨(by decide : 0 < 1024), (by decide : 0 < 2 ^ 22)⟩
theorem clusterWakeRequest (core : Nat) (clusters : BitVec 16) : Statement (.clusterWakeRequest core clusters) := ⟨(by decide : 0 < 1024), (by decide : 0 < 2 ^ 22)⟩
theorem wakeNeighbourClear (core : Nat) : Statement (.wakeNeighbourClear core) := ⟨(by decide : 0 < 1024), (by decide : 0 < 2 ^ 22)⟩
theorem wakeWaitTimeout (core : Nat) : Statement (.wakeWaitTimeout core) := ⟨(by decide : 0 < 1024), (by decide : 0 < 2 ^ 22)⟩
theorem wakeStageStep (core : Nat) : Statement (.wakeStageStep core) := ⟨(by decide : 0 < 1024), (by decide : 0 < 2 ^ 22)⟩
theorem taskPlace (ctx slot : Nat) (harts : List Nat) : Statement (.taskPlace ctx slot harts) := ⟨(by decide : 0 < 1024), (by decide : 0 < 2 ^ 22)⟩
theorem preemptWaitExpiry (ctx slot : Nat) : Statement (.preemptWaitExpiry ctx slot) := ⟨(by decide : 0 < 1024), (by decide : 0 < 2 ^ 22)⟩
theorem stripBoundaryPreempt : Statement .stripBoundaryPreempt := ⟨(by decide : 0 < 1024), (by decide : 0 < 2 ^ 22)⟩
theorem immediatePreempt : Statement .immediatePreempt := ⟨(by decide : 0 < 1024), (by decide : 0 < 2 ^ 22)⟩
theorem stripPreemptTimeout : Statement .stripPreemptTimeout := ⟨(by decide : 0 < 1024), (by decide : 0 < 2 ^ 22)⟩
theorem farmRecruit (hart : Nat) : Statement (.farmRecruit hart) := ⟨(by decide : 0 < 1024), (by decide : 0 < 2 ^ 22)⟩
theorem parkWake : Statement .parkWake := ⟨(by decide : 0 < 1024), (by decide : 0 < 2 ^ 22)⟩
theorem parkTimeout : Statement .parkTimeout := ⟨(by decide : 0 < 1024), (by decide : 0 < 2 ^ 22)⟩
theorem vwaitTimeout : Statement .vwaitTimeout := ⟨(by decide : 0 < 1024), (by decide : 0 < 2 ^ 22)⟩
theorem vwaitSatisfied : Statement .vwaitSatisfied := ⟨(by decide : 0 < 1024), (by decide : 0 < 2 ^ 22)⟩
theorem shelfWaitEnd : Statement .shelfWaitEnd := ⟨(by decide : 0 < 1024), (by decide : 0 < 2 ^ 22)⟩
theorem barrierWaitEnd : Statement .barrierWaitEnd := ⟨(by decide : 0 < 1024), (by decide : 0 < 2 ^ 22)⟩
theorem tokenArrival : Statement .tokenArrival := ⟨(by decide : 0 < 1024), (by decide : 0 < 2 ^ 22)⟩
theorem drawerRoom : Statement .drawerRoom := ⟨(by decide : 0 < 1024), (by decide : 0 < 2 ^ 22)⟩
theorem chunkComplete (x j : Nat) : Statement (.chunkComplete x j) := ⟨(by decide : 0 < 1024), (by decide : 0 < 2 ^ 22)⟩
theorem transferRetire (x : Nat) : Statement (.transferRetire x) := ⟨(by decide : 0 < 1024), (by decide : 0 < 2 ^ 22)⟩
theorem amaxDrainApply (k : Nat) : Statement (.amaxDrainApply k) := ⟨(by decide : 0 < 1024), (by decide : 0 < 2 ^ 22)⟩
theorem migrateLineCopy (block : Nat) : Statement (.migrateLineCopy block) := ⟨(by decide : 0 < 1024), (by decide : 0 < 2 ^ 22)⟩
theorem migrateCommit (block : Nat) : Statement (.migrateCommit block) := ⟨(by decide : 0 < 1024), (by decide : 0 < 2 ^ 22)⟩
theorem wpMigrateLineCopy (block line : Nat) : Statement (.wpMigrateLineCopy block line) := ⟨(by decide : 0 < 1024), (by decide : 0 < 2 ^ 22)⟩
theorem wpMigrateCommit (block : Nat) : Statement (.wpMigrateCommit block) := ⟨(by decide : 0 < 1024), (by decide : 0 < 2 ^ 22)⟩
theorem flitReceive (port : Nat) (ok : Bool) : Statement (.flitReceive port ok) := ⟨(by decide : 0 < 1024), (by decide : 0 < 2 ^ 22)⟩
theorem portDown (port : Nat) : Statement (.portDown port) := ⟨(by decide : 0 < 1024), (by decide : 0 < 2 ^ 22)⟩
theorem remoteRequest (x : RemoteReq) : Statement (.remoteRequest x) := ⟨(by decide : 0 < 1024), (by decide : 0 < 2 ^ 22)⟩
theorem remoteAck (id : Nat) : Statement (.remoteAck id) := ⟨(by decide : 0 < 1024), (by decide : 0 < 2 ^ 22)⟩
theorem hostMemWrite (off : Nat) (bytes : List (BitVec 8)) : Statement (.hostMemWrite off bytes) := ⟨(by decide : 0 < 1024), (by decide : 0 < 2 ^ 22)⟩
theorem hostMemRead (off n : Nat) : Statement (.hostMemRead off n) := ⟨(by decide : 0 < 1024), (by decide : 0 < 2 ^ 22)⟩
theorem cxlLinkUp (width flit : Nat) : Statement (.cxlLinkUp width flit) := ⟨(by decide : 0 < 1024), (by decide : 0 < 2 ^ 22)⟩
theorem cxlLinkDown : Statement .cxlLinkDown := ⟨(by decide : 0 < 1024), (by decide : 0 < 2 ^ 22)⟩
theorem getVersion : Statement .getVersion := ⟨(by decide : 0 < 1024), (by decide : 0 < 2 ^ 22)⟩
theorem getCapabilities : Statement .getCapabilities := ⟨(by decide : 0 < 1024), (by decide : 0 < 2 ^ 22)⟩
theorem negotiateAlgorithms (p521 sha512 : Bool) : Statement (.negotiateAlgorithms p521 sha512) := ⟨(by decide : 0 < 1024), (by decide : 0 < 2 ^ 22)⟩
theorem getDigests : Statement .getDigests := ⟨(by decide : 0 < 1024), (by decide : 0 < 2 ^ 22)⟩
theorem getCertificate : Statement .getCertificate := ⟨(by decide : 0 < 1024), (by decide : 0 < 2 ^ 22)⟩
theorem challenge (nonce : BitVec 256) : Statement (.challenge nonce) := ⟨(by decide : 0 < 1024), (by decide : 0 < 2 ^ 22)⟩
theorem getMeasurements (index ctx : Nat) : Statement (.getMeasurements index ctx) := ⟨(by decide : 0 < 1024), (by decide : 0 < 2 ^ 22)⟩
theorem unsupportedRequest (code : BitVec 8) : Statement (.unsupportedRequest code) := ⟨(by decide : 0 < 1024), (by decide : 0 < 2 ^ 22)⟩
theorem decodeTableMiss (w : BitVec 32) : Statement (.decodeTableMiss w) := ⟨(by decide : 0 < 1024), (by decide : 0 < 2 ^ 22)⟩
theorem instructionFetchFault : Statement .instructionFetchFault := ⟨(by decide : 0 < 1024), (by decide : 0 < 2 ^ 22)⟩
theorem timeTick (cycles ticks : Nat) : Statement (.timeTick cycles ticks) := ⟨(by decide : 0 < 1024), (by decide : 0 < 2 ^ 22)⟩
theorem commandDispatch : Statement .commandDispatch := ⟨(by decide : 0 < 1024), (by decide : 0 < 2 ^ 22)⟩
theorem portUp (port : Nat) : Statement (.portUp port) := ⟨(by decide : 0 < 1024), (by decide : 0 < 2 ^ 22)⟩
theorem railRemoval : Statement .railRemoval := ⟨(by decide : 0 < 1024), (by decide : 0 < 2 ^ 22)⟩
theorem controlPageWrite (off : Nat) (x : BitVec 64) : Statement (.controlPageWrite off x) := ⟨(by decide : 0 < 1024), (by decide : 0 < 2 ^ 22)⟩
theorem pstatWrite (x : BitVec 64) : Statement (.pstatWrite x) := ⟨(by decide : 0 < 1024), (by decide : 0 < 2 ^ 22)⟩

end Sys2Proof.Laws.Fits
end

