-- ==== Sys2Proof/Laws/Queue.lean ====
section
/-! SUPPORT. What a vector command does when it issues on a quiet hart: it dispatches at once, and its run ends in one of
three ways. -/

namespace Sys2Proof.Machine

/-- With nothing queued, nothing of a command is still to come. -/
theorem Hart.undone_nil {h : Hart} (e : h.queue = []) : h.undone = [] := by simp [Hart.undone, e]

/-- A completion word that no other loop context shares (R176, R339). -/
theorem putWord_alone {s : State} {x : Xfer} {r : Nat} (h : (s.hart x.hart).farm = none ∨ r < 24) :
    putWord s x r = s.setHart x.hart { (s.hart x.hart).wr r x.word with gwait := (s.hart x.hart).gwait.erase r } := by
  unfold putWord
  split
  · next o i e => rw [if_neg (by rcases h with h | h; · rw [e] at h; cases h
                                 · omega)]
  · rfl

/-- A quiet hart has no register to wait for. -/
theorem mustWait_quiet {s : State} (q : Quiet s) (regs : List Nat) : mustWait s.me regs = false := by
  obtain ⟨h1, h2, -⟩ := q
  simp [mustWait, gBusy, Hart.undone_nil h1, h2]

/-- No grant script is in force on a quiet hart. -/
theorem scriptHead_quiet {v : VecRegs} (h : bit v.gsctl 15 = false) : scriptHead v = none := by simp [scriptHead, h]

theorem headShrink_quiet {s : State} {hart : Nat} (now : Bool) (h : bit (s.hart hart).vec.gsctl 15 = false) :
    headShrink s hart now = none := by simp [headShrink, scriptHead_quiet h]

theorem scriptShrink_quiet {s : State} {hart : Nat} (now : Bool) (h : bit (s.hart hart).vec.gsctl 15 = false) :
    scriptShrink s hart now = s := by cases now <;> simp [scriptShrink, headShrinks, headShrink_quiet _ h]

/-- A command that completes where no script is in force is counted, and nothing else. -/
theorem countCommand_quiet {s : State} {hart : Nat} (h : bit (s.hart hart).vec.gsctl 15 = false) :
    countCommand s hart = s.setHart hart { s.hart hart with
      vec := { (s.hart hart).vec with stripDone := (s.hart hart).vec.stripDone + 1 } } := by
  simp only [countCommand, scriptHead_quiet h]
  rw [scriptShrink_quiet]
  · simp
  · simpa using h

/-- A command other than SETVL, SETVLK and SFNEXT that completes where no script is in force is counted. -/
theorem completed_quiet {s : State} {i : Instr} (g : isGrant i = false) (h : bit s.me.vec.gsctl 15 = false) :
    completed s i = s.setMe { s.me with vec := { s.me.vec with stripDone := s.me.vec.stripDone + 1 } } := by
  simp only [completed, g, Bool.false_eq_true, if_false]
  exact countCommand_quiet h

/-- A hart at the level of its own command stays as it is. -/
@[simp] theorem atLevel_self (s : State) : atLevel s s.me.priv = s := by simp [atLevel]

/-- A context under its own ATP stays as it is. -/
@[simp] theorem withAtp_self (s : State) (n : Nat) : withAtp s n (s.ctx n).atp = s := by simp [withAtp]

/-- The command that a quiet hart issues. -/
theorem cmdOf_priv (s : State) (i : Instr) (regs : List Nat) (fs : Option (BitVec 3)) :
    (cmdOf s i regs fs).priv = BitVec.ofNat 2 s.me.priv := rfl

/-- A level has two bits. -/
theorem priv_lt (h : Hart) : h.priv < 4 := by
  simp only [Hart.priv, fld]
  exact Nat.mod_lt _ (by decide)

/-- A vector command that a quiet hart issues outside a farm runs at once, in the state whose PC has advanced. -/
theorem issue_quiet {s : State} (q : Quiet s) (i : Instr) (regs : List Nat) (fs : Option (BitVec 3))
    (run : Cmd → State → CRes) :
    issue s i regs fs run = .next (attempt (s.setMe s.me.adv) 0 (cmdOf s i regs fs) run) := by
  have hw := mustWait_quiet q
  obtain ⟨h1, h2, h3, h4, h5, h6, h7, h8⟩ := q
  simp [issue, h1, h2, h4, hw, shares2, State.pick, h7, startable, owesDeposit, h8, Hart.adv, h3]

/-- How a command that has no earlier dispatch ends outside a farm and with no script in force, at the level and under the ATP
of its decode: it completes, it waits, or its fault is pending. -/
theorem attempt_cases {s : State} (hs : bit s.me.vec.gsctl 15 = false) (hf : s.me.farm = none) (k : Nat) (c : Cmd)
    (hc : c.first = none) (hp : c.priv.toNat = s.me.priv) (ha : c.atp = s.myCtx.atp) (run : Cmd → State → CRes) :
    attempt s k c run = (match run c s with
      | .done t => completed (atLevel (withAtp t s.me.ctx s.myCtx.atp) s.me.priv) c.ins
      | .wait t c' => let t := atLevel (withAtp t s.me.ctx s.myCtx.atp) s.me.priv; t.setQueue (putAt k c' t.me.queue)
      | .fault t c' ca rix hints =>
        let t := atLevel (withAtp t s.me.ctx s.myCtx.atp) s.me.priv
        let c' := { c' with resume := rix, started := true, first := some (s.me.vec.sewc, s.me.vec.gc, s.me.vec.vl) }
        t.setMe { t.me with queue := putAt k c' t.me.queue,
                            flt := { t.me.flt with pending := some ⟨0, ca.code, ca.tval, rix, k, hints⟩ } }) := by
  unfold attempt
  rw [scriptShrink_quiet (s := s) false hs]
  have hw : withAtp s s.me.ctx c.atp = s := by rw [ha]; exact withAtp_self s s.me.ctx
  simp only [hc, reshape, hf, Option.isSome_none, Bool.false_and, Bool.false_eq_true, if_false, runAt, hp, atLevel_self, hw]
  cases run c s <;> rfl

/-- A vector command that a quiet hart issues and whose run is done has completed. -/
theorem issue_done {s t : State} (q : Quiet s) {i : Instr} {regs : List Nat} {fs : Option (BitVec 3)}
    {run : Cmd → State → CRes} (h : run (cmdOf s i regs fs) (s.setMe s.me.adv) = .done t) (hp : t.me.priv = s.me.priv)
    (ha : (t.ctx s.me.ctx).atp = s.myCtx.atp) : issue s i regs fs run = .next (completed t i) := by
  rw [issue_quiet q]
  obtain ⟨h1, h2, h3, h4, h5, h6, h7, h8⟩ := q
  have hl := priv_lt s.me
  rw [attempt_cases (by simpa [Hart.adv] using h5) (by simpa [Hart.adv] using h6) 0 _ rfl
    (by simp only [cmdOf_priv, me_setMe, Hart.adv, Hart.priv]; simp only [Hart.priv] at hl; simp; omega)
    (by simp [cmdOf, State.myCtx, Hart.adv])]
  have hq : (s.setMe s.me.adv).me.priv = t.me.priv := by simp [Hart.adv, Hart.priv] at *; exact hp.symm
  have hk : (s.setMe s.me.adv).myCtx.atp = (t.ctx (s.setMe s.me.adv).me.ctx).atp := by
    simp [State.myCtx, Hart.adv] at *; exact ha.symm
  rw [h, hq, hk]
  simp [cmdOf]

end Sys2Proof.Machine
end

