-- ==== Sys2Proof/Machine/ChoizText.lean ====
section
/-! DEFINITION. The Choiz assembler, first part: the characters, tokens and names of source text (R16 to R21)
and the error codes (R39). Choiz runs outside the device; it is what gives a program its words. -/

namespace Sys2Proof.Choiz

/-- Source text: one character for each byte (R16). -/
abbrev Text := List Char

/-- The error codes of R39. -/
inductive Code where
  | AS01 | AS02 | AS03 | AS04 | AS05 | AS06 | AS07 | AS08 | AS09 | AS10 | AS11 | AS12 | AS13
  | AS14 | AS15 | AS16 | AS17 | AS18 | AS19 | AS20 | AS21 | AS22 | AS23 | AS24 | AS25
deriving DecidableEq, Repr

/-- Punctuation and the operators of R37. -/
inductive Op where
  | comma | colon | lpar | rpar | tilde | bang | star | slash | percent | plus | minus
  | shl | sar | shr | amp | caret | bar | eq | ne | lt | le | gt | ge | land | lor
deriving DecidableEq, Repr

/-- The tokens of R18. A floating literal is digits × 10^scale; `bad` stands where a token is malformed, and
`stray` for a character that R16 does not allow. -/
inductive Tok where
  | word (s : Text)
  | directive (s : Text)
  | dot
  | int (n : Nat)
  | flt (digits : Nat) (scale : Int)
  | inf
  | nan
  | chr (n : Nat)
  | str (s : List Nat)
  | op (o : Op)
  | bad (c : Code)
  | stray
deriving DecidableEq, Repr

/-! ### Characters -/

def isDigit (c : Char) : Bool := decide (48 ≤ c.toNat ∧ c.toNat ≤ 57)

def isLetter (c : Char) : Bool := decide ((65 ≤ c.toNat ∧ c.toNat ≤ 90) ∨ (97 ≤ c.toNat ∧ c.toNat ≤ 122))

/-- What an identifier begins with (R18). -/
def idStart (c : Char) : Bool := isLetter c || c == '_'

/-- What an identifier goes on with (R18). -/
def idChar (c : Char) : Bool := idStart c || isDigit c || c == '.'

def isBlank (c : Char) : Bool := c == ' ' || c == '\t'

/-- A control character other than tab (R16). -/
def isControl (c : Char) : Bool := (decide (c.toNat < 32) && c != '\t') || c.toNat == 127

/-- A character that source text may not hold outside a comment (R16). -/
def isStray (c : Char) : Bool := isControl c || decide (127 < c.toNat)

/-- What stands in a macro's line for a `$` that names no parameter (AS23): no byte of a source file, and read as a stray
character, so that the rest of the line is read on (R39). -/
def hole : Char := Char.ofNat 256

def upperChar (c : Char) : Char := if 97 ≤ c.toNat ∧ c.toNat ≤ 122 then Char.ofNat (c.toNat - 32) else c

/-- A spelling with its case removed (R19, R21). -/
def upper (s : Text) : Text := s.map upperChar

def lowerChar (c : Char) : Char := if 65 ≤ c.toNat ∧ c.toNat ≤ 90 then Char.ofNat (c.toNat + 32) else c

def lower (s : Text) : Text := s.map lowerChar

/-- Whether a spelling is a name, in any mix of case (R19). -/
def spells (s : Text) (name : String) : Bool := upper s == upper name.toList

/-! ### Literals (R18) -/

/-- The value of a digit in bases up to 16. -/
def digitVal (c : Char) : Option Nat :=
  let n := c.toNat
  if isDigit c then some (n - 48)
  else if 65 ≤ n ∧ n ≤ 70 then some (n - 55)
  else if 97 ≤ n ∧ n ≤ 102 then some (n - 87)
  else none

/-- Digits of a base with single underscores between them; `digit` says whether a digit came last. -/
def digitRun (base : Nat) : Text → Nat → Bool → Option Nat
  | [], v, digit => if digit then some v else none
  | '_' :: r, v, digit => if digit then digitRun base r v false else none
  | c :: r, v, _ =>
    match digitVal c with
    | some d => if d < base then digitRun base r (v * base + d) true else none
    | none => none

/-- An integer literal with its prefix, at most 2^64 − 1 (R18). -/
def intLiteral (s : Text) : Option Nat :=
  let v := match s with
    | '0' :: 'x' :: r => digitRun 16 r 0 false
    | '0' :: 'X' :: r => digitRun 16 r 0 false
    | '0' :: 'b' :: r => digitRun 2 r 0 false
    | '0' :: 'B' :: r => digitRun 2 r 0 false
    | ['0'] => some 0
    | '0' :: _ => none
    | _ => digitRun 10 s 0 false
  v.bind fun n => if n < 2 ^ 64 then some n else none

/-- The value of a run of decimal digits. -/
def decimal (s : Text) : Nat := s.foldl (fun v c => v * 10 + (c.toNat - 48)) 0

/-- What an escape stands for (R18). -/
def escape : Char → Option Nat
  | 'n' => some 10
  | 't' => some 9
  | '0' => some 0
  | '\\' => some 92
  | '\'' => some 39
  | '"' => some 34
  | _ => none

/-- The characters of a string literal after its opening quote, and the text behind it. -/
def stringBody : Text → Except Code (List Nat × Text)
  | [] => .error .AS04
  | '"' :: r => .ok ([], r)
  | '\\' :: c :: r =>
    match escape c with
    | some v => do
      let (s, r) ← stringBody r
      .ok (v :: s, r)
    | none => .error .AS04
  | c :: r => do
    let (s, r) ← stringBody r
    .ok (c.toNat :: s, r)

/-- A character literal after its opening quote, and the text behind it. A quote is one only behind a backslash: `'''` is malformed,
and all three quotes are passed over; DESIGN CHOICE, log 48. -/
def charBody : Text → Except Code (Nat × Text)
  | '\\' :: c :: '\'' :: r =>
    match escape c with
    | some v => .ok (v, r)
    | none => .error .AS04
  | c :: '\'' :: r => if c == '\\' || c == '\'' then .error .AS04 else .ok (c.toNat, r)
  | _ => .error .AS04

/-- The text behind a malformed literal that the quote `q` opened: behind its closing quote, or at the end of the line. -/
def closing (q : Char) : Text → Text
  | [] => []
  | '\\' :: _ :: r => closing q r
  | c :: r => if c == q then (if q == '\'' && r.head? == some q then r.tail else r) else closing q r

/-- A number at the head of a text: an integer, or a floating literal of decimal digits with a period, an
exponent, or both. -/
def number (cs : Text) : Except Code (Tok × Text) :=
  let prefixed := match cs with
    | '0' :: c :: _ => c == 'x' || c == 'X' || c == 'b' || c == 'B'
    | _ => false
  let whole := cs.takeWhile (fun c => isDigit c || c == '_')
  let rest := cs.dropWhile (fun c => isDigit c || c == '_')
  let floating := match rest with
    | '.' :: _ => true
    | c :: _ => c == 'e' || c == 'E'
    | [] => false
  if prefixed || !floating then
    let s := cs.takeWhile idChar
    match intLiteral s with
    | some n => .ok (.int n, cs.dropWhile idChar)
    | none => .error .AS04
  else
    let afterPoint := match rest with
      | '.' :: r => r
      | _ => rest
    let frac := if rest.head? = some '.' then afterPoint.takeWhile isDigit else []
    let tail := if rest.head? = some '.' then afterPoint.dropWhile isDigit else rest
    let digits := decimal (whole ++ frac)
    let shift : Int := -(frac.length : Int)
    if whole.any (· == '_') then .error .AS04
    else
      match tail with
      | c :: r =>
        if c == 'e' || c == 'E' then
          let (neg, ds) := match r with
            | '-' :: r => (true, r)
            | '+' :: r => (false, r)
            | _ => (false, r)
          let e := ds.takeWhile isDigit
          let behind := ds.dropWhile isDigit
          if e.isEmpty || (behind.head?.map idChar).getD false then .error .AS04
          else .ok (.flt digits (shift + (if neg then -(decimal e : Int) else (decimal e : Int))), behind)
        else if idChar c then .error .AS04
        else .ok (.flt digits shift, tail)
      | [] => .ok (.flt digits shift, [])

/-! ### Tokens -/

/-- The operator at the head of a text, the longest that stands there (R18, R37). -/
def operator : Text → Option (Op × Text)
  | '>' :: '>' :: '>' :: r => some (.shr, r)
  | '>' :: '>' :: r => some (.sar, r)
  | '<' :: '<' :: r => some (.shl, r)
  | '=' :: '=' :: r => some (.eq, r)
  | '!' :: '=' :: r => some (.ne, r)
  | '<' :: '=' :: r => some (.le, r)
  | '>' :: '=' :: r => some (.ge, r)
  | '&' :: '&' :: r => some (.land, r)
  | '|' :: '|' :: r => some (.lor, r)
  | ',' :: r => some (.comma, r)
  | ':' :: r => some (.colon, r)
  | '(' :: r => some (.lpar, r)
  | ')' :: r => some (.rpar, r)
  | '~' :: r => some (.tilde, r)
  | '!' :: r => some (.bang, r)
  | '*' :: r => some (.star, r)
  | '/' :: r => some (.slash, r)
  | '%' :: r => some (.percent, r)
  | '+' :: r => some (.plus, r)
  | '-' :: r => some (.minus, r)
  | '&' :: r => some (.amp, r)
  | '^' :: r => some (.caret, r)
  | '|' :: r => some (.bar, r)
  | '<' :: r => some (.lt, r)
  | '>' :: r => some (.gt, r)
  | _ => none

/-- The tokens of a text (R16 to R18), with the error of each malformed one in its place; `fuel` is at least its length
plus one. -/
def tokens : Nat → Text → List Tok
  | 0, _ => []
  | _ + 1, [] => []
  | fuel + 1, c :: r =>
    if isBlank c then tokens fuel r
    else if c == ';' then []
    else if idStart c then
      let s := (c :: r).takeWhile idChar
      let t :=
        if 63 < s.length then Tok.bad .AS02
        else if spells s "inf" then Tok.inf else if spells s "nan" then Tok.nan else Tok.word s
      t :: tokens fuel ((c :: r).dropWhile idChar)
    else if isDigit c then
      match number (c :: r) with
      | .ok (t, r) => t :: tokens fuel r
      | .error e => .bad e :: tokens fuel ((c :: r).dropWhile idChar)
    else if c == '.' then
      let s := r.takeWhile (fun c => isLetter c || isDigit c)
      let t := if s.isEmpty then Tok.dot else Tok.directive s
      t :: tokens fuel (r.dropWhile (fun c => isLetter c || isDigit c))
    else if c == '"' then
      match stringBody r with
      | .ok (s, r) => .str s :: tokens fuel r
      | .error e => .bad e :: tokens fuel (closing c r)
    else if c == '\'' then
      match charBody r with
      | .ok (v, r) => .chr v :: tokens fuel r
      | .error e => .bad e :: tokens fuel (closing c r)
    else
      match operator (c :: r) with
      | some (o, r) => .op o :: tokens fuel r
      | none => (if isStray c then .stray else .bad .AS01) :: tokens fuel r

/-- The tokens of a line. -/
def lineTokens (s : Text) : List Tok := tokens (s.length + 1) s

/-- The error that a token is where R18 allows no floating literal. -/
def literalCode : Tok → Option Code
  | .flt _ _ => some .AS05
  | .inf => some .AS05
  | .nan => some .AS05
  | .bad c => some c
  | _ => none

/-- The error of a malformed token. -/
def badCode : Tok → Option Code
  | .bad c => some c
  | _ => none

/-- Whether tokens hold such an error or a stray character: what they stand for is then not looked at for its kind. -/
def spoilt (ts : List Tok) : Bool := ts.any fun t => (literalCode t).isSome || t == .stray

/-! ### Raw lines -/

/-- Where a scan of raw text stands: outside literals, or inside the literal that a quote opened. -/
inductive Scan where
  | plain
  | inside (quote : Char)
  | escaped (quote : Char)
deriving DecidableEq, Repr

/-- The scan after one more character. Behind three single quotes in a row, which `charBody` refuses and passes over, the scan counts
a literal as still open, so that a later `;` begins no comment for it; DESIGN CHOICE, log 48. -/
def Scan.next (q : Scan) (c : Char) : Scan :=
  match q with
  | .plain => if c == '"' || c == '\'' then .inside c else .plain
  | .inside k => if c == '\\' then .escaped k else if c == k then .plain else .inside k
  | .escaped k => .inside k

/-- Whether a line holds a control character, or a byte above 0x7F outside its comment (R16). -/
def badChars : Scan → Text → Bool
  | _, [] => false
  | q, c :: r =>
    if q = .plain ∧ c = ';' then r.any isControl
    else isControl c || decide (127 < c.toNat) || badChars (q.next c) r

/-- A line without its comment (R17). -/
def stripComment : Scan → Text → Text
  | _, [] => []
  | q, c :: r => if q = .plain ∧ c = ';' then [] else c :: stripComment (q.next c) r

/-- Pieces of a text between commas that stand outside literals and parentheses (R35). -/
def splitCommas : Scan → Nat → Text → Text → List Text
  | _, _, [], piece => [piece.reverse]
  | q, depth, c :: r, piece =>
    if q = .plain ∧ c = ',' ∧ depth = 0 then piece.reverse :: splitCommas .plain 0 r []
    else
      let depth :=
        if q = .plain ∧ c = '(' then depth + 1 else if q = .plain ∧ c = ')' then depth - 1 else depth
      splitCommas (q.next c) depth r (c :: piece)

def trimLeft (s : Text) : Text := s.dropWhile isBlank

def trim (s : Text) : Text := (trimLeft (trimLeft s).reverse).reverse

/-- The lines of a text: each ends at LF or at CR LF (R16). -/
def splitLines : Text → Text → List Text
  | [], line => if line.isEmpty then [] else [line.reverse]
  | '\n' :: r, line =>
    (match line with
      | '\r' :: l => l.reverse
      | l => l.reverse) :: splitLines r []
  | c :: r, line => splitLines r (c :: line)

/-- The labels at the head of a line, its first word (a directive's with its period), and what follows (R22). -/
def lineHead : Nat → Text → List Text × Option Text × Text
  | 0, s => ([], none, s)
  | fuel + 1, s =>
    match trimLeft s with
    | [] => ([], none, [])
    | c :: r =>
      if idStart c then
        let w := (c :: r).takeWhile idChar
        let rest := (c :: r).dropWhile idChar
        match trimLeft rest with
        | ':' :: r =>
          let (ls, x, t) := lineHead fuel r
          (w :: ls, x, t)
        | _ => ([], some w, rest)
      else if c == '.' then
        let w := r.takeWhile (fun c => isLetter c || isDigit c)
        ([], some ('.' :: w), r.dropWhile (fun c => isLetter c || isDigit c))
      else ([], none, c :: r)

/-! ### Registers (R20) -/

/-- The number behind a letter, in decimal without a leading zero, below a bound. -/
def numbered (letter : Char) (bound : Nat) : Text → Option Nat
  | c :: d :: r =>
    if c == letter && (d :: r).all isDigit && (d != '0' || r.isEmpty) && decide (decimal (d :: r) < bound) then
      some (decimal (d :: r))
    else none
  | _ => none

/-- A g register by its name. -/
def gReg (s : Text) : Option Nat :=
  if s = "ra".toList then some 1
  else if s = "sp".toList then some 2
  else if s = "cx".toList then some 3
  else numbered 'g' 32 s

/-- A v register by its name. -/
def vReg (s : Text) : Option Nat := numbered 'v' 32 s

/-- A mask register by its name. -/
def mReg (s : Text) : Option Nat := numbered 'm' 2 s

def isReg (s : Text) : Bool := (gReg s).isSome || (vReg s).isSome || (mReg s).isSome

/-! ### Predefined symbols (R21) -/

/-- Names that take successive values. -/
def successive : Nat → List String → List (String × Nat)
  | _, [] => []
  | n, m :: r => (m, n) :: successive (n + 1) r

/-- The format, rounding and scope codes. -/
def codeSymbols : List (String × Nat) :=
  successive 0 ["INT8", "UINT8", "INT16", "INT32", "INT64", "E2M1", "E4M3", "E5M2", "BF16", "FP16", "FP32", "FP64",
    "L6", "E8M0"] ++
  successive 0 ["RNE", "RNA", "RUP", "RDN", "RTZ"] ++
  successive 0 ["HART", "CORE", "DIE", "DEV", "SYS"]

/-- The control registers of user level and their numbers. -/
def userRegisters : List (String × Nat) :=
  [("FFLAGS", 0x001)] ++
  successive 0x010 ["CYCLE", "TIME", "HARTID"] ++
  [("DTVER", 0x020)] ++
  successive 0x030 ["VSHAPE", "VL", "GRANT", "GSTAT", "GLOSS", "GCTL", "GCAP", "SCNT", "FOLD0", "FOLD1", "FOLD2",
    "FOLD3"] ++
  successive 0x040 ["AMAX0", "AMAX1", "AMAX2", "AMAX3", "AMAX4", "AMAX5", "AMAX6", "AMAX7"] ++
  successive 0x050 ["DMSTAT", "TAPEPTR", "TAPELIM", "TAPEBASE"] ++
  successive 0x060 ["DRBASE0", "DRBASE1", "DRBASE2", "DRBASE3", "DRBASE4", "DRBASE5", "DRBASE6", "DRBASE7"] ++
  successive 0x068 ["DRADJ0", "DRADJ1", "DRADJ2", "DRADJ3", "DRADJ4", "DRADJ5", "DRADJ6", "DRADJ7"] ++
  successive 0x070 ["DRSIZE0", "DRSIZE1", "DRSIZE2", "DRSIZE3", "DRSIZE4", "DRSIZE5", "DRSIZE6", "DRSIZE7"] ++
  successive 0x080 ["KCBASE0", "KCBASE1", "KCBASE2", "KCBASE3", "KCRIME0", "KCRIME1", "KCRIME2", "KCRIME3",
    "KCGEOM0", "KCGEOM1", "KCGEOM2", "KCGEOM3"] ++
  successive 0x0A0 ["DRCNT", "TASKID", "TKTAB", "CTXID"]

/-- The control registers of kernel level and their numbers. -/
def kernelRegisters : List (String × Nat) :=
  successive 0x100 ["STAT", "TBASE", "EPC", "CAUSE", "TVAL", "KSCR"] ++
  successive 0x110 ["VFSTAT", "RIX", "VQPOS", "PSTAT", "LERR"] ++
  successive 0x120 ["FHINT0", "FHINT1", "FHINT2", "FHINT3", "FHINT4", "FHINT5", "FHINT6", "FHINT7", "FHINT8",
    "FHINT9", "FHINT10", "FHINT11", "FHINT12", "FHINT13", "FHINT14"] ++
  successive 0x200 ["GSCTL", "BENCH", "LANEDIS", "LBUDGET", "VSAVE"] ++
  successive 0x210 ["GSCRIPT0", "GSCRIPT1", "GSCRIPT2", "GSCRIPT3", "GSCRIPT4", "GSCRIPT5", "GSCRIPT6", "GSCRIPT7",
    "GSCRIPT8", "GSCRIPT9", "GSCRIPT10", "GSCRIPT11", "GSCRIPT12", "GSCRIPT13", "GSCRIPT14", "GSCRIPT15"] ++
  successive 0x220 ["ATP", "LWIN", "PBREG", "PBSCR", "PBCAC"] ++
  successive 0x230 ["EQUOTA", "EREFILL", "EPERIOD", "SWEIGHT", "CSAVE", "CALLOT"] ++
  [("SVCHART", 0x250)] ++
  successive 0x260 ["PRSEL", "PRSTAT", "PRSENS"]

/-- The control registers of firmware level and their numbers. -/
def firmwareRegisters : List (String × Nat) :=
  successive 0x800 ["FTBASE", "FEPC", "FCAUSE", "FTVAL", "FSCR"] ++
  [("HRADDR", 0x808), ("HRUN", 0x809), ("PRCTL", 0x910)] ++
  successive 0x920 ["BLKSEL", "BLKOWN"] ++
  successive 0x930 ["DEVCFG", "HDMSIZE", "HWBASE", "RTSEL", "RTPORTS"] ++
  successive 0x940 ["KEYSEL", "KEYDAT0", "KEYDAT1", "KEYDAT2", "KEYDAT3", "KEYDAT4", "KEYDAT5", "KEYDAT6", "KEYDAT7",
    "KEYCTL"] ++
  successive 0x950 ["CXSEL", "CXADDR", "CXCTL"]

/-- Every predefined symbol with its value. -/
def predefined : List (String × Nat) := codeSymbols ++ userRegisters ++ kernelRegisters ++ firmwareRegisters

/-- The value of a predefined symbol, spelled exactly. -/
def predefinedValue (s : Text) : Option Nat := (predefined.find? (fun p => p.1.toList == s)).map (·.2)

/-- The scope names and their codes (R27). -/
def scopeCode (s : Text) : Option Nat :=
  ((successive 0 ["hart", "core", "die", "dev", "sys"]).find? (fun p => spells s p.1)).map (·.2)

/-- The flags of R22. -/
def isFlag (s : Text) : Bool := spells s "aq" || spells s "rl" || spells s "push" || spells s "pop"

/-- The directives of R33. -/
def directives : List String :=
  ["text", "data", "align", "zero", "byte", "half", "word", "dword", "bf16", "fp32", "fp8e4", "fmtw", "equ", "global",
    "entry", "task", "include", "macro", "endm", "if", "else", "endif"]

end Sys2Proof.Choiz
end

