-- ==== Sys2Proof/Machine/ChoizExpr.lean ====
section
/-! DEFINITION. The Choiz assembler, second part: expressions and built-in functions (R37, R38), and the values of
floating data (R36). -/

namespace Sys2Proof.Choiz

/-- Why an expression has no value: an error of R39, or a symbol that is not known where it stands (AS08 or AS09,
by whether the program defines it anywhere). -/
inductive Trouble where
  | code (c : Code)
  | unknown (s : Text)
deriving DecidableEq, Repr

/-- What an expression is evaluated with: the symbols, and the address of the statement. -/
structure Env where
  symbol : Text → Except Trouble W
  here : Except Trouble W

/-- The precedence of a binary operator (R37), 2 the tightest. -/
def precedence : Op → Option Nat
  | .star | .slash | .percent => some 2
  | .plus | .minus => some 3
  | .shl | .sar | .shr => some 4
  | .amp => some 5
  | .caret => some 6
  | .bar => some 7
  | .eq | .ne | .lt | .le | .gt | .ge => some 8
  | .land => some 9
  | .lor => some 10
  | _ => none

def truth (b : Bool) : W := if b then 1 else 0

/-- A binary operator on 64-bit values (R37). -/
def binary (o : Op) (a b : W) : Except Trouble W :=
  match o with
  | .star => .ok (a * b)
  | .slash => if b = 0 then .error (.code .AS24) else .ok (BitVec.ofInt 64 (a.toInt.tdiv b.toInt))
  | .percent => if b = 0 then .error (.code .AS24) else .ok (BitVec.ofInt 64 (a.toInt.tmod b.toInt))
  | .plus => .ok (a + b)
  | .minus => .ok (a - b)
  | .shl => if 63 < b.toNat then .error (.code .AS24) else .ok (a <<< b.toNat)
  | .sar => if 63 < b.toNat then .error (.code .AS24) else .ok (a.sshiftRight b.toNat)
  | .shr => if 63 < b.toNat then .error (.code .AS24) else .ok (a >>> b.toNat)
  | .amp => .ok (a &&& b)
  | .caret => .ok (a ^^^ b)
  | .bar => .ok (a ||| b)
  | .eq => .ok (truth (a == b))
  | .ne => .ok (truth (a != b))
  | .lt => .ok (truth (decide (a.toInt < b.toInt)))
  | .le => .ok (truth (decide (a.toInt ≤ b.toInt)))
  | .gt => .ok (truth (decide (b.toInt < a.toInt)))
  | .ge => .ok (truth (decide (b.toInt ≤ a.toInt)))
  | .land => .ok (truth (a != 0 && b != 0))
  | .lor => .ok (truth (a != 0 || b != 0))
  | _ => .error (.code .AS10)

/-- The format word of R38, from five to nine arguments, or the errors in them; an argument that is in error itself
gives no second one. -/
def fmtw (args : List (Option W)) : Option W × List Trouble :=
  let arg (i d : Nat) : Nat := (args[i]?.join.map BitVec.toNat).getD d
  let wrong := (List.range 9).filter fun i =>
    decide ((if i < 4 then 13 else if i = 4 then 4 else if i < 8 then 1 else 255) < arg i 0)
  let bad : List Trouble := (if args.length < 5 ∨ 9 < args.length then [.code .AS11] else []) ++ wrong.map fun _ => .code .AS16
  if bad ≠ [] ∨ args.any Option.isNone then (none, bad)
  else
    (some (BitVec.ofNat 64 (arg 0 0 + arg 1 0 * 2 ^ 4 + arg 2 0 * 2 ^ 8 + arg 3 0 * 2 ^ 12 + arg 4 0 * 2 ^ 16 +
      arg 5 0 * 2 ^ 19 + arg 6 0 * 2 ^ 20 + arg 7 0 * 2 ^ 21 + arg 8 127 * 2 ^ 24)), [])

/-- Whether a name is a built-in function (R38). -/
def isBuiltin (s : Text) : Bool := s == "fmtw".toList || s == "hi17".toList || s == "lo12".toList

/-- A built-in function on its arguments (R38). -/
def builtin (s : Text) (args : List (Option W)) : Option W × List Trouble :=
  if s = "fmtw".toList then fmtw args
  else
    match args with
    | [x] => (x.map (fun x : W => if s = "hi17".toList then x >>> 47 else x &&& 0xFFF), [])
    | _ => (none, [.code .AS11])

/-- Errors without those of the kind of an operand, which one that holds a malformed or a floating literal does not give
as well (log 48). -/
def unspoilt (ts : List Tok) (t : List Trouble) : List Trouble :=
  if spoilt ts then t.filter (· != .code .AS10) else t

/-- What is read next: an operand, an expression whose operators bind no looser than a precedence, the rest of one,
or the arguments of a call up to its closing parenthesis. A value is absent where an error stands in its place. -/
inductive Job where
  | operand
  | expr (loosest : Nat)
  | more (loosest : Nat) (left : Option W)
  | args (read : List (Option W))

/-- What a reading came to: its values, its errors, and the tokens behind it where the reading can go on. -/
structure Read where
  vals : List (Option W)
  troubles : List Trouble
  rest : Option (List Tok)

/-- A reading that cannot go on. -/
def Read.stop (c : Code) : Read := ⟨[], [.code c], none⟩

/-- A literal in error, which its statement reports (R18): no value, and no error of its own. -/
def Read.spoilt (r : List Tok) : Read := ⟨[none], [], some r⟩

/-- A value, or its error, and what stands behind it. -/
def Read.one (v : Except Trouble W) (r : List Tok) : Read :=
  match v with
  | .ok x => ⟨[some x], [], some r⟩
  | .error t => ⟨[none], [t], some r⟩

/-- A reading, and what is read after it: the errors of both. -/
def Read.andThen (a : Read) (f : List (Option W) → List Tok → Read) : Read :=
  match a.rest with
  | some r =>
    let b := f a.vals r
    { b with troubles := a.troubles ++ b.troubles }
  | none => a

/-- A unary operator on what was read. -/
def Read.mapped (a : Read) (f : W → W) : Read := { a with vals := a.vals.map (Option.map f) }

/-- A binary operator on what was read of both sides. An operand in error gives no second error; a divisor or a count is
looked at even where what stands left of it is in error, since AS24 rests on it alone (R37). -/
def binaryRead (o : Op) (a b : Option W) : Option W × List Trouble :=
  match b with
  | some y =>
    match binary o (a.getD 0) y with
    | .ok v => (a.map fun _ => v, [])
    | .error t => (none, [t])
  | none => (none, [])

/-- Reads and evaluates (R37). An expression answers its value as the one member of a list. -/
def run (env : Env) : Nat → Job → List Tok → Read
  | 0, _, _ => .stop .AS10
  | fuel + 1, .operand, ts =>
    match ts with
    | .int n :: r => .one (.ok (BitVec.ofNat 64 n)) r
    | .chr n :: r => .one (.ok (BitVec.ofNat 64 n)) r
    | .dot :: r => .one env.here r
    | .op .minus :: r => (run env fuel .operand r).mapped (- ·)
    | .op .tilde :: r => (run env fuel .operand r).mapped (~~~ ·)
    | .op .bang :: r => (run env fuel .operand r).mapped (fun x => truth (x == 0))
    | .op .lpar :: r =>
      (run env fuel (.expr 10) r).andThen fun v r =>
        match r with
        | .op .rpar :: r => ⟨v, [], some r⟩
        | _ => .stop .AS10
    | .word s :: r =>
      match isBuiltin s, r with
      | true, .op .lpar :: r =>
        (run env fuel (.args []) r).andThen fun a r =>
          let (v, t) := builtin s a
          ⟨[v], t, some r⟩
      | _, _ => if isReg s then .one (.error (.code .AS10)) r else .one (env.symbol s) r
    | .flt _ _ :: r => .spoilt r
    | .inf :: r => .spoilt r
    | .nan :: r => .spoilt r
    | .bad _ :: r => .spoilt r
    | .stray :: r => .spoilt r
    | .directive _ :: _ => .stop .AS10
    | .str _ :: _ => .stop .AS10
    | .op _ :: _ => .stop .AS10
    | [] => .stop .AS10
  | fuel + 1, .expr loosest, ts =>
    (run env fuel .operand ts).andThen fun v r => run env fuel (.more loosest v.head?.join) r
  | fuel + 1, .more loosest left, ts =>
    match ts with
    | .op o :: r =>
      match precedence o with
      | some p =>
        if p ≤ loosest then
          (run env fuel (.expr (p - 1)) r).andThen fun v r =>
            let (x, t) := binaryRead o left v.head?.join
            let b := run env fuel (.more loosest x) r
            { b with troubles := t ++ b.troubles }
        else ⟨[left], [], some ts⟩
      | none => ⟨[left], [], some ts⟩
    | _ => ⟨[left], [], some ts⟩
  | fuel + 1, .args read, ts =>
    match ts, read with
    | .op .rpar :: r, [] => ⟨[], [], some r⟩
    | _, _ =>
      (run env fuel (.expr 10) ts).andThen fun v r =>
        match r with
        | .op .comma :: r => run env fuel (.args (read ++ v)) r
        | .op .rpar :: r => ⟨read ++ v, [], some r⟩
        | _ => .stop .AS10

/-- The value of tokens that are one expression, or every error in them (R39) but those of its literals, which the
statement reports (R18). -/
def value (env : Env) (ts : List Tok) : Except (List Trouble) W :=
  let a := run env (4 * ts.length + 8) (.expr 10) ts
  match a.rest, a.vals.head?.join with
  | some [], some v => if a.troubles.isEmpty then .ok v else .error (unspoilt ts a.troubles)
  | some (_ :: _), _ => .error (unspoilt ts (a.troubles ++ [.code .AS10]))
  | _, _ => .error (unspoilt ts a.troubles)

/-- The errors in the value of tokens that stand where no expression of theirs is wanted, without those of its kind. -/
def strayValue (env : Env) (ts : List Tok) : List Trouble :=
  match value env ts with
  | .ok _ => []
  | .error t => t.filter (· != .code .AS10)

/-- An operand of the wrong kind: its error, and those in it where it is more than one token (R39); a lone identifier in a
register's place is the one error (R20). -/
def kindError (env : Env) (c : Code) (ts : List Tok) : List Trouble :=
  .code c :: if ts.length ≤ 1 then [] else strayValue env ts

/-! ### Floating data (R36) -/

/-- ±digits × 10^scale as an exact value, or one cut off far below the last bit of every format. R36 leaves the sign
of a written zero open: `-0` and `-0.0` keep it, and a negative zero is emitted (log 48). -/
def decimalNum (neg : Bool) (digits : Nat) (scale : Int) : Machine.Num :=
  if digits = 0 then .zero neg
  else if 0 ≤ scale then .fin neg (digits * 10 ^ scale.toNat) 0 false
  else
    let k := (-scale).toNat
    let s := 4 * k + 256
    let n := digits * 2 ^ s
    .fin neg (n / 10 ^ k) (-(s : Int)) (n % 10 ^ k != 0)

/-- The pattern of one datum in a format of .bf16, .fp32 or .fp8e4: rounded once RNE, never saturated. -/
def floatDatum (format : Nat) (ts : List Tok) : Except (List Trouble) Nat :=
  let (neg, body) := match ts with
    | .op .minus :: r => (true, r)
    | .op .plus :: r => (false, r)
    | _ => (false, ts)
  let rounded (x : Machine.Num) : Except (List Trouble) Nat :=
    let (p, f) := Machine.writeFlt format 0 false x
    if f &&& Machine.fOV = 0 then .ok p else .error [.code .AS18]
  match body with
  | [.flt d e] => rounded (decimalNum neg d e)
  | [.int n] => rounded (decimalNum neg n 0)
  | [.inf] => if format = 6 then .error [.code .AS18] else .ok (Machine.signFlt format neg + Machine.infFlt format)
  | [.nan] => .ok (Machine.canonNaN format)
  | _ => .error (if ts.any fun t => (badCode t).isSome || t == .stray then [] else [.code .AS11])

end Sys2Proof.Choiz
end

