-- ==== Sys2Proof/Machine/ChoizForms.lean ====
section
/-! DEFINITION. The Choiz assembler, third part: the form of every instruction, by base map version 1 (R106, R107),
and how its operands fill its word (R22 to R31). -/

namespace Sys2Proof.Choiz

/-- The formats of R94. -/
inductive Format where
  | V | S | I | B | J | U | M | A | E
deriving DecidableEq, Repr

/-- A positional operand and the place in the word that it fills, by its lowest bit. -/
inductive Pos where
  /-- A g register. -/
  | g (at_ : Nat)
  /-- A v register, and the chain bit of a vector source that has one (R25). -/
  | v (at_ : Nat) (chain : Option Nat)
  /-- A mask register. -/
  | m (at_ : Nat)
  /-- A memory reference: its base, and whether bits 11:0 hold a displacement (R28). -/
  | mem (base : Nat) (displaced : Bool)
  /-- A number in a range, of which the low `width` bits are stored (R29). -/
  | num (lo hi : Int) (at_ width : Nat)
  /-- A number out of a list, stored as its place in the list. -/
  | oneOf (values : List Int) (at_ : Nat)
  /-- A shape (R183), stored whole in imm12. -/
  | shape
  /-- A shape, stored as SEWC in imm5 bits 2:0 and GC in bits 4:3 (R386). -/
  | packedShape
  /-- The target of a branch or jump, stored as an offset in words of so many bits (R30, R121). -/
  | target (width : Nat)
  /-- The word replay of ERET (R138), which sets sub bit 0. -/
  | replay
deriving DecidableEq, Repr

/-- One form of one mnemonic. -/
structure Form where
  name : String
  opcode : Nat
  format : Format
  operands : List Pos
deriving DecidableEq, Repr

/-- Mnemonics of one form that take successive opcodes (R106). -/
def family (format : Format) (operands : List Pos) : Nat → List String → List Form
  | _, [] => []
  | n, m :: r => ⟨m, n, format, operands⟩ :: family format operands (n + 1) r

/-! ### The operands of the formats (R94) -/

def gA : Pos := .g 17
def gB : Pos := .g 12
def gC : Pos := .g 7
/-- A v register in field A, which has no chain bit. -/
def vA : Pos := .v 17 none
/-- A vector source in field B of format V, with chain bit c1. -/
def vB : Pos := .v 12 (some 6)
/-- A vector source in field C of format V, with chain bit c2. -/
def vC : Pos := .v 7 (some 5)
/-- A v register in a field of a format that has no chain bits. -/
def vPlain (at_ : Nat) : Pos := .v at_ none
def mA : Pos := .m 17
def mB : Pos := .m 12
def mC : Pos := .m 7
def memB : Pos := .mem 12 false
def memDisp : Pos := .mem 12 true
/-- imm12 sign-extended, and zero-extended. -/
def simm12 : Pos := .num (-2048) 2047 0 12
def zimm12 (hi : Int) : Pos := .num 0 hi 0 12
def imm17 : Pos := .num 0 131071 0 17

/-! ### The forms -/

def scalarForms : List Form :=
  family .S [gA, gB, gC] 0x001 ["ADD", "SUB", "MUL", "MULH", "MULHU", "DIV", "DIVU", "MOD", "MODU", "AND", "OR",
    "XOR", "SHL", "SHR", "SAR", "CMPLT", "CMPLTU", "MIN", "MAX", "MINU", "MAXU"] ++
  family .S [gA, gB] 0x016 ["CLZ", "CTZ", "POPC"] ++
  family .I [gA, gB, simm12] 0x019 ["ADDK", "ANDK"] ++
  family .I [gA, gB, zimm12 4095] 0x01B ["ORK", "XORK"] ++
  family .I [gA, gB, zimm12 63] 0x01D ["SHLK", "SHRK", "SARK"] ++
  family .I [gA, gB, simm12] 0x020 ["CMPLTK", "CMPLTUK"] ++
  family .U [gA, imm17] 0x022 ["HIGH"] ++
  family .U [gA, .target 17] 0x023 ["PCREL"] ++
  family .I [gA, memDisp] 0x024 ["LD8", "LD8S", "LD16", "LD16S", "LD32", "LD32S", "LD64", "ST8", "ST16", "ST32",
    "ST64"] ++
  family .B [gA, gB, .target 12] 0x030 ["BEQ", "BNE", "BLT", "BGE", "BLTU", "BGEU"] ++
  family .J [gA, .target 17] 0x036 ["JL"] ++
  family .I [gA, memDisp] 0x037 ["JLR"] ++
  family .S [gA, gB, gC] 0x040 ["FADD", "FSUB", "FMUL", "FDIV"] ++
  family .S [gA, gB] 0x044 ["FSQRT"] ++
  family .S [gA, gB, gC] 0x045 ["FMA", "FMIN", "FMAX"] ++
  family .S [gA, gB, gC, .num 0 3 3 4] 0x048 ["FCMP"] ++
  family .S [gA, gB] 0x049 ["FCVT", "FCLASS"] ++
  family .A [gA, memB] 0x050 ["LLINKW", "LLINKD"] ++
  family .A [gA, gC, memB] 0x052 ["SCONDW", "SCONDD", "AMOSWAPW", "AMOADDW", "AMOANDW", "AMOORW", "AMOXORW", "AMOMINW",
    "AMOMAXW", "AMOMINUW", "AMOMAXUW", "AMOSWAPD", "AMOADDD", "AMOANDD", "AMOORD", "AMOXORD", "AMOMIND", "AMOMAXD",
    "AMOMINUD", "AMOMAXUD"]

def systemForms : List Form :=
  family .U [imm17] 0x080 ["TRAP"] ++
  [⟨"ERET", 0x081, .S, []⟩, ⟨"ERET", 0x081, .S, [.replay]⟩] ++
  family .U [imm17] 0x082 ["BRK"] ++
  family .I [gA, gB] 0x083 ["PARK"] ++
  family .A [] 0x084 ["FENCE"] ++
  family .I [gA, zimm12 4095] 0x085 ["CRD"] ++
  family .I [gA, gB, zimm12 4095] 0x086 ["CWR", "CSET", "CCLR"] ++
  family .I [gA, memDisp] 0x089 ["DTLOAD"] ++
  family .S [] 0x08A ["IFLUSH"] ++
  family .S [gB, gC] 0x08B ["TLBINV"] ++
  family .I [gA, gB, zimm12 512] 0x08C ["CTXSV"] ++
  family .I [gA, gB] 0x08D ["CTXLD"]

def vectorForms : List Form :=
  family .I [gA, gB, .shape] 0x100 ["SETVL"] ++
  family .U [gA, imm17] 0x101 ["SETVLK"] ++
  family .I [gA, .shape] 0x102 ["SHAPE"] ++
  family .V [vA, .num 0 4 12 5] 0x103 ["VFOLD"] ++
  family .V [vA, gB] 0x104 ["VFOLDTO"] ++
  family .V [vA, vB, vC] 0x108 ["VADD", "VSUB", "VRSUB", "VMUL", "VMULH", "VMULHU", "VDIV", "VMOD", "VAND", "VOR",
    "VXOR", "VSHL", "VSHR", "VSAR", "VMIN", "VMAX", "VMINU", "VMAXU", "VADDS", "VSUBS"] ++
  family .V [vA, vB] 0x11C ["VCLZ", "VPOPE"] ++
  family .V [vA, vB, gC] 0x120 ["VADD", "VSUB", "VRSUB", "VMUL", "VMULH", "VMULHU", "VDIV", "VMOD", "VAND", "VOR",
    "VXOR", "VSHL", "VSHR", "VSAR", "VMIN", "VMAX", "VMINU", "VMAXU", "VADDS", "VSUBS"] ++
  family .V [mA, vB, vC] 0x138 ["VCEQ", "VCNE", "VCLT", "VCLE", "VCLTU", "VCLEU"] ++
  family .V [mA, vB, gC] 0x13E ["VCEQ", "VCNE", "VCLT", "VCLE", "VCLTU", "VCLEU"] ++
  family .V [mA, vB, vC] 0x144 ["VFEQ", "VFNE", "VFLT", "VFLE", "VFORD"]

def moveForms : List Form :=
  family .V [vA, vB, vC] 0x150 ["VFADD", "VFSUB", "VFMUL", "VFDIV"] ++
  family .V [vA, vB] 0x154 ["VFSQRT"] ++
  family .V [vA, vB, vC] 0x155 ["VFMA", "VFMS", "VFNMA", "VFMIN", "VFMAX", "VFSGN"] ++
  family .V [vA, vB] 0x15B ["VFCVT", "VFCLASS", "VFEXP", "VFLOG"] ++
  family .V [vA, vB, vC] 0x160 ["VMERGE"] ++
  family .V [vA, vB] 0x161 ["VMOV"] ++
  family .V [vA, gB] 0x162 ["VSPLAT"] ++
  family .V [gA, vB] 0x163 ["VTOG"] ++
  family .V [vA, gB] 0x164 ["VFROMG"] ++
  family .V [gA, vB, gC] 0x165 ["VEXT"] ++
  family .V [vA] 0x166 ["VINDEX"] ++
  family .V [vA, vB] 0x167 ["VPREFIX"] ++
  family .V [vA, vB, gC] 0x168 ["VSLUP", "VSLDN", "VSL1UP", "VSL1DN"] ++
  family .V [vA, vB, vC] 0x16C ["VPERM"] ++
  family .V [vA, vB] 0x16D ["VPACK"] ++
  family .V [mA, mB, mC] 0x170 ["MAND", "MOR", "MXOR", "MANDN"] ++
  family .V [mA, mB] 0x174 ["MMOV"] ++
  family .V [mA, vB] 0x175 ["MFROMV"] ++
  family .V [vA, mB] 0x176 ["MTOV"] ++
  family .V [gA, mB] 0x177 ["MPOPC", "MFFS"] ++
  family .V [mA, mB] 0x179 ["MBEFORE", "MTHROUGH", "MONLY"] ++
  family .V [vA, vB, vC] 0x180 ["VRSUM", "VRMAX", "VRMIN", "VRAND", "VROR", "VRXOR", "VWRSUM", "VFRSUM", "VFRSUMT",
    "VFRMAX", "VFRMIN"]

def memoryForms : List Form :=
  family .M [vA, memB] 0x200 ["VLD"] ++
  family .M [vA, memB, gC] 0x201 ["VLDS"] ++
  family .M [vA, memB, vPlain 7] 0x202 ["VLDX"] ++
  family .M [vA, memB] 0x203 ["VLDFF"] ++
  family .M [mA, memB] 0x204 ["VLDM"] ++
  family .M [vA, memB] 0x205 ["VST"] ++
  family .M [vA, memB, gC] 0x206 ["VSTS"] ++
  family .M [vA, memB, vPlain 7] 0x207 ["VSTX", "VSTXO"] ++
  family .M [mA, memB] 0x209 ["VSTM"] ++
  family .A [vA, vPlain 7, memB] 0x210 ["VAMOSWAP", "VAMOADD", "VAMOAND", "VAMOOR", "VAMOXOR", "VAMOMIN", "VAMOMAX",
    "VAMOMINU", "VAMOMAXU", "VAMOFADD", "VGLL", "VSCC"] ++
  family .E [gA, vPlain 7, memB, .num 0 3 0 2, .num 0 1 2 1] 0x220 ["VWAIT"] ++
  family .V [vB, vC, .mem 17 false] 0x228 ["VSREDADD", "VSREDMAX", "VSREDMIN", "VSREDFADD"] ++
  family .V [vB, .mem 17 false] 0x22C ["VMREDADD", "VMREDMAX", "VMREDMIN", "VMREDFADD"] ++
  family .E [gA, gB, gC] 0x240 ["TRES"] ++
  family .E [gA, gB] 0x241 ["TEVICT", "TDEMOTE"] ++
  family .S [gA, gB, gC] 0x243 ["STMAP"] ++
  family .I [gA, gB, simm12] 0x244 ["CWAYS"]

def matrixForms : List Form :=
  family .V [vA, vB, vC] 0x280 ["VMMAD", "VMMAR", "VMMAO"] ++
  family .V [vA, vB, vC, .num 0 2 3 2] 0x283 ["VMMAS"] ++
  family .V [vA, vB, vC] 0x288 ["VLGMUL", "VLGACC"] ++
  family .V [vA, vB, gC] 0x28A ["VLGCVT"] ++
  family .V [vA, vB] 0x290 ["VSCALE"] ++
  family .V [.num 0 7 17 5, vB] 0x291 ["VAMAX"] ++
  family .V [vA, vB] 0x292 ["VQUANT"]

def engineForms : List Form :=
  family .E [gA, vPlain 12, gC, .num 0 31 0 5] 0x2C0 ["BXG"] ++
  family .E [gA, gC, .num 0 31 0 5] 0x2C1 ["BXC"] ++
  family .E [gA, vPlain 12, gC, .num 0 15 0 5] 0x2C2 ["BXS"] ++
  family .E [gA, gC, .num 16 31 0 5] 0x2C2 ["BXS"] ++
  family .E [gA, gB, gC] 0x2C8 ["SHINIT"] ++
  family .E [gA, gB] 0x2C9 ["SHACQ"] ++
  family .E [gA, gB, gC] 0x2CA ["SHCOM"] ++
  family .E [gA, gB] 0x2CB ["SHWAIT"] ++
  family .E [gA, gB, gC] 0x2CC ["SHREL"] ++
  family .E [gA, gB, gC] 0x2D0 ["BSET"] ++
  family .E [gA, gB] 0x2D1 ["BARV"] ++
  family .E [gA, gB, gC] 0x2D2 ["BWAIT", "BEXP"] ++
  family .E [gA, gB] 0x2D4 ["BRET"] ++
  family .E [gA, gB, gC, .num 0 1 0 1] 0x2D8 ["TKDEF"] ++
  family .E [gA, gB, gC] 0x2D9 ["TKDEP"] ++
  family .E [gA, gB] 0x2DA ["TKSIG", "TKSPAWN"] ++
  family .E [] 0x2DC ["TKEND"] ++
  family .E [gA, gB] 0x2DD ["TKFREE"] ++
  family .E [gA, gB, gC, .num 0 1 0 1] 0x2E0 ["SFSTART"] ++
  family .E [gA, gB, .packedShape] 0x2E1 ["SFNEXT"] ++
  family .E [gA] 0x2E2 ["SFEND"] ++
  family .E [.num 0 3 0 2, .num 0 3 2 2] 0x2E8 ["DRPUSH", "DRPOP"]

def selectionForms : List Form :=
  family .E [gA, gB, gC, .oneOf [8, 16, 32, 64] 3, .num 0 7 0 3] 0x300 ["DRGN"] ++
  family .I [gA, zimm12 2] 0x301 ["DMODE"] ++
  family .S [gA, gB, gC] 0x302 ["DTAPE"] ++
  family .I [gA, gB] 0x303 ["DREST"] ++
  family .I [gA, zimm12 4095] 0x304 ["DMARK"] ++
  family .E [gA, gB, gC, .num 0 3 0 2, .num 0 1 2 1] 0x320 ["KPAGE"] ++
  family .E [vA, vPlain 12, gC, .num 0 3 0 2, .num 0 1 2 1] 0x321 ["KSEL"] ++
  family .E [.m 2, vPlain 17, gB, gC, .num 0 3 0 2, .num 0 1 3 1] 0x322 ["KGAT"] ++
  family .E [.num 0 3 0 2] 0x323 ["KSYNC"]

/-- Every form. -/
def forms : List Form :=
  scalarForms ++ systemForms ++ vectorForms ++ moveForms ++ memoryForms ++ matrixForms ++ engineForms ++ selectionForms

/-- The forms of a mnemonic (R19). -/
def formsOf (s : Text) : List Form := forms.filter (fun f => f.name.toList == upper s)

/-- Whether a symbol may not be spelled so (R21). R138's word replay is none of R21's: a program may define a symbol of that name;
DESIGN CHOICE, log 48. -/
def isReserved (s : Text) : Bool :=
  let u := upper s
  isReg (lower s) || isFlag s || (scopeCode s).isSome || spells s "inf" || spells s "nan" ||
    predefined.any (fun p => p.1.toList == u) || forms.any (fun f => f.name.toList == u)

/-! ### Filling a word -/

/-- Pieces of a token list between commas outside parentheses. -/
def splitTokens : Nat → List Tok → List Tok → List (List Tok)
  | _, [], piece => [piece.reverse]
  | depth, t :: r, piece =>
    match t with
    | .op .comma => if depth = 0 then piece.reverse :: splitTokens 0 r [] else splitTokens depth r (t :: piece)
    | .op .lpar => splitTokens (depth + 1) r (t :: piece)
    | .op .rpar => splitTokens (depth - 1) r (t :: piece)
    | _ => splitTokens depth r (t :: piece)

/-- The operands of a statement; a statement with nothing behind its first word has none. -/
def operandList (ts : List Tok) : List (List Tok) := if ts.isEmpty then [] else splitTokens 0 ts []

/-- A number in a range (R29); `wrong` is the error of another value. -/
def ranged (env : Env) (lo hi : Int) (wrong : Code) (ts : List Tok) : Except (List Trouble) W := do
  let v ← value env ts
  if lo ≤ v.toInt ∧ v.toInt ≤ hi then .ok v else .error [.code wrong]

/-- A keyword of R22 with its operand: f, w, h, sc. -/
def keywordOf : List Tok → Option (String × List Tok)
  | .word s :: .op .colon :: r =>
    if s = "f".toList then some ("f", r)
    else if s = "w".toList then some ("w", r)
    else if s = "h".toList then some ("h", r)
    else if s = "sc".toList then some ("sc", r)
    else none
  | _ => none

/-- A flag of R22 by its name. -/
def flagOf : List Tok → Option String
  | [.word s] =>
    if spells s "aq" then some "aq"
    else if spells s "rl" then some "rl"
    else if spells s "push" then some "push"
    else if spells s "pop" then some "pop"
    else none
  | _ => none

/-- The field mk of a mask operand (R24), or every error in it: a tilde before one is AS14 (R25). -/
def maskOf : List Tok → Option (Except (List Trouble) Nat)
  | [.word s] => (mReg s).map (fun n => .ok (n + 1))
  | [.op .bang, .word s] => (mReg s).map (fun n => if n = 0 then .ok 3 else .error [.code .AS13])
  | [.op .tilde, .word s] => (mReg s).map (fun _ => .error [.code .AS14])
  | [.op .tilde, .op .bang, .word s] =>
    (mReg s).map (fun n => .error (.code .AS14 :: if n = 0 then [] else [.code .AS13]))
  | _ => none

/-- Tokens behind a leading tilde. -/
def untilde : List Tok → List Tok
  | .op .tilde :: r => r
  | ts => ts

/-- Whether tokens are a keyword or a flag, a tilde before it or not. -/
def namesRest (ts : List Tok) : Bool := (keywordOf (untilde ts)).isSome || (flagOf (untilde ts)).isSome

/-- What a place holds, as far as a tilde there is concerned (R25): a vector source, whose tilde is its chain bit; a register or a
name, where any other tilde is a chain mark that may not stand; a memory reference; or an expression, of whose tilde R37
decides. -/
inductive Place where
  | source
  | name
  | memory
  | other
deriving DecidableEq, Repr

/-- Whether tokens are a chain mark on an operand that takes none (R25): on a register, on a memory reference with
nothing before its base, on a keyword or a flag, on `!m0`, or on anything in the place of a register or a name. Another tilde
is R37's operator. -/
def tildeMark (p : Place) : List Tok → Bool
  | .op .tilde :: r => p == .name || (match r with
    | [.op .lpar, .word s, .op .rpar] => isReg s || p == .memory
    | [.op .bang, .word s] => isReg s
    | [.word s] => isReg s || (flagOf r).isSome
    | _ => (keywordOf r).isSome)
  | _ => false

/-- A memory reference (R28): the word that stands as its base, whether a tilde is before it, and its displacement. -/
structure MemRef where
  base : Text
  tilde : Bool
  disp : List Tok
deriving DecidableEq, Repr

/-- The memory reference that tokens are. A built-in function on a word that names no register is an expression (R38). -/
def memRef (ts : List Tok) : Option MemRef :=
  let call (s : Text) (d : List Tok) : Bool := !isReg s && (match d with
    | .word f :: _ => isBuiltin f
    | _ => false)
  match ts.reverse with
  | .op .rpar :: .word s :: .op .lpar :: d => if call s d then none else some ⟨s, false, d.reverse⟩
  | .op .rpar :: .word s :: .op .tilde :: .op .lpar :: d => some ⟨s, true, d.reverse⟩
  | _ => none

/-- The errors of a base: its tilde (R25), and AS10 for a word that `kind` does not take for a register (R20, R23). -/
def MemRef.baseTroubles (m : MemRef) (kind : Text → Bool) : List Trouble :=
  (if m.tilde then [.code .AS14] else []) ++ if kind m.base then [] else [.code .AS10]

/-- The errors of what no position takes: a chain mark where none may stand (R25), and `!m1` (R24). -/
def markTroubles (p : Place) (ts : List Tok) : List Trouble :=
  (if tildeMark p ts && p != .source then [.code .AS14] else []) ++
    if untilde ts = [.op .bang, .word "m1".toList] then [.code .AS13] else []

/-- The errors of an operand that are not of its place or kind: those of `markTroubles`, of a memory reference, or of its
value. -/
def strayTroubles (env : Env) (p : Place) (ts : List Tok) : List Trouble :=
  if markTroubles p ts ≠ [] then markTroubles p ts
  else match memRef ts with
    | some m =>
      if isReg m.base then m.baseTroubles isReg ++ (if m.disp.isEmpty then [] else strayValue env m.disp) else strayValue env ts
    | none => strayValue env ts

/-- A shape that R183 accepts. -/
def shapeValue (env : Env) (ts : List Tok) : Except (List Trouble) Nat := do
  let v ← value env ts
  let n := v.toNat
  if n < 64 ∧ n / 8 % 2 = 0 ∧ n % 8 ≤ 4 then .ok n else .error [.code .AS18]

/-- A register operand of one kind. -/
def regOperand (env : Env) (reg : Text → Option Nat) (ts : List Tok) : Except (List Trouble) Nat :=
  match ts with
  | [.word s] =>
    match reg s with
    | some n => .ok n
    | none => .error [.code .AS10]
  | _ => .error (kindError env .AS10 ts)

/-- The displacement of a memory reference (R28). -/
def displacement (env : Env) (displaced : Bool) (d : List Tok) : Except (List Trouble) Nat :=
  if d.isEmpty then .ok 0
  else if displaced then do
    let v ← ranged env (-2048) 2047 .AS18 d
    .ok (v.toNat % 2 ^ 12)
  else do
    let _ ← ranged env 0 0 .AS17 d
    .ok 0

/-- The bits that a positional operand of one kind fills, or every error in it; `addr` is the instruction's
address. -/
def fillKind (env : Env) (addr : W) (p : Pos) (ts : List Tok) : Except (List Trouble) Nat :=
  match p with
  | .g at_ => return (← regOperand env gReg ts) * 2 ^ at_
  | .v at_ chain =>
    match ts, chain with
    | [.op .tilde, .word s], some bit => return (← regOperand env vReg [.word s]) * 2 ^ at_ + 2 ^ bit
    | _, _ => return (← regOperand env vReg ts) * 2 ^ at_
  | .m at_ => return (← regOperand env mReg ts) * 2 ^ at_
  | .mem at_ displaced =>
    match memRef ts with
    | none => .error (kindError env .AS10 ts)
    | some m =>
      match m.baseTroubles fun s => (gReg s).isSome, displacement env displaced m.disp with
      | [], .ok d => .ok ((gReg m.base).getD 0 * 2 ^ at_ + d)
      | b, .ok _ => .error b
      | b, .error t => .error (b ++ t)
  | .num lo hi at_ width => do
    let v ← ranged env lo hi .AS18 ts
    .ok (v.toNat % 2 ^ width * 2 ^ at_)
  | .oneOf vs at_ => do
    let v ← value env ts
    match vs.findIdx? (· == v.toInt) with
    | some i => .ok (i * 2 ^ at_)
    | none => .error [.code .AS18]
  | .shape => shapeValue env ts
  | .packedShape => do
    let n ← shapeValue env ts
    .ok (n % 8 + n / 16 * 8)
  | .target width => do
    let v ← value env ts
    let off := (v - addr).toInt
    let bad : List Trouble := (if off % 4 ≠ 0 then [.code .AS19] else []) ++
      if off < -(2 ^ (width + 1) : Int) ∨ (2 ^ (width + 1) : Int) - 4 < off then [.code .AS18] else []
    if bad.isEmpty then .ok (Machine.wrap width (off / 4)) else .error bad
  | .replay =>
    match ts with
    | [.word s] => if spells s "replay" then .ok 8 else .error [.code .AS10]
    | _ => .error (kindError env .AS10 ts)

/-- The place that a position is for these tokens: a vector source of format V, unless they name a register of another kind
(R25); another register, or the word replay. -/
def Pos.place (p : Pos) (ts : List Tok) : Place :=
  match p with
  | .v _ (some _) =>
    match untilde ts with
    | [.word s] => if isReg s && (vReg s).isNone then .name else .source
    | _ => .other
  | .g _ | .v _ none | .m _ | .replay => .name
  | .mem _ _ => .memory
  | .num _ _ _ _ | .oneOf _ _ | .shape | .packedShape | .target _ => .other

/-- A result whose errors are those of `unspoilt`. -/
def whole (ts : List Tok) (x : Except (List Trouble) Nat) : Except (List Trouble) Nat := x.mapError (unspoilt ts)

/-- The bits that `fill` makes of tokens, or every error in them: of the marks that their place does not take, and of what stands
behind those. -/
def judged (p : Place) (ts : List Tok) (fill : List Tok → Except (List Trouble) Nat) : Except (List Trouble) Nat :=
  match markTroubles p ts with
  | [] => whole ts (fill ts)
  | marks =>
    match whole ts (fill (if tildeMark p ts then untilde ts else ts)) with
    | .ok _ => .error marks
    | .error t => .error (marks ++ t)

/-- The bits that a positional operand fills, or every error in it. -/
def fillPos (env : Env) (addr : W) (p : Pos) (ts : List Tok) : Except (List Trouble) Nat :=
  judged (p.place ts) ts (fillKind env addr p)

/-- The word in a register's place of a position, behind its tilde or as the base of a memory reference. -/
def Pos.regWord (p : Pos) (ts : List Tok) : Option Text :=
  match p with
  | .g _ | .v _ _ | .m _ | .replay =>
    match untilde ts with
    | [.word s] => some s
    | _ => none
  | .mem _ _ => (memRef ts).map (·.base)
  | .num _ _ _ _ | .oneOf _ _ | .shape | .packedShape | .target _ => none

/-- The errors of an operand in a statement that has not as many as a form: those of its place but for its kind (log 48). An
identifier in a register's place is AS10 (R20). -/
def placeTroubles (env : Env) (addr : W) (p : Pos) (ts : List Tok) : List Trouble :=
  let unknown : List Trouble := (p.regWord ts).elim [] fun s =>
    if isReg s || (p == .replay && spells s "replay") then [] else [.code .AS10]
  match p, p.regWord ts with
  | .g _, none | .v _ _, none | .m _, none | .replay, none => strayTroubles env (p.place ts) ts
  | _, _ =>
    match fillPos env addr p ts with
    | .ok _ => unknown
    | .error t => unknown ++ t.filter (· != .code .AS10)

/-- Whether a format has a field for a keyword or a flag (R26, R27). -/
def hasField (format : Format) (name : String) : Bool :=
  if name = "f" then format == .V || format == .S
  else if name = "w" ∨ name = "h" then format == .M
  else if name = "sc" ∨ name = "aq" ∨ name = "rl" then format == .A
  else format == .E

/-- Whether a form has a field for a mask operand (R24): VWAIT places one in imm5 (R267), and VMMAS fills mk with
its kind (R212). -/
def takesMask (f : Form) : Bool :=
  (f.format == .V && f.opcode != 0x283) || f.format == .M || f.format == .A || f.opcode == 0x220

/-- The bits that a keyword fills (R26, R27), or every error in it. -/
def fillKeyword (env : Env) (name : String) (ts : List Tok) : Except (List Trouble) Nat :=
  judged (if name = "f" ∨ name = "sc" then .name else .other) ts fun ts =>
  if name = "f" then
    match ts with
    | [.word s] =>
      match gReg s with
      | some n => if 24 ≤ n then .ok (n - 24) else .error [.code .AS15]
      | none => .error [.code (if isReg s then .AS15 else .AS10)]
    | _ => .error (kindError env .AS10 ts)
  else if name = "w" then do
    let v ← value env ts
    match ([8, 16, 32, 64] : List Int).findIdx? (· == v.toInt) with
    | some i => .ok (i * 2 ^ 5)
    | none => .error [.code .AS16]
  else if name = "h" then do
    let v ← ranged env 0 7 .AS16 ts
    .ok v.toNat
  else
    match ts with
    | [.word s] =>
      match scopeCode s with
      | some n => .ok n
      | none => .error [.code .AS16]
    | _ => .error (if spoilt ts then strayValue env ts else kindError env .AS16 ts)

/-- The bits that operands have filled so far, and the errors found in them (R39). -/
abbrev Filled := Nat × List Trouble

/-- One more operand before what is filled. -/
def Filled.with (f : Filled) (x : Except (List Trouble) Nat) : Filled :=
  match x with
  | .ok n => (n + f.1, f.2)
  | .error t => (f.1, t ++ f.2)

/-- The error of a tilde before a keyword or a flag (R25). -/
def tildeTroubles (ts : List Tok) : List Trouble := if ts.head? = some (.op .tilde) then [.code .AS14] else []

/-- The bits that keywords, flags and the mask fill (R23), and every error in them: `seen` are the names already
given. What stands behind the mask is AS11; a second mask is AS12 besides (R39). -/
def fillRest (env : Env) (f : Form) : List String → List (List Tok) → Filled
  | _, [] => (0, [])
  | seen, ts :: r =>
    let misplaced (name : String) : List Trouble :=
      tildeTroubles ts ++ (if seen.contains "mask" then [.code .AS11] else []) ++ if seen.contains name || !hasField f.format name then [.code .AS12] else []
    match keywordOf (untilde ts), flagOf (untilde ts), maskOf ts with
    | some (name, body), _, _ =>
      let rest := fillRest env f (name :: seen) r
      Filled.with (Filled.with rest (fillKeyword env name body)) (.error (misplaced name))
    | none, some name, _ =>
      let rest := fillRest env f (name :: seen) r
      Filled.with ((if name = "aq" ∨ name = "push" then 64 else 32) + rest.1, rest.2) (.error (misplaced name))
    | none, none, some mk =>
      let rest := fillRest env f ("mask" :: seen) r
      let bad : List Trouble := (if takesMask f && !seen.contains "mask" then [] else [.code .AS12]) ++
        if seen.contains "mask" then [.code .AS11] else []
      match mk with
      | .ok mk => (mk * 8 + rest.1, bad ++ rest.2)
      | .error t => (rest.1, t ++ bad ++ rest.2)
    | none, none, none => Filled.with (fillRest env f seen r) (.error (.code .AS11 :: strayTroubles env .other ts))

/-- The bits that the positional operands fill, in order, and then the rest; and every error in them. -/
def fillAll (env : Env) (addr : W) (f : Form) : List Pos → List (List Tok) → Filled
  | [], rest => fillRest env f [] rest
  | _ :: _, [] => (0, [.code .AS11])
  | p :: ps, ts :: r =>
    let rest := fillAll env addr f ps r
    rest.with (if ts.isEmpty || namesRest ts then .error [.code .AS11] else fillPos env addr p ts)

/-- How many operands stand before the first keyword, flag or mask behind `least` operands. -/
def positionalCount (least : Nat) : List (List Tok) → Nat
  | [] => 0
  | ts :: r =>
    if namesRest ts || (least = 0 && (maskOf ts).isSome) then 0
    else positionalCount (least - 1) r + 1

/-- Whether an operand is a register of the kind of a position, behind a tilde or not; a position that takes none fits any. -/
def kindFits (p : Pos) (ts : List Tok) : Bool :=
  let named (reg : Text → Option Nat) : Bool :=
    match untilde ts with
    | [.word s] => (reg s).isSome
    | _ => false
  match p with
  | .g _ => named gReg
  | .v _ _ => named vReg
  | .m _ | .mem _ _ | .num _ _ _ _ | .oneOf _ _ | .shape | .packedShape | .target _ | .replay => true

/-- Whether operands have the register kinds of a form as far as they go, by which forms of unlike numbers of operands are told
apart (R138, R371). -/
def kindsFit (f : Form) (ops : List (List Tok)) : Bool := (f.operands.zip ops).all fun (p, ts) => kindFits p ts

/-- Whether a statement has as many positional operands as a form, and the last is of its kind (R107). -/
def lastFits (f : Form) (ops : List (List Tok)) : Bool :=
  (f.operands.getLast?.all fun p => (ops.drop (f.operands.length - 1)).head?.all (kindFits p))

/-- The form that a statement takes: of those with its number of operands the one whose last operand is of its kind (R107), or the
first. -/
def formFor (fs : List Form) (ops : List (List Tok)) : Option Form :=
  let counted := fs.filter fun f => positionalCount f.operands.length ops == f.operands.length
  (counted.find? fun f => lastFits f ops).orElse fun _ => counted.head?

/-- The instruction word of a statement at an address (R31), every bit that the statement does not fill being zero;
and every error in its operands. -/
def assembleWord (env : Env) (addr : W) (fs : List Form) (ops : List (List Tok)) : BitVec 32 × List Trouble :=
  match formFor fs ops, fs with
  | some f, _ =>
    let x := fillAll env addr f f.operands ops
    (BitVec.ofNat 32 (f.opcode * 2 ^ 22 + x.1), x.2)
  | none, f :: _ =>
    let count (f : Form) : Nat := positionalCount f.operands.length ops
    let like := fs.filter fun f => kindsFit f (ops.take (count f))
    let f := (like.find? fun f => count f ≤ f.operands.length).getD (like.getLastD f)
    let n := positionalCount f.operands.length ops
    let all := ((f.operands.zip (ops.take n)).flatMap fun (p, ts) => placeTroubles env addr p ts) ++
      ((ops.take n).drop f.operands.length).flatMap (strayTroubles env .other) ++ (fillRest env f [] (ops.drop n)).2
    (0, .code .AS11 :: all.filter (· != .code .AS11))
  | none, [] => (0, [.code .AS03])

end Sys2Proof.Choiz
end

