-- ==== Sys2Proof/Machine/Choiz.lean ====
section
/-! DEFINITION. The Choiz assembler, last part: statements and directives (R22, R33), layout (R32, R34), macros,
conditionals and included files (R33, R35), errors and the image (R39, R40). -/

namespace Sys2Proof.Choiz

/-- The two sections. -/
inductive Sec where
  | text
  | data
deriving DecidableEq, Repr

/-- A line to assemble: where its text stands, how deep in macros, and the included files that are open. -/
structure Line where
  file : Text
  num : Nat
  text : Text
  depth : Nat
  /-- Whether the line is one of a macro's body, and not of a file. -/
  inBody : Bool
  opened : List Text
deriving DecidableEq, Repr

/-- An error as Choiz reports it (R39). -/
structure Report where
  file : Text
  line : Nat
  code : Code
deriving DecidableEq, Repr

/-- What a symbol stands for: a value, a text address, or the place of the data item that follows a label of the
data section, whose address is known once text ends. -/
inductive Sym where
  | value (v : W)
  | textAt (a : Nat)
  | dataAt (item : Nat)
deriving DecidableEq, Repr

/-- What a line emits. -/
inductive Body where
  | align (n : Nat)
  | zero (n : Nat)
  | ints (width : Nat) (es : List (List Tok))
  | floats (format width : Nat) (es : List (List Tok))
  | fmtWord (es : List (List Tok))
  | instruction (fs : List Form) (ops : List (List Tok))
  /-- Operands that stand where none may, or are not of the kind of their directive: only their errors count. -/
  | stray (es : List (List Tok))
deriving DecidableEq, Repr

structure Item where
  sec : Sec
  line : Line
  body : Body
deriving DecidableEq, Repr

structure Macro where
  name : Text
  params : List Text
  body : List Text
deriving DecidableEq, Repr

/-- A conditional that is open: whether its lines are assembled now, whether an else may still turn that, whether its
`.else` has come, and its line. -/
structure Cond where
  live : Bool
  turn : Bool
  elseSeen : Bool
  line : Line
deriving DecidableEq, Repr

/-- A macro whose body is being read; a refused one is read and dropped. -/
structure Open where
  name : Text
  params : List Text
  body : List Text
  line : Line
  kept : Bool
deriving DecidableEq, Repr

/-- What the reading of the source has come to. -/
structure St where
  sec : Sec := .text
  textEnd : Nat
  items : List Item := []
  dataItems : Nat := 0
  syms : List (Text × Sym) := []
  macros : List Macro := []
  conds : List Cond := []
  reading : Option Open := none
  entries : List (Text × Line) := []
  /-- Whether an `.entry` has come. -/
  entered : Bool := false
  globals : List (Text × Line) := []
  tasks : List (Text × Text × Line) := []
  /-- The names that a `.task` has given. -/
  taskNames : List Text := []
  troubles : List (Line × Trouble) := []
deriving DecidableEq, Repr

def St.trouble (st : St) (l : Line) (t : Trouble) : St := { st with troubles := (l, t) :: st.troubles }

/-- Every error of a statement, in order (R39). -/
def St.all (st : St) (l : Line) (ts : List Trouble) : St := ts.foldl (·.trouble l ·) st

def St.error (st : St) (l : Line) (c : Code) : St := st.trouble l (.code c)

def St.sym? (st : St) (s : Text) : Option Sym := (st.syms.find? (fun p => p.1 == s)).map (·.2)

/-! ### What is known where it stands (R34) -/

/-- The symbols of earlier lines. A label of the data section is never known. -/
def St.known (st : St) : Env where
  symbol := fun s =>
    match st.sym? s with
    | some (.value v) => .ok v
    | some (.textAt a) => .ok (BitVec.ofNat 64 a)
    | some (.dataAt _) => .error (.code .AS09)
    | none =>
      match predefinedValue s with
      | some n => .ok (BitVec.ofNat 64 n)
      | none => .error (.unknown s)
  here := match st.sec with
    | .text => .ok (BitVec.ofNat 64 st.textEnd)
    | .data => .error (.code .AS09)

/-- An operand of a directive: one of the wrong kind is AS11 (R33). -/
def directiveTrouble (t : Trouble) : Trouble := if t = .code .AS10 then .code .AS11 else t

def operandValue (env : Env) (ts : List Tok) : Except (List Trouble) W :=
  match value env ts with
  | .ok v => .ok v
  | .error t => .error (t.map directiveTrouble)

/-! ### Emitting -/

/-- How many bytes stand for one operand of `.byte`, `.half`, `.word` or `.dword`. -/
def intSize (width : Nat) : List Tok → Nat
  | [.str s] => s.length
  | _ => width

/-- The padding to a multiple of n. -/
def padding (n a : Nat) : Nat := (n - a % n) % n

/-- The bytes of a body at an address. -/
def Body.size (a : Nat) : Body → Nat
  | .align n => padding n a
  | .zero n => n
  | .ints w es => (es.map (intSize w)).sum
  | .floats _ w es => w * es.length
  | .fmtWord _ => 8
  | .instruction _ _ => 4
  | .stray _ => 0

/-- A body emitted in the section in force. -/
def St.emit (st : St) (l : Line) (b : Body) : St :=
  let it : Item := ⟨st.sec, l, b⟩
  match st.sec with
  | .text => { st with items := it :: st.items, textEnd := st.textEnd + b.size st.textEnd }
  | .data => { st with items := it :: st.items, dataItems := st.dataItems + 1 }

/-- What is wrong with a symbol to be defined (R18, R21, R33). -/
def St.nameError (st : St) (s : Text) : Option Code :=
  if 63 < s.length then some .AS02
  else if isReserved s then some .AS06
  else if (st.sym? s).isSome then some .AS07
  else none

/-- A symbol defined by the program (R21, R22). One whose definition is in error stays undefined, so that each use of it is AS08;
DESIGN CHOICE, log 48. -/
def St.define (st : St) (l : Line) (s : Text) (v : Sym) : St :=
  match st.nameError s with
  | some c => st.error l c
  | none => { st with syms := (s, v) :: st.syms }

/-- What a label of this line stands for (R22). -/
def St.labelled (st : St) : Sym :=
  match st.sec with
  | .text => .textAt st.textEnd
  | .data => .dataAt st.dataItems

/-! ### Macros (R35) -/

/-- A body line with `$p` replaced by the argument of p, and how many a `$` names no parameter (AS23): a hole stands there.
A name behind `$` is the longest identifier there. R33 gives two parameters of one name no fate: they are accepted, and the argument of
the first counts (log 48). -/
def substitute (args : List (Text × Text)) : Nat → Text → Text × Nat
  | 0, _ => ([], 0)
  | _ + 1, [] => ([], 0)
  | fuel + 1, c :: r =>
    if c == '$' then
      let p := if (r.head?.map idStart).getD false then r.takeWhile idChar else []
      let s := substitute args fuel (r.drop p.length)
      match args.find? (fun a => a.1 == p) with
      | some (_, x) => (x ++ s.1, s.2)
      | none => (hole :: s.1, s.2 + 1)
    else
      let s := substitute args fuel r
      (c :: s.1, s.2)

/-- Whether a body line names a parameter. -/
def mentions (p : Text) (b : Text) : Bool :=
  let b := stripComment .plain b
  (substitute [(p, [])] (b.length + 1) b).2 < (substitute [] (b.length + 1) b).2

/-- The arguments of a call: pieces of text between commas outside literals and parentheses (R35). -/
def macroArgs (rest : Text) : List Text :=
  let s := trim (stripComment .plain rest)
  if s.isEmpty then [] else (splitCommas .plain 0 s []).map trim

/-- An identifier that stands alone; a register name is none (R20). -/
def oneWord : List Tok → Option Text
  | [.word s] => if isReg s then none else some s
  | _ => none

/-- Names of which every one is an identifier. -/
def allWords : List (List Tok) → Option (List Text)
  | [] => some []
  | ts :: r =>
    match oneWord ts, allWords r with
    | some s, some l => some (s :: l)
    | _, _ => none

/-- `.macro name p1, …`: the name and the parameters. -/
def macroHead (ts : List Tok) : Option (Text × List Text) :=
  match ts with
  | .word n :: r => (allWords (operandList r)).bind fun ps => if ps.length ≤ 16 then some (n, ps) else none
  | _ => none

/-- Whether a macro may not be named so (R33): a register name is no identifier (R20). -/
def macroReserved (s : Text) : Bool := isReg s || !(formsOf s).isEmpty || directives.any (spells s ·)

/-- Whether operands are not so many, or one of them is not of a kind (R33); one that holds an error of its own is not
looked at for its kind (log 48). -/
def ill (n : Nat) (kind : List Tok → Bool) (ops : List (List Tok)) : Bool :=
  ops.length != n || ops.any fun e => !kind e && !spoilt e

/-- A statement whose operands may be of the wrong number or kind (R33). -/
def St.wrong (st : St) (l : Line) (b : Bool) : St := if b then st.error l .AS11 else st

/-- Operands of which only the errors count. -/
def St.stray (st : St) (l : Line) (es : List (List Tok)) : St := if es.isEmpty then st else st.emit l (.stray es)

/-- Whether the head of a macro has operands of the wrong number or kind. -/
def illHead (ts : List Tok) : Bool :=
  let ps := operandList ts.tail
  (match ts with
   | [] => true
   | .word _ :: _ => false
   | t :: _ => !spoilt [t]) || decide (16 < ps.length) || ps.any fun e => (oneWord e).isNone && !spoilt e

/-- What is wrong with the head of a macro: its operands, and its name. Its operands are names and no expressions. -/
def St.headErrors (st : St) (l : Line) (ts : List Tok) : St :=
  let st := st.wrong l (illHead ts)
  match ts with
  | .word n :: _ => if macroReserved n then st.error l .AS06 else st
  | _ => st

def openMacro (st : St) (l : Line) (ts : List Tok) : St :=
  let o : Open := match macroHead ts with
    | none => ⟨[], [], [], l, false⟩
    | some (n, ps) => ⟨n, ps, [], l, !macroReserved n⟩
  { st.headErrors l ts with reading := some o }

/-- The errors of literals that are malformed, or of floating literals that `floats` does not allow (R18). -/
def literalTroubles (floats : Bool) (ts : List Tok) : List Trouble :=
  (ts.filterMap (if floats then badCode else literalCode)).map .code

/-- The errors of the literals in arguments that no line of a body takes up (R18). -/
def argTroubles (text : Text) : List Trouble := literalTroubles false (lineTokens text)

/-- A directive that takes no operands: what stands behind it is AS11, and looked at for its errors. -/
def St.bare (st : St) (l : Line) (ts : List Tok) : St := (st.wrong l (!ts.isEmpty)).stray l (operandList ts)

/-- The same from the text behind the directive, whose literals nothing has looked at yet. -/
def St.bareText (st : St) (l : Line) (rest : Text) : St :=
  let ts := lineTokens rest
  (st.all l (literalTroubles false ts)).bare l ts

/-- The head of a macro that is not opened, which is AS22: its errors (R18, R33). -/
def St.strayHead (st : St) (l : Line) (ts : List Tok) : St := (st.headErrors l ts).error l .AS22

/-- A line of a macro body; in one that opens a macro a `$` stands for what it will. R33 says nothing of a label on the line of `.endm`: it is dropped, without an error
(log 48). -/
def readBody (st : St) (o : Open) (l : Line) (word : Option Text) (rest : Text) : St :=
  match word with
  | some w =>
    if spells w ".endm" then
      { st.bareText l rest with
        reading := none
        macros := if o.kept then ⟨o.name, o.params, o.body.reverse⟩ :: st.macros else st.macros }
    else if spells w ".macro" then
      let ts := lineTokens (rest.map fun c => if c == '$' then hole else c)
      (st.all l (literalTroubles false ts)).strayHead l ts
    else { st with reading := some { o with body := l.text :: o.body } }
  | none => { st with reading := some { o with body := l.text :: o.body } }

/-! ### Conditionals (R33) -/

/-- Whether lines are assembled now. -/
def St.live (st : St) : Bool := st.conds.all (·.live)

def St.openIf (st : St) (l : Line) (c : Bool) : St :=
  let st := if 32 ≤ st.conds.length then st.error l .AS22 else st
  { st with conds := ⟨c, !c, false, l⟩ :: st.conds }

def St.elseIf (st : St) (l : Line) : St :=
  match st.conds with
  | [] => st.error l .AS22
  | c :: r => if c.elseSeen then st.error l .AS22 else { st with conds := ⟨c.turn, false, true, c.line⟩ :: r }

def St.endIf (st : St) (l : Line) : St :=
  match st.conds with
  | [] => st.error l .AS22
  | _ :: r => { st with conds := r }

/-! ### Directives (R33) -/

/-- A directive with one operand whose value must be known (R34): what follows from the value, and from another
number of operands or an error in one. -/
def withKnown (st0 st : St) (l : Line) (ops : List (List Tok)) (f : W → St) (other : St → St) : St :=
  match ops with
  | [e] =>
    match operandValue st0.known e with
    | .ok v => f v
    | .error t => other (st.all l t)
  | _ => other ((st.error l .AS11).all l (ops.flatMap (strayValue st0.known)))

/-- `.equ name, e` (R33, R34), of which `inf` and `nan` as the name are R21's AS06. -/
def equ (st0 st : St) (l : Line) (ops : List (List Tok)) : St :=
  let name : Option Text := match ops with
    | [.word s] :: _ => some s
    | [[.inf], _] => some "inf".toList
    | [[.nan], _] => some "nan".toList
    | _ => none
  let wrong := (name.bind st.nameError).toList.map Trouble.code
  match name, ops with
  | some s, [_, e] =>
    match operandValue st0.known e with
    | .ok v => st.define l s (.value v)
    | .error t => st.all l (wrong ++ t)
  | _, [s, e] =>
    let st := (st.wrong l (!spoilt s)).all l (strayValue st0.known s)
    match operandValue st0.known e with
    | .ok _ => st
    | .error t => st.all l t
  | _, _ => (st.error l .AS11).all l (wrong ++ (if name.isSome then ops.tail else ops).flatMap (strayValue st0.known))

/-- The operands of a data directive, at least one of them; each is looked at where it is emitted. -/
def dataOperands (st : St) (l : Line) (ops : List (List Tok)) (b : Body) : St :=
  if ops.isEmpty then st.error l .AS11 else st.emit l b

/-- A directive other than those that open or close a macro, a conditional or a file. `st0` is the state before the
labels of its line, whose symbols are those of earlier lines. R33 gives no fate for a second `.global` of one name: it
is accepted, and the name exported once; a `.text` or `.data` with operands acts all the same; an `.entry` or a `.task` whose
operands are in error counts as one for the next (AS07); DESIGN CHOICE, log 48. -/
def directive (st0 st : St) (l : Line) (w : Text) (ts : List Tok) : St :=
  let ops := operandList ts
  let is (d : String) : Bool := spells w d
  let isWord (e : List Tok) : Bool := (oneWord e).isSome
  if is ".text" || is ".data" then { st.bare l ts with sec := if is ".text" then .text else .data }
  else if is ".align" then
    withKnown st0 st l ops (fun v =>
      let n := v.toNat
      if n ≠ 0 ∧ n ≤ 65536 ∧ 65536 % n = 0 then st.emit l (.align n) else st.error l .AS16) id
  else if is ".zero" then
    withKnown st0 st l ops (fun v => if v.toNat ≤ 2 ^ 32 then st.emit l (.zero v.toNat) else st.error l .AS16) id
  else if is ".byte" then dataOperands st l ops (.ints 1 ops)
  else if is ".half" then dataOperands st l ops (.ints 2 ops)
  else if is ".word" then dataOperands st l ops (.ints 4 ops)
  else if is ".dword" then dataOperands st l ops (.ints 8 ops)
  else if is ".bf16" then dataOperands st l ops (.floats 8 2 ops)
  else if is ".fp32" then dataOperands st l ops (.floats 10 4 ops)
  else if is ".fp8e4" then dataOperands st l ops (.floats 6 1 ops)
  else if is ".fmtw" then dataOperands st l ops (.fmtWord ops)
  else if is ".equ" then equ st0 st l ops
  else if is ".global" then
    match allWords ops with
    | some [s] => { st with globals := (s, l) :: st.globals }
    | _ => (st.wrong l (ill 1 isWord ops)).stray l ops
  else if is ".entry" then
    let st := { (if st.entered then st.error l .AS07 else st) with entered := true }
    match allWords ops with
    | some [s] => { st with entries := (s, l) :: st.entries }
    | _ => (st.wrong l (ill 1 isWord ops)).stray l ops
  else if is ".task" then
    let name := ops.head?.bind oneWord
    let st := if name.any st.taskNames.contains then st.error l .AS07 else st
    let st := { st with taskNames := name.toList ++ st.taskNames }
    match allWords ops with
    | some [n, s] => { st with tasks := (n, s, l) :: st.tasks }
    | _ => (st.wrong l (ill 2 isWord ops)).stray l (if name.isSome then ops.tail else ops)
  else st.error l .AS03

/-! ### Lines -/

/-- The source files by their paths. -/
abbrev Files := List (Text × Text)

/-- The directory of a path, with its last slash. -/
def directory (path : Text) : Text := (path.reverse.dropWhile (· != '/')).reverse

/-- A path with its `.` and `..` parts resolved; `done` holds the parts read so far, the last first. -/
def resolvePath : List Text → List Text → List Text
  | [], done => done.reverse
  | p :: r, done =>
    if p = ".".toList then resolvePath r done
    else if p = "..".toList ∧ done ≠ [] ∧ done.head? ≠ some "..".toList then resolvePath r done.tail
    else resolvePath r (p :: done)

/-- The path of an included file: relative to the directory of the file that includes it (R33). -/
def includedPath (file : Text) (s : List Nat) : Text :=
  ['/'].intercalate (resolvePath ((directory file ++ s.map Char.ofNat).splitOn '/') [])

/-- The lines of a file; one that breaks R16 is reported and holds nothing. -/
def fileLines (path : Text) (depth : Nat) (opened : List Text) (text : Text) : List Line :=
  (splitLines text []).zipIdx.map fun (t, i) => ⟨path, i + 1, t, depth, false, opened⟩

/-- The errors of a line's length and characters (R16). -/
def lineErrors (t : Text) : List Trouble :=
  (if 1024 < t.length then [.code .AS02] else []) ++ if badChars .plain (t.filter (· != hole)) then [.code .AS01] else []

/-- A line that holds characters which R16 does not allow is read on (R39): without those that stand behind a character of
an identifier. `c` is the character before. -/
def readable : Char → Text → Text
  | _, [] => []
  | p, c :: r => if isStray c && idChar p then readable p r else c :: readable c r

/-- What is read of the tokens of a statement for its literals: the name that `.equ` defines is R21's. -/
def literalsOf (w : Text) (ts : List Tok) : List Tok :=
  match operandList ts with
  | [[.inf], _] => if spells w ".equ" then ts.tail else ts
  | [[.nan], _] => if spells w ".equ" then ts.tail else ts
  | _ => ts

/-- Whether a directive takes floating literals (R18). -/
def floatData (w : Text) : Bool := spells w ".bf16" || spells w ".fp32" || spells w ".fp8e4"

/-- A statement behind its labels. `sub` assembles the lines of a macro or a file in place. R35 calls a macro by a
defined name: one that only a later line defines is not defined yet, and the call is AS03 (log 48). R33 does not say from
where depth counts: a file that the main file includes has depth 1, and one of depth 17 is AS21 (log 48). -/
def statement (files : Files) (sub : St → List Line → St) (st0 st : St) (l : Line) (w rest : Text) : St :=
  match st.macros.find? (fun m => m.name == w) with
  | some m =>
    let args := macroArgs rest
    if args.length ≠ m.params.length then (st.all l (argTroubles rest)).error l .AS11
    else if 64 ≤ l.depth then (st.all l (argTroubles rest)).error l .AS21
    else
      let idle := (m.params.zip args).filter fun p => !m.body.any (mentions p.1)
      let st := st.all l (idle.flatMap fun p => argTroubles p.2)
      m.body.foldl (fun st b =>
        let b := stripComment .plain b
        let (t, wrong) := substitute (m.params.zip args) (b.length + 1) b
        sub (st.all l (List.replicate wrong (.code .AS23))) [⟨l.file, l.num, t, l.depth + 1, true, l.opened⟩]) st
  | none =>
    let ts := lineTokens rest
    let st := st.all l (literalTroubles (floatData w) (literalsOf w ts))
    if w.head? = some '.' then
      if spells w ".include" then
        match ts with
        | [.str s] =>
          let path := includedPath l.file s
          if 16 < l.opened.length ∨ path ∈ l.opened then st.error l .AS21
          else
            match files.find? (fun f => f.1 == path) with
            | none => if s.contains hole.toNat then st else st.error l .AS25
            | some (_, text) =>
              let st := sub st (fileLines path l.depth (path :: l.opened) text)
              match st.reading with
              | some o => { st.error o.line .AS22 with reading := none }
              | none => st
        | _ => (st.wrong l (ill 1 (fun _ => false) (operandList ts))).stray l (operandList ts)
      else if spells w ".macro" then
        if l.inBody then st.strayHead l ts else openMacro st l ts
      else if spells w ".endm" then (st.bare l ts).error l .AS22
      else if spells w ".if" then
        withKnown st0 st l (operandList ts) (fun v => st.openIf l (v != 0)) fun st => st.openIf l false
      else if spells w ".else" then (st.bare l ts).elseIf l
      else if spells w ".endif" then (st.bare l ts).endIf l
      else directive st0 st l w ts
    else if spells w "inf" || spells w "nan" then st.error l .AS05
    else
      match formsOf w with
      | [] => st.error l (if 63 < w.length then .AS02 else .AS03)
      | fs => st.emit l (.instruction fs (operandList ts))

/-- One line. While lines are not assembled, only conditionals count; while a macro is read, only its end.
Log 48 for what the rules leave open here: a label on a line whose statement emits no byte, or that calls a macro or
includes a file which changes the section first, is the next byte of the section in force before the statement (R22); a
label on an `.else` or `.endif` of a region that is left out is dropped (R33); the limit of 1,024 characters (R16) holds
for the lines of a macro after their expansion too (R35). -/
def oneLine (files : Files) (sub : St → List Line → St) (st : St) (l : Line) : St :=
  let st := st.all l (lineErrors l.text)
  let l := { l with text := if badChars .plain l.text then readable ' ' l.text else l.text }
  let (labels, word, rest) := lineHead (l.text.length + 1) l.text
  match st.reading with
  | some o => readBody st o l word rest
  | none =>
    if !st.live then
      match word with
      | some w =>
        if spells w ".if" then st.openIf l false
        else if spells w ".else" then (st.bareText l rest).elseIf l
        else if spells w ".endif" then (st.bareText l rest).endIf l
        else st
      | none => st
    else
      let st' := labels.foldl (fun x s => x.define l s st.labelled) st
      match word with
      | some w => statement files sub st st' l w rest
      | none =>
        let ts := lineTokens rest
        let st' := st'.all l (literalTroubles false ts)
        match ts with
        | [] => st'
        | t :: _ => if spoilt [t] then st' else st'.error l .AS03

/-- Lines in order; `fuel` bounds how deep macros and files nest, of which R33 and R35 allow 64 and 16. -/
def lines (files : Files) : Nat → St → List Line → St
  | 0, st, _ => st
  | fuel + 1, st, ls => ls.foldl (oneLine files (lines files fuel)) st

/-! ### The image (R32, R39, R40) -/

/-- What Choiz writes (R40). -/
structure Image where
  textBase : Nat
  text : List Byte
  dataBase : Nat
  data : List Byte
  entry : Option W
  globals : List (Text × W)
  tasks : List (Text × W)
deriving DecidableEq, Repr

/-- The addresses of the data items, and the end of the data section. -/
def dataAddresses : Nat → List Item → List Nat
  | a, [] => [a]
  | a, it :: r => if it.sec = .data then a :: dataAddresses (a + it.body.size a) r else dataAddresses a r

/-- The address or value of a symbol once layout is done. -/
def St.final (st : St) (dataAt : List Nat) (s : Text) : Except Trouble W :=
  match st.sym? s with
  | some (.value v) => .ok v
  | some (.textAt a) => .ok (BitVec.ofNat 64 a)
  | some (.dataAt i) => .ok (BitVec.ofNat 64 (dataAt[i]?.getD 0))
  | none =>
    match predefinedValue s with
    | some n => .ok (BitVec.ofNat 64 n)
    | none => .error (.code .AS08)

/-- The address of a label that a directive names (R33). -/
def St.labelAddress (st : St) (dataAt : List Nat) (s : Text) : Except Trouble W :=
  match st.sym? s with
  | some (.textAt _) => st.final dataAt s
  | some (.dataAt _) => st.final dataAt s
  | some (.value _) => .error (.code .AS11)
  | none => .error (.code (if (predefinedValue s).isSome then .AS11 else .AS08))

/-- The bytes of one operand of `.byte` to `.dword` (R33), or every error in it. -/
def intBytes (env : Env) (width : Nat) (ts : List Tok) : Except (List Trouble) (List Byte) :=
  match ts with
  | [.str s] => if width = 1 then .ok (s.map (BitVec.ofNat 8)) else .error [.code .AS11]
  | _ => do
    let v ← operandValue env ts
    if v.toInt < -(2 ^ (8 * width - 1) : Int) ∨ (2 ^ (8 * width) : Int) ≤ v.toInt then .error [.code .AS18]
    else .ok (Machine.leBytes width v.toNat)

/-- The results of all operands, and the errors of all (R39). -/
def gather {α : Type} : List (Except (List Trouble) (List α)) → List α × List Trouble
  | [] => ([], [])
  | x :: r =>
    let y := gather r
    match x with
    | .ok v => (v ++ y.1, y.2)
    | .error t => (y.1, t ++ y.2)

/-- A format word of a directive (R33, R38). -/
def fmtBytes (env : Env) (es : List (List Tok)) : List Byte × List Trouble :=
  let args := es.map (operandValue env)
  let known := args.map fun a =>
    match a with
    | .ok v => some v
    | .error _ => none
  let w := fmtw known
  (Machine.leBytes 8 (w.1.map BitVec.toNat |>.getD 0), (gather (args.map (Except.map fun v => [v]))).2 ++ w.2)

/-- The bytes of an item at its address, and the errors in it. -/
def emitBytes (symbol : Text → Except Trouble W) (it : Item) (a : Nat) : List Byte × List Trouble :=
  let env : Env := ⟨symbol, .ok (BitVec.ofNat 64 a)⟩
  match it.body with
  | .align n => (List.replicate (padding n a) 0, [])
  | .zero n => (List.replicate n 0, [])
  | .ints w es => gather (es.map (intBytes env w))
  | .floats f w es =>
    gather (es.map fun e =>
      match floatDatum f e with
      | .ok n => .ok (Machine.leBytes w n)
      | .error t => .error (t ++ strayValue env e))
  | .fmtWord es => fmtBytes env es
  | .stray es => ([], es.flatMap (strayValue env))
  | .instruction fs ops =>
    let w := assembleWord env (BitVec.ofNat 64 a) fs ops
    (Machine.leBytes 4 w.1.toNat, (if it.sec = .data ∨ a % 4 ≠ 0 then [.code .AS20] else []) ++ w.2)

/-- What emission has come to: the two counters, the bytes of the two sections, and the troubles. -/
structure Out where
  textAt : Nat
  dataAt : Nat
  text : List (List Byte) := []
  data : List (List Byte) := []
  troubles : List (Line × Trouble) := []
deriving DecidableEq, Repr

def Out.item (symbol : Text → Except Trouble W) (o : Out) (it : Item) : Out :=
  match it.sec with
  | .text =>
    let x := emitBytes symbol it o.textAt
    { o with
      textAt := o.textAt + it.body.size o.textAt
      text := x.1 :: o.text
      troubles := x.2.reverse.map (it.line, ·) ++ o.troubles }
  | .data =>
    let x := emitBytes symbol it o.dataAt
    { o with
      dataAt := o.dataAt + it.body.size o.dataAt
      data := x.1 :: o.data
      troubles := x.2.reverse.map (it.line, ·) ++ o.troubles }

/-- What is wrong when the source ends: a macro or a conditional still open (AS22). Each open conditional is reported once,
at the line of its `.if`; DESIGN CHOICE, log 48. -/
def St.close (st : St) : St :=
  let st := match st.reading with
    | some o => st.error o.line .AS22
    | none => st
  st.conds.reverse.foldl (fun st c => st.error c.line .AS22) st

/-- The report of a trouble: a symbol that was not known where it stood is AS09 where the program defines it, AS08
where it does not. -/
def St.report (st : St) (p : Line × Trouble) : Report :=
  ⟨p.1.file, p.1.num,
    match p.2 with
    | .code c => c
    | .unknown s => if (st.sym? s).isSome then .AS09 else .AS08⟩

/-- Named addresses, and the troubles of those that have none. -/
def resolve (f : Text → Except Trouble W) (l : List (Text × Text × Line)) : List (Text × W) × List (Line × Trouble) :=
  l.foldr (fun (n, s, ln) acc =>
    match f s with
    | .ok v => ((n, v) :: acc.1, acc.2)
    | .error t => (acc.1, (ln, t) :: acc.2)) ([], [])

/-- A global symbol must be one that the program defines (R33). -/
def St.globalValue (st : St) (dataAt : List Nat) (s : Text) : Except Trouble W :=
  if (st.sym? s).isSome then st.final dataAt s else .error (.code .AS08)

/-- Choiz on a set of files, with the text section at `4096 * page` (R32): the image, or every error (R39). The rules
say nothing of a main file that is not there: it is AS25 at line 0; DESIGN CHOICE, log 48. -/
def assemble (files : Files) (main : Text) (page : Nat) : Except (List Report) Image :=
  match files.find? (fun f => f.1 == main) with
  | none => .error [⟨main, 0, .AS25⟩]
  | some (_, text) =>
    let base := 4096 * page
    let st := (lines files 82 { textEnd := base } (fileLines main 0 [main] text)).close
    let items := st.items.reverse
    let dataBase := (st.textEnd + 4095) / 4096 * 4096
    let dataAt := dataAddresses dataBase items
    let out := items.foldl (Out.item (st.final dataAt)) { textAt := base, dataAt := dataBase }
    let (globals, e1) := resolve (st.globalValue dataAt) (st.globals.reverse.map fun (s, l) => (s, s, l))
    let (tasks, e2) := resolve (st.labelAddress dataAt) st.tasks.reverse
    let (entry, e3) := resolve (st.labelAddress dataAt) (st.entries.reverse.map fun (s, l) => (s, s, l))
    let troubles := st.troubles.reverse ++ out.troubles.reverse ++ e1 ++ e2 ++ e3
    if troubles.isEmpty then
      .ok ⟨base, out.text.reverse.flatten, dataBase, out.data.reverse.flatten, entry.head?.map (·.2), globals.eraseDups, tasks⟩
    else .error (troubles.map st.report)

end Sys2Proof.Choiz
end

