-- ==== Sys2Proof/Tests/Slice0.lean ====
section
/-! SUPPORT. Tests: words written out from the encodings of the spec, ill-formed instructions, for each statement states
and operands that meet its hypotheses, and single steps whose results are worked out from the rules by hand. -/

namespace Sys2Proof.Tests
open Machine Rules
set_option Elab.async false

/-! ### Decoding -/

/-- Words of scalar instructions, bit by bit from the opcode table and R94, and what they stand for. -/
noncomputable def scalarWords1 : List (IWord × Instr) := [
  (0x006AA681, .add ⟨21, 10, 13, 0, 1⟩),
  (0x00AAA681, .sub ⟨21, 10, 13, 0, 1⟩),
  (0x00EAA681, .mul ⟨21, 10, 13, 0, 1⟩),
  (0x012AA681, .mulh ⟨21, 10, 13, 0, 1⟩),
  (0x016AA681, .mulhu ⟨21, 10, 13, 0, 1⟩),
  (0x01AAA681, .div ⟨21, 10, 13, 0, 1⟩),
  (0x01EAA681, .divu ⟨21, 10, 13, 0, 1⟩),
  (0x022AA681, .mod ⟨21, 10, 13, 0, 1⟩),
  (0x026AA681, .modu ⟨21, 10, 13, 0, 1⟩),
  (0x02AAA681, .and ⟨21, 10, 13, 0, 1⟩),
  (0x02EAA681, .or ⟨21, 10, 13, 0, 1⟩),
  (0x032AA681, .xor ⟨21, 10, 13, 0, 1⟩),
  (0x036AA681, .shl ⟨21, 10, 13, 0, 1⟩),
  (0x03AAA681, .shr ⟨21, 10, 13, 0, 1⟩),
  (0x03EAA681, .sar ⟨21, 10, 13, 0, 1⟩),
  (0x042AA681, .cmplt ⟨21, 10, 13, 0, 1⟩),
  (0x046AA681, .cmpltu ⟨21, 10, 13, 0, 1⟩),
  (0x04AAA681, .min ⟨21, 10, 13, 0, 1⟩),
  (0x04EAA681, .max ⟨21, 10, 13, 0, 1⟩),
  (0x052AA681, .minu ⟨21, 10, 13, 0, 1⟩),
  (0x056AA681, .maxu ⟨21, 10, 13, 0, 1⟩),
  (0x05AAA681, .clz ⟨21, 10, 13, 0, 1⟩),
  (0x05EAA681, .ctz ⟨21, 10, 13, 0, 1⟩),
  (0x062AA681, .popc ⟨21, 10, 13, 0, 1⟩),
  (0x066AAA5B, .addk ⟨21, 10, 2651⟩),
  (0x06AAAA5B, .andk ⟨21, 10, 2651⟩),
  (0x06EAAA5B, .ork ⟨21, 10, 2651⟩),
  (0x072AAA5B, .xork ⟨21, 10, 2651⟩),
  (0x076AA001, .shlk ⟨21, 10, 1⟩),
  (0x07AAA001, .shrk ⟨21, 10, 1⟩),
  (0x07EAA001, .sark ⟨21, 10, 1⟩),
  (0x082AAA5B, .cmpltk ⟨21, 10, 2651⟩),
  (0x086AAA5B, .cmpltuk ⟨21, 10, 2651⟩),
  (0x08ABA5A5, .high ⟨21, 107941⟩),
  (0x08EBA5A5, .pcrel ⟨21, 107941⟩),
  (0x092AAA5B, .ld8 ⟨21, 10, 2651⟩),
  (0x096AAA5B, .ld8s ⟨21, 10, 2651⟩),
  (0x09AAAA5B, .ld16 ⟨21, 10, 2651⟩),
  (0x09EAAA5B, .ld16s ⟨21, 10, 2651⟩),
  (0x0A2AAA5B, .ld32 ⟨21, 10, 2651⟩)]

theorem test_decode_scalar1 : ∀ e ∈ scalarWords1, decodeWord e.1 = .ok e.2 := by decide +kernel

noncomputable def scalarWords2 : List (IWord × Instr) := [
  (0x0A6AAA5B, .ld32s ⟨21, 10, 2651⟩),
  (0x0AAAAA5B, .ld64 ⟨21, 10, 2651⟩),
  (0x0AEAAA5B, .st8 ⟨21, 10, 2651⟩),
  (0x0B2AAA5B, .st16 ⟨21, 10, 2651⟩),
  (0x0B6AAA5B, .st32 ⟨21, 10, 2651⟩),
  (0x0BAAAA5B, .st64 ⟨21, 10, 2651⟩),
  (0x0C2AAA5B, .beq ⟨21, 10, 2651⟩),
  (0x0C6AAA5B, .bne ⟨21, 10, 2651⟩),
  (0x0CAAAA5B, .blt ⟨21, 10, 2651⟩),
  (0x0CEAAA5B, .bge ⟨21, 10, 2651⟩),
  (0x0D2AAA5B, .bltu ⟨21, 10, 2651⟩),
  (0x0D6AAA5B, .bgeu ⟨21, 10, 2651⟩),
  (0x0DABA5A5, .jl ⟨21, 107941⟩),
  (0x0DEAAA5B, .jlr ⟨21, 10, 2651⟩),
  (0x102AA681, .fadd ⟨21, 10, 13, 0, 1⟩),
  (0x106AA681, .fsub ⟨21, 10, 13, 0, 1⟩),
  (0x10AAA681, .fmul ⟨21, 10, 13, 0, 1⟩),
  (0x10EAA681, .fdiv ⟨21, 10, 13, 0, 1⟩),
  (0x112AA681, .fsqrt ⟨21, 10, 13, 0, 1⟩),
  (0x116AA681, .fma ⟨21, 10, 13, 0, 1⟩),
  (0x11AAA681, .fmin ⟨21, 10, 13, 0, 1⟩),
  (0x11EAA681, .fmax ⟨21, 10, 13, 0, 1⟩),
  (0x122AA689, .fcmp ⟨21, 10, 13, 1, 1⟩),
  (0x126AA681, .fcvt ⟨21, 10, 13, 0, 1⟩),
  (0x12AAA681, .fclass ⟨21, 10, 13, 0, 1⟩),
  (0x142AA6E1, .llinkw ⟨21, 10, 13, 1, 1, 0, 1⟩),
  (0x146AA6E1, .llinkd ⟨21, 10, 13, 1, 1, 0, 1⟩),
  (0x14AAA6E1, .scondw ⟨21, 10, 13, 1, 1, 0, 1⟩),
  (0x14EAA6E1, .scondd ⟨21, 10, 13, 1, 1, 0, 1⟩),
  (0x152AA6E1, .amoswapw ⟨21, 10, 13, 1, 1, 0, 1⟩),
  (0x156AA6E1, .amoaddw ⟨21, 10, 13, 1, 1, 0, 1⟩),
  (0x15AAA6E1, .amoandw ⟨21, 10, 13, 1, 1, 0, 1⟩),
  (0x15EAA6E1, .amoorw ⟨21, 10, 13, 1, 1, 0, 1⟩),
  (0x162AA6E1, .amoxorw ⟨21, 10, 13, 1, 1, 0, 1⟩),
  (0x166AA6E1, .amominw ⟨21, 10, 13, 1, 1, 0, 1⟩),
  (0x16AAA6E1, .amomaxw ⟨21, 10, 13, 1, 1, 0, 1⟩),
  (0x16EAA6E1, .amominuw ⟨21, 10, 13, 1, 1, 0, 1⟩),
  (0x172AA6E1, .amomaxuw ⟨21, 10, 13, 1, 1, 0, 1⟩),
  (0x176AA6E1, .amoswapd ⟨21, 10, 13, 1, 1, 0, 1⟩),
  (0x17AAA6E1, .amoaddd ⟨21, 10, 13, 1, 1, 0, 1⟩)]

theorem test_decode_scalar2 : ∀ e ∈ scalarWords2, decodeWord e.1 = .ok e.2 := by decide +kernel

noncomputable def scalarWords3 : List (IWord × Instr) := [
  (0x17EAA6E1, .amoandd ⟨21, 10, 13, 1, 1, 0, 1⟩),
  (0x182AA6E1, .amoord ⟨21, 10, 13, 1, 1, 0, 1⟩),
  (0x186AA6E1, .amoxord ⟨21, 10, 13, 1, 1, 0, 1⟩),
  (0x18AAA6E1, .amomind ⟨21, 10, 13, 1, 1, 0, 1⟩),
  (0x18EAA6E1, .amomaxd ⟨21, 10, 13, 1, 1, 0, 1⟩),
  (0x192AA6E1, .amominud ⟨21, 10, 13, 1, 1, 0, 1⟩),
  (0x196AA6E1, .amomaxud ⟨21, 10, 13, 1, 1, 0, 1⟩)]

theorem test_decode_scalar3 : ∀ e ∈ scalarWords3, decodeWord e.1 = .ok e.2 := by decide +kernel

/-- Words of system instructions, bit by bit from the opcode table and R94, and what they stand for. -/
noncomputable def systemWords1 : List (IWord × Instr) := [
  (0x202BA5A5, .trap ⟨21, 107941⟩),
  (0x206AA681, .eret ⟨21, 10, 13, 0, 1⟩),
  (0x206AA689, .eretReplay ⟨21, 10, 13, 1, 1⟩),
  (0x20ABA5A5, .brk ⟨21, 107941⟩),
  (0x20EAA000, .park ⟨21, 10, 0⟩),
  (0x212AA6E1, .fence ⟨21, 10, 13, 1, 1, 0, 1⟩),
  (0x216AAA5B, .crd ⟨21, 10, 2651⟩),
  (0x21AAAA5B, .cwr ⟨21, 10, 2651⟩),
  (0x21EAAA5B, .cset ⟨21, 10, 2651⟩),
  (0x222AAA5B, .cclr ⟨21, 10, 2651⟩),
  (0x226AAA5B, .dtload ⟨21, 10, 2651⟩),
  (0x22AAA681, .iflush ⟨21, 10, 13, 0, 1⟩),
  (0x22EAA681, .tlbinv ⟨21, 10, 13, 0, 1⟩),
  (0x232AA0A5, .ctxsv ⟨21, 10, 165⟩),
  (0x236AA000, .ctxld ⟨21, 10, 0⟩)]

theorem test_decode_system1 : ∀ e ∈ systemWords1, decodeWord e.1 = .ok e.2 := by decide +kernel

/-- Words of vector instructions, bit by bit from the opcode table and R94, and what they stand for. -/
noncomputable def vectorWords1 : List (IWord × Instr) := [
  (0x402AA011, .setvl ⟨21, 10, 17⟩),
  (0x406BA5A5, .setvlk ⟨21, 107941⟩),
  (0x40AAA011, .shape ⟨21, 10, 17⟩),
  (0x40EA36E1, .vfold ⟨21, 3, 13, 1, 1, 0, 1⟩),
  (0x412AA6E1, .vfoldto ⟨21, 10, 13, 1, 1, 0, 1⟩),
  (0x422AA6E9, .vadd ⟨21, 10, 13, 1, 1, 1, 1⟩),
  (0x426AA6E9, .vsub ⟨21, 10, 13, 1, 1, 1, 1⟩),
  (0x42AAA6E9, .vrsub ⟨21, 10, 13, 1, 1, 1, 1⟩),
  (0x42EAA6E9, .vmul ⟨21, 10, 13, 1, 1, 1, 1⟩),
  (0x432AA6E9, .vmulh ⟨21, 10, 13, 1, 1, 1, 1⟩),
  (0x436AA6E9, .vmulhu ⟨21, 10, 13, 1, 1, 1, 1⟩),
  (0x43AAA6E9, .vdiv ⟨21, 10, 13, 1, 1, 1, 1⟩),
  (0x43EAA6E9, .vmod ⟨21, 10, 13, 1, 1, 1, 1⟩),
  (0x442AA6E9, .vand ⟨21, 10, 13, 1, 1, 1, 1⟩),
  (0x446AA6E9, .vor ⟨21, 10, 13, 1, 1, 1, 1⟩),
  (0x44AAA6E9, .vxor ⟨21, 10, 13, 1, 1, 1, 1⟩),
  (0x44EAA6E9, .vshl ⟨21, 10, 13, 1, 1, 1, 1⟩),
  (0x452AA6E9, .vshr ⟨21, 10, 13, 1, 1, 1, 1⟩),
  (0x456AA6E9, .vsar ⟨21, 10, 13, 1, 1, 1, 1⟩),
  (0x45AAA6E9, .vmin ⟨21, 10, 13, 1, 1, 1, 1⟩),
  (0x45EAA6E9, .vmax ⟨21, 10, 13, 1, 1, 1, 1⟩),
  (0x462AA6E9, .vminu ⟨21, 10, 13, 1, 1, 1, 1⟩),
  (0x466AA6E9, .vmaxu ⟨21, 10, 13, 1, 1, 1, 1⟩),
  (0x46AAA6E9, .vadds ⟨21, 10, 13, 1, 1, 1, 1⟩),
  (0x46EAA6E9, .vsubs ⟨21, 10, 13, 1, 1, 1, 1⟩),
  (0x472AA6E9, .vclz ⟨21, 10, 13, 1, 1, 1, 1⟩),
  (0x476AA6E9, .vpope ⟨21, 10, 13, 1, 1, 1, 1⟩),
  (0x482AA6E9, .vaddVs ⟨21, 10, 13, 1, 1, 1, 1⟩),
  (0x486AA6E9, .vsubVs ⟨21, 10, 13, 1, 1, 1, 1⟩),
  (0x48AAA6E9, .vrsubVs ⟨21, 10, 13, 1, 1, 1, 1⟩),
  (0x48EAA6E9, .vmulVs ⟨21, 10, 13, 1, 1, 1, 1⟩),
  (0x492AA6E9, .vmulhVs ⟨21, 10, 13, 1, 1, 1, 1⟩),
  (0x496AA6E9, .vmulhuVs ⟨21, 10, 13, 1, 1, 1, 1⟩),
  (0x49AAA6E9, .vdivVs ⟨21, 10, 13, 1, 1, 1, 1⟩),
  (0x49EAA6E9, .vmodVs ⟨21, 10, 13, 1, 1, 1, 1⟩),
  (0x4A2AA6E9, .vandVs ⟨21, 10, 13, 1, 1, 1, 1⟩),
  (0x4A6AA6E9, .vorVs ⟨21, 10, 13, 1, 1, 1, 1⟩),
  (0x4AAAA6E9, .vxorVs ⟨21, 10, 13, 1, 1, 1, 1⟩),
  (0x4AEAA6E9, .vshlVs ⟨21, 10, 13, 1, 1, 1, 1⟩),
  (0x4B2AA6E9, .vshrVs ⟨21, 10, 13, 1, 1, 1, 1⟩)]

theorem test_decode_vector1 : ∀ e ∈ vectorWords1, decodeWord e.1 = .ok e.2 := by decide +kernel

noncomputable def vectorWords2 : List (IWord × Instr) := [
  (0x4B6AA6E9, .vsarVs ⟨21, 10, 13, 1, 1, 1, 1⟩),
  (0x4BAAA6E9, .vminVs ⟨21, 10, 13, 1, 1, 1, 1⟩),
  (0x4BEAA6E9, .vmaxVs ⟨21, 10, 13, 1, 1, 1, 1⟩),
  (0x4C2AA6E9, .vminuVs ⟨21, 10, 13, 1, 1, 1, 1⟩),
  (0x4C6AA6E9, .vmaxuVs ⟨21, 10, 13, 1, 1, 1, 1⟩),
  (0x4CAAA6E9, .vaddsVs ⟨21, 10, 13, 1, 1, 1, 1⟩),
  (0x4CEAA6E9, .vsubsVs ⟨21, 10, 13, 1, 1, 1, 1⟩),
  (0x4E2AA6E9, .vceq ⟨21, 10, 13, 1, 1, 1, 1⟩),
  (0x4E6AA6E9, .vcne ⟨21, 10, 13, 1, 1, 1, 1⟩),
  (0x4EAAA6E9, .vclt ⟨21, 10, 13, 1, 1, 1, 1⟩),
  (0x4EEAA6E9, .vcle ⟨21, 10, 13, 1, 1, 1, 1⟩),
  (0x4F2AA6E9, .vcltu ⟨21, 10, 13, 1, 1, 1, 1⟩),
  (0x4F6AA6E9, .vcleu ⟨21, 10, 13, 1, 1, 1, 1⟩),
  (0x4FAAA6E9, .vceqVs ⟨21, 10, 13, 1, 1, 1, 1⟩),
  (0x4FEAA6E9, .vcneVs ⟨21, 10, 13, 1, 1, 1, 1⟩),
  (0x502AA6E9, .vcltVs ⟨21, 10, 13, 1, 1, 1, 1⟩),
  (0x506AA6E9, .vcleVs ⟨21, 10, 13, 1, 1, 1, 1⟩),
  (0x50AAA6E9, .vcltuVs ⟨21, 10, 13, 1, 1, 1, 1⟩),
  (0x50EAA6E9, .vcleuVs ⟨21, 10, 13, 1, 1, 1, 1⟩),
  (0x512AA6E9, .vfeq ⟨21, 10, 13, 1, 1, 1, 1⟩),
  (0x516AA6E9, .vfne ⟨21, 10, 13, 1, 1, 1, 1⟩),
  (0x51AAA6E9, .vflt ⟨21, 10, 13, 1, 1, 1, 1⟩),
  (0x51EAA6E9, .vfle ⟨21, 10, 13, 1, 1, 1, 1⟩),
  (0x522AA6E9, .vford ⟨21, 10, 13, 1, 1, 1, 1⟩)]

theorem test_decode_vector2 : ∀ e ∈ vectorWords2, decodeWord e.1 = .ok e.2 := by decide +kernel

/-- Words of vectorFloat instructions, bit by bit from the opcode table and R94, and what they stand for. -/
noncomputable def vectorFloatWords1 : List (IWord × Instr) := [
  (0x542AA6E9, .vfadd ⟨21, 10, 13, 1, 1, 1, 1⟩),
  (0x546AA6E9, .vfsub ⟨21, 10, 13, 1, 1, 1, 1⟩),
  (0x54AAA6E9, .vfmul ⟨21, 10, 13, 1, 1, 1, 1⟩),
  (0x54EAA6E9, .vfdiv ⟨21, 10, 13, 1, 1, 1, 1⟩),
  (0x552AA6E9, .vfsqrt ⟨21, 10, 13, 1, 1, 1, 1⟩),
  (0x556AA6E9, .vfma ⟨21, 10, 13, 1, 1, 1, 1⟩),
  (0x55AAA6E9, .vfms ⟨21, 10, 13, 1, 1, 1, 1⟩),
  (0x55EAA6E9, .vfnma ⟨21, 10, 13, 1, 1, 1, 1⟩),
  (0x562AA6E9, .vfmin ⟨21, 10, 13, 1, 1, 1, 1⟩),
  (0x566AA6E9, .vfmax ⟨21, 10, 13, 1, 1, 1, 1⟩),
  (0x56AAA6E9, .vfsgn ⟨21, 10, 13, 1, 1, 1, 1⟩),
  (0x56EAA6E9, .vfcvt ⟨21, 10, 13, 1, 1, 1, 1⟩),
  (0x572AA6E9, .vfclass ⟨21, 10, 13, 1, 1, 1, 1⟩),
  (0x576AA6E9, .vfexp ⟨21, 10, 13, 1, 1, 1, 1⟩),
  (0x57AAA6E9, .vflog ⟨21, 10, 13, 1, 1, 1, 1⟩),
  (0x582AA6E9, .vmerge ⟨21, 10, 13, 1, 1, 1, 1⟩),
  (0x586AA6E9, .vmov ⟨21, 10, 13, 1, 1, 1, 1⟩),
  (0x58AAA6E9, .vsplat ⟨21, 10, 13, 1, 1, 1, 1⟩),
  (0x58EAA6E1, .vtog ⟨21, 10, 13, 1, 1, 0, 1⟩),
  (0x592AA6E9, .vfromg ⟨21, 10, 13, 1, 1, 1, 1⟩),
  (0x596AA6E1, .vext ⟨21, 10, 13, 1, 1, 0, 1⟩),
  (0x59AAA6E9, .vindex ⟨21, 10, 13, 1, 1, 1, 1⟩),
  (0x59EAA6E9, .vprefix ⟨21, 10, 13, 1, 1, 1, 1⟩),
  (0x5A2AA6E9, .vslup ⟨21, 10, 13, 1, 1, 1, 1⟩),
  (0x5A6AA6E9, .vsldn ⟨21, 10, 13, 1, 1, 1, 1⟩),
  (0x5AAAA6E9, .vsl1up ⟨21, 10, 13, 1, 1, 1, 1⟩),
  (0x5AEAA6E9, .vsl1dn ⟨21, 10, 13, 1, 1, 1, 1⟩),
  (0x5B2AA6E9, .vperm ⟨21, 10, 13, 1, 1, 1, 1⟩),
  (0x5B6AA6E9, .vpack ⟨21, 10, 13, 1, 1, 1, 1⟩),
  (0x5C2AA6E1, .mand ⟨21, 10, 13, 1, 1, 0, 1⟩),
  (0x5C6AA6E1, .mor ⟨21, 10, 13, 1, 1, 0, 1⟩),
  (0x5CAAA6E1, .mxor ⟨21, 10, 13, 1, 1, 0, 1⟩),
  (0x5CEAA6E1, .mandn ⟨21, 10, 13, 1, 1, 0, 1⟩),
  (0x5D2AA6E1, .mmov ⟨21, 10, 13, 1, 1, 0, 1⟩),
  (0x5D6AA6E1, .mfromv ⟨21, 10, 13, 1, 1, 0, 1⟩),
  (0x5DAAA6E1, .mtov ⟨21, 10, 13, 1, 1, 0, 1⟩),
  (0x5DEAA6E1, .mpopc ⟨21, 10, 13, 1, 1, 0, 1⟩),
  (0x5E2AA6E1, .mffs ⟨21, 10, 13, 1, 1, 0, 1⟩),
  (0x5E6AA6E1, .mbefore ⟨21, 10, 13, 1, 1, 0, 1⟩),
  (0x5EAAA6E1, .mthrough ⟨21, 10, 13, 1, 1, 0, 1⟩)]

theorem test_decode_vectorFloat1 : ∀ e ∈ vectorFloatWords1, decodeWord e.1 = .ok e.2 := by decide +kernel

noncomputable def vectorFloatWords2 : List (IWord × Instr) := [
  (0x5EEAA6E1, .monly ⟨21, 10, 13, 1, 1, 0, 1⟩),
  (0x602AA6E9, .vrsum ⟨21, 10, 13, 1, 1, 1, 1⟩),
  (0x606AA6E9, .vrmax ⟨21, 10, 13, 1, 1, 1, 1⟩),
  (0x60AAA6E9, .vrmin ⟨21, 10, 13, 1, 1, 1, 1⟩),
  (0x60EAA6E9, .vrand ⟨21, 10, 13, 1, 1, 1, 1⟩),
  (0x612AA6E9, .vror ⟨21, 10, 13, 1, 1, 1, 1⟩),
  (0x616AA6E9, .vrxor ⟨21, 10, 13, 1, 1, 1, 1⟩),
  (0x61AAA6E9, .vwrsum ⟨21, 10, 13, 1, 1, 1, 1⟩),
  (0x61EAA6E9, .vfrsum ⟨21, 10, 13, 1, 1, 1, 1⟩),
  (0x622AA6E9, .vfrsumt ⟨21, 10, 13, 1, 1, 1, 1⟩),
  (0x626AA6E9, .vfrmax ⟨21, 10, 13, 1, 1, 1, 1⟩),
  (0x62AAA6E9, .vfrmin ⟨21, 10, 13, 1, 1, 1, 1⟩)]

theorem test_decode_vectorFloat2 : ∀ e ∈ vectorFloatWords2, decodeWord e.1 = .ok e.2 := by decide +kernel

/-- Words of memory instructions, bit by bit from the opcode table and R94, and what they stand for. -/
noncomputable def memoryWords1 : List (IWord × Instr) := [
  (0x802AA6A9, .vld ⟨21, 10, 13, 1, 1, 1⟩),
  (0x806AA6A9, .vlds ⟨21, 10, 13, 1, 1, 1⟩),
  (0x80AAA6A9, .vldx ⟨21, 10, 13, 1, 1, 1⟩),
  (0x80EAA6A9, .vldff ⟨21, 10, 13, 1, 1, 1⟩),
  (0x812AA681, .vldm ⟨21, 10, 13, 0, 0, 1⟩),
  (0x816AA6A9, .vst ⟨21, 10, 13, 1, 1, 1⟩),
  (0x81AAA6A9, .vsts ⟨21, 10, 13, 1, 1, 1⟩),
  (0x81EAA6A9, .vstx ⟨21, 10, 13, 1, 1, 1⟩),
  (0x822AA6A9, .vstxo ⟨21, 10, 13, 1, 1, 1⟩),
  (0x826AA681, .vstm ⟨21, 10, 13, 0, 0, 1⟩),
  (0x842AA6E9, .vamoswap ⟨21, 10, 13, 1, 1, 1, 1⟩),
  (0x846AA6E9, .vamoadd ⟨21, 10, 13, 1, 1, 1, 1⟩),
  (0x84AAA6E9, .vamoand ⟨21, 10, 13, 1, 1, 1, 1⟩),
  (0x84EAA6E9, .vamoor ⟨21, 10, 13, 1, 1, 1, 1⟩),
  (0x852AA6E9, .vamoxor ⟨21, 10, 13, 1, 1, 1, 1⟩),
  (0x856AA6E9, .vamomin ⟨21, 10, 13, 1, 1, 1, 1⟩),
  (0x85AAA6E9, .vamomax ⟨21, 10, 13, 1, 1, 1, 1⟩),
  (0x85EAA6E9, .vamominu ⟨21, 10, 13, 1, 1, 1, 1⟩),
  (0x862AA6E9, .vamomaxu ⟨21, 10, 13, 1, 1, 1, 1⟩),
  (0x866AA6E9, .vamofadd ⟨21, 10, 13, 1, 1, 1, 1⟩),
  (0x86AAA6E9, .vgll ⟨21, 10, 13, 1, 1, 1, 1⟩),
  (0x86EAA6E9, .vscc ⟨21, 10, 13, 1, 1, 1, 1⟩),
  (0x882AA68D, .vwait ⟨21, 10, 13, 0, 0, 13⟩),
  (0x8A2AA6E9, .vsredadd ⟨21, 10, 13, 1, 1, 1, 1⟩),
  (0x8A6AA6E9, .vsredmax ⟨21, 10, 13, 1, 1, 1, 1⟩),
  (0x8AAAA6E9, .vsredmin ⟨21, 10, 13, 1, 1, 1, 1⟩),
  (0x8AEAA6E9, .vsredfadd ⟨21, 10, 13, 1, 1, 1, 1⟩),
  (0x8B2AA6E9, .vmredadd ⟨21, 10, 13, 1, 1, 1, 1⟩),
  (0x8B6AA6E9, .vmredmax ⟨21, 10, 13, 1, 1, 1, 1⟩),
  (0x8BAAA6E9, .vmredmin ⟨21, 10, 13, 1, 1, 1, 1⟩),
  (0x8BEAA6E9, .vmredfadd ⟨21, 10, 13, 1, 1, 1, 1⟩),
  (0x902AA680, .tres ⟨21, 10, 13, 0, 0, 0⟩),
  (0x906AA680, .tevict ⟨21, 10, 13, 0, 0, 0⟩),
  (0x90AAA680, .tdemote ⟨21, 10, 13, 0, 0, 0⟩),
  (0x90EAA681, .stmap ⟨21, 10, 13, 0, 1⟩),
  (0x912AAA5B, .cways ⟨21, 10, 2651⟩)]

theorem test_decode_memory1 : ∀ e ∈ memoryWords1, decodeWord e.1 = .ok e.2 := by decide +kernel

/-- Words of matrix instructions, bit by bit from the opcode table and R94, and what they stand for. -/
noncomputable def matrixWords1 : List (IWord × Instr) := [
  (0xA02AA6E9, .vmmad ⟨21, 10, 13, 1, 1, 1, 1⟩),
  (0xA06AA6E9, .vmmar ⟨21, 10, 13, 1, 1, 1, 1⟩),
  (0xA0AAA6E9, .vmmao ⟨21, 10, 13, 1, 1, 1, 1⟩),
  (0xA0EAA6E9, .vmmas ⟨21, 10, 13, 1, 1, 1, 1⟩),
  (0xA22AA6E9, .vlgmul ⟨21, 10, 13, 1, 1, 1, 1⟩),
  (0xA26AA6E9, .vlgacc ⟨21, 10, 13, 1, 1, 1, 1⟩),
  (0xA2AAA6E9, .vlgcvt ⟨21, 10, 13, 1, 1, 1, 1⟩),
  (0xA42AA6E9, .vscale ⟨21, 10, 13, 1, 1, 1, 1⟩),
  (0xA44AA6E9, .vamax ⟨5, 10, 13, 1, 1, 1, 1⟩),
  (0xA4AAA6E9, .vquant ⟨21, 10, 13, 1, 1, 1, 1⟩),
  (0xB02AA6ED, .bxg ⟨21, 10, 13, 1, 1, 13⟩),
  (0xB06AA6ED, .bxc ⟨21, 10, 13, 1, 1, 13⟩),
  (0xB0AAA6ED, .bxsRow ⟨21, 10, 13, 1, 1, 13⟩),
  (0xB0AAA6FD, .bxsStream ⟨21, 10, 13, 1, 1, 29⟩),
  (0xB22AA680, .shinit ⟨21, 10, 13, 0, 0, 0⟩),
  (0xB26AA680, .shacq ⟨21, 10, 13, 0, 0, 0⟩),
  (0xB2AAA680, .shcom ⟨21, 10, 13, 0, 0, 0⟩),
  (0xB2EAA680, .shwait ⟨21, 10, 13, 0, 0, 0⟩),
  (0xB32AA680, .shrel ⟨21, 10, 13, 0, 0, 0⟩),
  (0xB42AA680, .bset ⟨21, 10, 13, 0, 0, 0⟩),
  (0xB46AA680, .barv ⟨21, 10, 13, 0, 0, 0⟩),
  (0xB4AAA680, .bwait ⟨21, 10, 13, 0, 0, 0⟩),
  (0xB4EAA680, .bexp ⟨21, 10, 13, 0, 0, 0⟩),
  (0xB52AA680, .bret ⟨21, 10, 13, 0, 0, 0⟩),
  (0xB62AA681, .tkdef ⟨21, 10, 13, 0, 0, 1⟩),
  (0xB66AA680, .tkdep ⟨21, 10, 13, 0, 0, 0⟩),
  (0xB6AAA680, .tksig ⟨21, 10, 13, 0, 0, 0⟩),
  (0xB6EAA680, .tkspawn ⟨21, 10, 13, 0, 0, 0⟩),
  (0xB72AA680, .tkend ⟨21, 10, 13, 0, 0, 0⟩),
  (0xB76AA680, .tkfree ⟨21, 10, 13, 0, 0, 0⟩),
  (0xB82AA681, .sfstart ⟨21, 10, 13, 0, 0, 1⟩),
  (0xB86AA689, .sfnext ⟨21, 10, 13, 0, 0, 9⟩),
  (0xB8AAA680, .sfend ⟨21, 10, 13, 0, 0, 0⟩),
  (0xBA2AA686, .drpush ⟨21, 10, 13, 0, 0, 6⟩),
  (0xBA6AA686, .drpop ⟨21, 10, 13, 0, 0, 6⟩)]

theorem test_decode_matrix1 : ∀ e ∈ matrixWords1, decodeWord e.1 = .ok e.2 := by decide +kernel

/-- Words of engines instructions, bit by bit from the opcode table and R94, and what they stand for. -/
noncomputable def enginesWords1 : List (IWord × Instr) := [
  (0xC02AA689, .drgn ⟨21, 10, 13, 0, 0, 9⟩),
  (0xC06AA002, .dmode ⟨21, 10, 2⟩),
  (0xC0AAA681, .dtape ⟨21, 10, 13, 0, 1⟩),
  (0xC0EAA000, .drest ⟨21, 10, 0⟩),
  (0xC12AAA5B, .dmark ⟨21, 10, 2651⟩),
  (0xC82AA685, .kpage ⟨21, 10, 13, 0, 0, 5⟩),
  (0xC86AA6E5, .ksel ⟨21, 10, 13, 1, 1, 5⟩),
  (0xC8AAA6ED, .kgat ⟨21, 10, 13, 1, 1, 13⟩),
  (0xC8EAA681, .ksync ⟨21, 10, 13, 0, 0, 1⟩)]

theorem test_decode_engines1 : ∀ e ∈ enginesWords1, decodeWord e.1 = .ok e.2 := by decide +kernel

/-! ### Ill-formed instructions -/

/-- Ill-formed instructions, one for each part of each check of fieldsLegal, the other parts met. -/
noncomputable def illFormed1 : List Instr := [
  .add ⟨0, 0, 0, 1, 0⟩, .sub ⟨0, 0, 0, 1, 0⟩, .mul ⟨0, 0, 0, 1, 0⟩, .mulh ⟨0, 0, 0, 1, 0⟩,
  .mulhu ⟨0, 0, 0, 1, 0⟩, .div ⟨0, 0, 0, 1, 0⟩, .divu ⟨0, 0, 0, 1, 0⟩, .mod ⟨0, 0, 0, 1, 0⟩,
  .modu ⟨0, 0, 0, 1, 0⟩, .and ⟨0, 0, 0, 1, 0⟩, .or ⟨0, 0, 0, 1, 0⟩, .xor ⟨0, 0, 0, 1, 0⟩, .shl ⟨0, 0, 0, 1, 0⟩,
  .shr ⟨0, 0, 0, 1, 0⟩, .sar ⟨0, 0, 0, 1, 0⟩, .cmplt ⟨0, 0, 0, 1, 0⟩, .cmpltu ⟨0, 0, 0, 1, 0⟩,
  .min ⟨0, 0, 0, 1, 0⟩, .max ⟨0, 0, 0, 1, 0⟩, .minu ⟨0, 0, 0, 1, 0⟩, .maxu ⟨0, 0, 0, 1, 0⟩, .clz ⟨0, 0, 0, 1, 0⟩,
  .ctz ⟨0, 0, 0, 1, 0⟩, .popc ⟨0, 0, 0, 1, 0⟩, .shlk ⟨0, 0, 64⟩, .shrk ⟨0, 0, 64⟩, .sark ⟨0, 0, 64⟩,
  .fadd ⟨0, 0, 0, 1, 0⟩, .fsub ⟨0, 0, 0, 1, 0⟩, .fmul ⟨0, 0, 0, 1, 0⟩, .fdiv ⟨0, 0, 0, 1, 0⟩,
  .fsqrt ⟨0, 0, 0, 1, 0⟩, .fma ⟨0, 0, 0, 1, 0⟩, .fmin ⟨0, 0, 0, 1, 0⟩, .fmax ⟨0, 0, 0, 1, 0⟩,
  .fcmp ⟨0, 0, 0, 4, 0⟩, .fcvt ⟨0, 0, 0, 1, 0⟩, .fclass ⟨0, 0, 0, 1, 0⟩, .llinkw ⟨0, 0, 0, 0, 0, 1, 0⟩,
  .llinkw ⟨0, 0, 0, 0, 0, 0, 5⟩, .llinkd ⟨0, 0, 0, 0, 0, 1, 0⟩, .llinkd ⟨0, 0, 0, 0, 0, 0, 5⟩,
  .scondw ⟨0, 0, 0, 0, 0, 1, 0⟩, .scondw ⟨0, 0, 0, 0, 0, 0, 5⟩, .scondd ⟨0, 0, 0, 0, 0, 1, 0⟩,
  .scondd ⟨0, 0, 0, 0, 0, 0, 5⟩, .amoswapw ⟨0, 0, 0, 0, 0, 1, 0⟩, .amoswapw ⟨0, 0, 0, 0, 0, 0, 5⟩,
  .amoaddw ⟨0, 0, 0, 0, 0, 1, 0⟩, .amoaddw ⟨0, 0, 0, 0, 0, 0, 5⟩, .amoandw ⟨0, 0, 0, 0, 0, 1, 0⟩,
  .amoandw ⟨0, 0, 0, 0, 0, 0, 5⟩, .amoorw ⟨0, 0, 0, 0, 0, 1, 0⟩, .amoorw ⟨0, 0, 0, 0, 0, 0, 5⟩,
  .amoxorw ⟨0, 0, 0, 0, 0, 1, 0⟩, .amoxorw ⟨0, 0, 0, 0, 0, 0, 5⟩, .amominw ⟨0, 0, 0, 0, 0, 1, 0⟩,
  .amominw ⟨0, 0, 0, 0, 0, 0, 5⟩, .amomaxw ⟨0, 0, 0, 0, 0, 1, 0⟩, .amomaxw ⟨0, 0, 0, 0, 0, 0, 5⟩,
  .amominuw ⟨0, 0, 0, 0, 0, 1, 0⟩, .amominuw ⟨0, 0, 0, 0, 0, 0, 5⟩, .amomaxuw ⟨0, 0, 0, 0, 0, 1, 0⟩,
  .amomaxuw ⟨0, 0, 0, 0, 0, 0, 5⟩, .amoswapd ⟨0, 0, 0, 0, 0, 1, 0⟩, .amoswapd ⟨0, 0, 0, 0, 0, 0, 5⟩,
  .amoaddd ⟨0, 0, 0, 0, 0, 1, 0⟩, .amoaddd ⟨0, 0, 0, 0, 0, 0, 5⟩, .amoandd ⟨0, 0, 0, 0, 0, 1, 0⟩,
  .amoandd ⟨0, 0, 0, 0, 0, 0, 5⟩, .amoord ⟨0, 0, 0, 0, 0, 1, 0⟩, .amoord ⟨0, 0, 0, 0, 0, 0, 5⟩,
  .amoxord ⟨0, 0, 0, 0, 0, 1, 0⟩, .amoxord ⟨0, 0, 0, 0, 0, 0, 5⟩, .amomind ⟨0, 0, 0, 0, 0, 1, 0⟩,
  .amomind ⟨0, 0, 0, 0, 0, 0, 5⟩, .amomaxd ⟨0, 0, 0, 0, 0, 1, 0⟩, .amomaxd ⟨0, 0, 0, 0, 0, 0, 5⟩,
  .amominud ⟨0, 0, 0, 0, 0, 1, 0⟩, .amominud ⟨0, 0, 0, 0, 0, 0, 5⟩, .amomaxud ⟨0, 0, 0, 0, 0, 1, 0⟩,
  .amomaxud ⟨0, 0, 0, 0, 0, 0, 5⟩, .eret ⟨0, 0, 0, 1, 0⟩, .eretReplay ⟨0, 0, 0, 0, 0⟩, .park ⟨0, 0, 1⟩,
  .fence ⟨0, 0, 0, 0, 0, 1, 0⟩, .fence ⟨0, 0, 0, 0, 0, 0, 5⟩, .iflush ⟨0, 0, 0, 1, 0⟩, .tlbinv ⟨0, 0, 0, 1, 0⟩,
  .ctxsv ⟨0, 0, 513⟩]

theorem test_illFormed1 : ∀ i ∈ illFormed1, i.wf = false ∧ decodeWord (encode i) ≠ .ok i := by decide +kernel

/-- Ill-formed instructions, one for each part of each check of fieldsLegal, the other parts met. -/
noncomputable def illFormed2 : List Instr := [
  .ctxld ⟨0, 0, 1⟩, .setvl ⟨0, 0, 8⟩, .setvl ⟨0, 0, 64⟩, .setvl ⟨0, 0, 5⟩, .shape ⟨0, 0, 8⟩, .shape ⟨0, 0, 64⟩,
  .shape ⟨0, 0, 5⟩, .vfold ⟨0, 0, 0, 0, 0, 1, 0⟩, .vfold ⟨0, 5, 0, 0, 0, 0, 0⟩, .vfoldto ⟨0, 0, 0, 0, 0, 1, 0⟩,
  .vmerge ⟨0, 0, 0, 0, 0, 0, 0⟩, .vtog ⟨0, 0, 0, 0, 0, 1, 0⟩, .vext ⟨0, 0, 0, 0, 0, 1, 0⟩,
  .vpack ⟨0, 0, 0, 0, 0, 0, 0⟩, .mand ⟨0, 0, 0, 0, 0, 1, 0⟩, .mor ⟨0, 0, 0, 0, 0, 1, 0⟩,
  .mxor ⟨0, 0, 0, 0, 0, 1, 0⟩, .mandn ⟨0, 0, 0, 0, 0, 1, 0⟩, .mmov ⟨0, 0, 0, 0, 0, 1, 0⟩,
  .mfromv ⟨0, 0, 0, 0, 0, 1, 0⟩, .mtov ⟨0, 0, 0, 0, 0, 1, 0⟩, .mpopc ⟨0, 0, 0, 0, 0, 1, 0⟩,
  .mffs ⟨0, 0, 0, 0, 0, 1, 0⟩, .mbefore ⟨0, 0, 0, 0, 0, 1, 0⟩, .mthrough ⟨0, 0, 0, 0, 0, 1, 0⟩,
  .monly ⟨0, 0, 0, 0, 0, 1, 0⟩, .vldm ⟨0, 0, 0, 1, 0, 0⟩, .vldm ⟨0, 0, 0, 0, 1, 0⟩, .vstm ⟨0, 0, 0, 1, 0, 0⟩,
  .vstm ⟨0, 0, 0, 0, 1, 0⟩, .vamoswap ⟨0, 0, 0, 0, 0, 0, 5⟩, .vamoadd ⟨0, 0, 0, 0, 0, 0, 5⟩,
  .vamoand ⟨0, 0, 0, 0, 0, 0, 5⟩, .vamoor ⟨0, 0, 0, 0, 0, 0, 5⟩, .vamoxor ⟨0, 0, 0, 0, 0, 0, 5⟩,
  .vamomin ⟨0, 0, 0, 0, 0, 0, 5⟩, .vamomax ⟨0, 0, 0, 0, 0, 0, 5⟩, .vamominu ⟨0, 0, 0, 0, 0, 0, 5⟩,
  .vamomaxu ⟨0, 0, 0, 0, 0, 0, 5⟩, .vamofadd ⟨0, 0, 0, 0, 0, 0, 5⟩, .vgll ⟨0, 0, 0, 0, 0, 0, 5⟩,
  .vscc ⟨0, 0, 0, 0, 0, 0, 5⟩, .vwait ⟨0, 0, 0, 1, 0, 0⟩, .vwait ⟨0, 0, 0, 0, 1, 0⟩, .vwait ⟨31, 0, 0, 0, 0, 4⟩,
  .tres ⟨0, 0, 0, 1, 0, 0⟩, .tres ⟨0, 0, 0, 0, 1, 0⟩, .tres ⟨0, 0, 0, 0, 0, 1⟩, .tevict ⟨0, 0, 0, 1, 0, 0⟩,
  .tevict ⟨0, 0, 0, 0, 1, 0⟩, .tevict ⟨0, 0, 0, 0, 0, 1⟩, .tdemote ⟨0, 0, 0, 1, 0, 0⟩,
  .tdemote ⟨0, 0, 0, 0, 1, 0⟩, .tdemote ⟨0, 0, 0, 0, 0, 1⟩, .stmap ⟨0, 0, 0, 1, 0⟩, .vmmas ⟨0, 0, 0, 0, 0, 3, 0⟩,
  .vamax ⟨8, 0, 0, 0, 0, 0, 0⟩, .bxg ⟨0, 0, 0, 0, 0, 16⟩, .bxg ⟨0, 0, 0, 0, 0, 3⟩, .bxg ⟨0, 0, 29, 0, 0, 0⟩,
  .bxc ⟨0, 0, 0, 0, 0, 16⟩, .bxc ⟨0, 0, 0, 0, 0, 3⟩, .bxc ⟨0, 0, 29, 0, 0, 0⟩, .bxsRow ⟨0, 0, 0, 0, 0, 16⟩,
  .bxsRow ⟨0, 0, 0, 0, 0, 3⟩, .bxsRow ⟨0, 0, 29, 0, 0, 0⟩, .bxsStream ⟨0, 0, 0, 0, 0, 0⟩,
  .bxsStream ⟨0, 0, 0, 0, 0, 19⟩, .bxsStream ⟨0, 0, 29, 0, 0, 16⟩, .shinit ⟨0, 0, 0, 1, 0, 0⟩,
  .shinit ⟨0, 0, 0, 0, 1, 0⟩, .shinit ⟨0, 0, 0, 0, 0, 1⟩, .shinit ⟨0, 0, 31, 0, 0, 0⟩, .shacq ⟨0, 0, 0, 1, 0, 0⟩,
  .shacq ⟨0, 0, 0, 0, 1, 0⟩, .shacq ⟨0, 0, 0, 0, 0, 1⟩, .shacq ⟨31, 0, 0, 0, 0, 0⟩, .shcom ⟨0, 0, 0, 1, 0, 0⟩,
  .shcom ⟨0, 0, 0, 0, 1, 0⟩, .shcom ⟨0, 0, 0, 0, 0, 1⟩, .shwait ⟨0, 0, 0, 1, 0, 0⟩, .shwait ⟨0, 0, 0, 0, 1, 0⟩,
  .shwait ⟨0, 0, 0, 0, 0, 1⟩, .shwait ⟨31, 0, 0, 0, 0, 0⟩, .shrel ⟨0, 0, 0, 1, 0, 0⟩, .shrel ⟨0, 0, 0, 0, 1, 0⟩,
  .shrel ⟨0, 0, 0, 0, 0, 1⟩, .bset ⟨0, 0, 0, 1, 0, 0⟩, .bset ⟨0, 0, 0, 0, 1, 0⟩, .bset ⟨0, 0, 0, 0, 0, 1⟩]

theorem test_illFormed2 : ∀ i ∈ illFormed2, i.wf = false ∧ decodeWord (encode i) ≠ .ok i := by decide +kernel

/-- Ill-formed instructions, one for each part of each check of fieldsLegal, the other parts met. -/
noncomputable def illFormed3 : List Instr := [
  .barv ⟨0, 0, 0, 1, 0, 0⟩, .barv ⟨0, 0, 0, 0, 1, 0⟩, .barv ⟨0, 0, 0, 0, 0, 1⟩, .bwait ⟨0, 0, 0, 1, 0, 0⟩,
  .bwait ⟨0, 0, 0, 0, 1, 0⟩, .bwait ⟨0, 0, 0, 0, 0, 1⟩, .bexp ⟨0, 0, 0, 1, 0, 0⟩, .bexp ⟨0, 0, 0, 0, 1, 0⟩,
  .bexp ⟨0, 0, 0, 0, 0, 1⟩, .bret ⟨0, 0, 0, 1, 0, 0⟩, .bret ⟨0, 0, 0, 0, 1, 0⟩, .bret ⟨0, 0, 0, 0, 0, 1⟩,
  .tkdef ⟨0, 0, 0, 1, 0, 0⟩, .tkdef ⟨0, 0, 0, 0, 1, 0⟩, .tkdef ⟨0, 0, 0, 0, 0, 2⟩, .tkdep ⟨0, 0, 0, 1, 0, 0⟩,
  .tkdep ⟨0, 0, 0, 0, 1, 0⟩, .tkdep ⟨0, 0, 0, 0, 0, 1⟩, .tksig ⟨0, 0, 0, 1, 0, 0⟩, .tksig ⟨0, 0, 0, 0, 1, 0⟩,
  .tksig ⟨0, 0, 0, 0, 0, 1⟩, .tkspawn ⟨0, 0, 0, 1, 0, 0⟩, .tkspawn ⟨0, 0, 0, 0, 1, 0⟩,
  .tkspawn ⟨0, 0, 0, 0, 0, 1⟩, .tkend ⟨0, 0, 0, 1, 0, 0⟩, .tkend ⟨0, 0, 0, 0, 1, 0⟩, .tkend ⟨0, 0, 0, 0, 0, 1⟩,
  .tkfree ⟨0, 0, 0, 1, 0, 0⟩, .tkfree ⟨0, 0, 0, 0, 1, 0⟩, .tkfree ⟨0, 0, 0, 0, 0, 1⟩,
  .sfstart ⟨0, 0, 0, 1, 0, 0⟩, .sfstart ⟨0, 0, 0, 0, 1, 0⟩, .sfstart ⟨0, 0, 0, 0, 0, 2⟩,
  .sfnext ⟨0, 0, 0, 1, 0, 0⟩, .sfnext ⟨0, 0, 0, 0, 1, 0⟩, .sfnext ⟨0, 0, 0, 0, 0, 5⟩, .sfend ⟨0, 0, 0, 1, 0, 0⟩,
  .sfend ⟨0, 0, 0, 0, 1, 0⟩, .sfend ⟨0, 0, 0, 0, 0, 1⟩, .drpush ⟨0, 0, 0, 1, 0, 4⟩, .drpush ⟨0, 0, 0, 0, 1, 4⟩,
  .drpush ⟨0, 0, 0, 0, 0, 16⟩, .drpush ⟨0, 0, 0, 0, 0, 5⟩, .drpop ⟨0, 0, 0, 1, 0, 4⟩, .drpop ⟨0, 0, 0, 0, 1, 4⟩,
  .drpop ⟨0, 0, 0, 0, 0, 16⟩, .drpop ⟨0, 0, 0, 0, 0, 5⟩, .drgn ⟨0, 0, 0, 1, 0, 0⟩, .drgn ⟨0, 0, 0, 0, 1, 0⟩,
  .dmode ⟨0, 0, 3⟩, .dtape ⟨0, 0, 0, 1, 0⟩, .drest ⟨0, 0, 1⟩, .kpage ⟨0, 0, 0, 1, 0, 0⟩,
  .kpage ⟨0, 0, 0, 0, 1, 0⟩, .kpage ⟨0, 0, 0, 0, 0, 8⟩, .ksel ⟨0, 0, 0, 0, 0, 8⟩, .ksel ⟨0, 0, 30, 0, 0, 0⟩,
  .kgat ⟨0, 0, 0, 0, 0, 16⟩, .kgat ⟨0, 31, 0, 0, 0, 8⟩, .ksync ⟨0, 0, 0, 1, 0, 0⟩, .ksync ⟨0, 0, 0, 0, 1, 0⟩,
  .ksync ⟨0, 0, 0, 0, 0, 4⟩]

theorem test_illFormed3 : ∀ i ∈ illFormed3, i.wf = false ∧ decodeWord (encode i) ≠ .ok i := by decide +kernel

/-! ### States -/

/-- The machine at reset with the moving hart changed. -/
def withHart (f : Hart → Hart) : State := State.reset.setMe (f State.reset.me)

/-- The machine at reset with the moving hart at a level, outside a handler. -/
def atPriv (p : W) : State := withHart fun h => { h with trap := { h.trap with stat := p } }

/-- A hart with 64 lanes, a shape, a VL and a format word in g24. -/
def shaped (sewc : BitVec 3) (gc : BitVec 2) (vl : Nat) (fw : W) : State :=
  withHart fun h => { h with g := [(24, fw)], vec := { h.vec with lanes := 64, phys := 64, sewc := sewc, gc := gc, vl := vl } }

theorem quiet_shaped (sewc : BitVec 3) (gc : BitVec 2) (vl : Nat) (fw : W) : Quiet (shaped sewc gc vl fw) :=
  ⟨rfl, rfl, rfl, (show bit (0 : W) 0 = false from rfl), (show bit (0 : W) 15 = false from rfl), rfl, rfl, rfl, rfl⟩

theorem quiet_reset : Quiet State.reset := ⟨rfl, rfl, rfl, rfl, rfl, rfl, rfl, rfl, rfl⟩

theorem plain_reset : PlainMem State.reset := ⟨by decide, rfl, rfl, rfl, rfl⟩

/-! ### Witnesses: states and operands that meet the hypotheses of each statement -/

theorem witness_DecodeOfEncode : ∃ i : Instr, i.wf = true ∧ i.encodable = true := ⟨.shlk ⟨31, 31, 63⟩, by decide +kernel⟩

theorem witness_EncodeOfDecode : ∃ (w : IWord) (i : Instr), decodeWord w = .ok i := ⟨0x00462080, .add ⟨3, 2, 1, 0, 0⟩, rfl⟩

theorem witness_StepRunsTheDecodedInstruction : ∃ (s t : State) (w : IWord) (i : Instr), s.schedule = [] ∧ s.me.run = .running ∧
    s.me.flt.pending = none ∧ s.me.flt.record = none ∧ s.me.flt.events = [] ∧ s.me.queue = [] ∧ s.xfers = [] ∧
    s.me.farm = none ∧ s.me.preempt = none ∧ s.me.task = none ∧ fetchWord s s.cur = .ok (t, w) ∧
    decodeFor t t.cur w = .ok i :=
  ⟨State.reset.withFetchWord 32 0x00462080, _, _, .add ⟨3, 2, 1, 0, 0⟩, rfl, rfl, rfl, rfl, rfl, rfl, rfl, rfl, rfl, rfl, rfl, rfl⟩

theorem witness_ScalarInteger : ∃ (s t : State) (i : Instr) (r : Result), scalarRule (gv s) s.me.pc i = some r ∧
    mustWait s.me r.regs = false ∧ farmBars s.me r.d = false ∧ exec i s = .next t :=
  ⟨State.reset, _, .add ⟨31, 31, 31, 0, 0⟩, _, rfl, rfl, rfl, rfl⟩

theorem witness_DivisionBorderlines : ∃ (s : State) (f : FS), f.a ≠ 0 ∧ mustWait s.me [f.a.toNat, f.b.toNat, f.c.toNat] = false ∧
    farmBars s.me f.a = false ∧ gv s f.b = 0x8000000000000000#64 ∧ gv s f.c = 0xFFFFFFFFFFFFFFFF#64 :=
  ⟨withHart fun h => (h.wr 1 0x8000000000000000#64).wr 2 0xFFFFFFFFFFFFFFFF#64, ⟨3, 1, 2, 0, 0⟩, by decide, rfl, rfl, rfl, rfl⟩

theorem witness_BranchesAndJumpsComplete :
    (∃ (s : State) (i : Instr) (f : FI) (c : W → W → Bool), branchRule i = some (f, c) ∧
      mustWait s.me [f.a.toNat, f.b.toNat] = false ∧ s.me.rdP f.a.toNat = false ∧ s.me.rdP f.b.toNat = false) ∧
    (∃ (s : State) (f : FU), mustWait s.me [f.a.toNat] = false ∧ farmBars s.me f.a = false) ∧
    (∃ (s : State) (f : FI), mustWait s.me [f.a.toNat, f.b.toNat] = false ∧ farmBars s.me f.a = false ∧
      s.me.rdP f.b.toNat = false ∧ (gv s f.b + f.imm.signExtend 64).toNat % 4 = 0) :=
  ⟨⟨State.reset, .bne ⟨1, 2, 0xFFF⟩, _, _, rfl, rfl, rfl, rfl⟩, ⟨State.reset, ⟨31, 0x1FFFF⟩, rfl, rfl⟩,
    ⟨State.reset, ⟨1, 1, 0xFFC⟩, rfl, rfl, rfl, rfl⟩⟩

theorem witness_PreciseTraps :
    (∃ (s : State) (f : FI), mustWait s.me [f.a.toNat, f.b.toNat] = false ∧ farmBars s.me f.a = false ∧
      s.me.rdP f.b.toNat = false ∧ (gv s f.b + f.imm.signExtend 64).toNat % 4 ≠ 0 ∧ s.me.priv ≤ 1 ∧
      bit s.me.trap.stat 7 = false) ∧
    (∃ (s : State) (i : Instr) (r : FltRule), fltRule (gv s) i = some r ∧ mustWait s.me r.regs = false ∧
      farmBars s.me r.f.a = false ∧ s.me.rdP (24 + r.f.fs.toNat) = false ∧ r.ok (s.me.rd (24 + r.f.fs.toNat)) = false ∧
      s.me.priv ≤ 1 ∧ bit s.me.trap.stat 7 = false) ∧
    (∃ (s : State) (i : Instr) (f : FI) (w : Nat) (sg : Bool), loadRule i = some (f, w, sg) ∧
      mustWait s.me [f.a.toNat, f.b.toNat] = false ∧ farmBars s.me f.a = false ∧ s.me.rdP f.b.toNat = false ∧
      acquiring s.me = false ∧ (eaOf s f).toNat % w ≠ 0 ∧ s.me.priv ≤ 1 ∧ bit s.me.trap.stat 7 = false) ∧
    (∃ (s : State) (i : Instr) (f : FI) (w : Nat), storeRule i = some (f, w) ∧
      mustWait s.me [f.a.toNat, f.b.toNat] = false ∧ s.me.rdP f.b.toNat = false ∧ acquiring s.me = false ∧
      (eaOf s f).toNat % w ≠ 0 ∧ s.me.priv ≤ 1 ∧ bit s.me.trap.stat 7 = false) ∧
    (∃ (s : State) (f : FI), s.me.priv ≤ 1 ∧ bit s.me.trap.stat 7 = false ∧ mustWait s.me [f.a.toNat, f.b.toNat] = false ∧
      mustWait s.me [f.a.toNat] = false ∧ csrAllowed f.imm.toNat s.me.priv false = false ∧
      csrAllowed f.imm.toNat s.me.priv true = false) :=
  ⟨⟨atPriv 0, ⟨1, 2, 3⟩, rfl, rfl, rfl, by decide, by decide, rfl⟩,
    ⟨atPriv 1, .fadd ⟨1, 2, 3, 0, 0⟩, _, rfl, rfl, rfl, rfl, rfl, by decide, rfl⟩,
    ⟨atPriv 0, .ld64 ⟨1, 2, 7⟩, _, _, _, rfl, rfl, rfl, rfl, rfl, by decide, by decide, rfl⟩,
    ⟨atPriv 1, .st16 ⟨1, 2, 1⟩, _, _, rfl, rfl, rfl, rfl, by decide, by decide, rfl⟩,
    ⟨atPriv 1, ⟨1, 2, 0x800⟩, by decide, rfl, rfl, rfl, rfl, rfl⟩⟩

theorem witness_ScalarFloatCompletes :
    (∃ (s : State) (i : Instr) (r : FltRule), fltRule (gv s) i = some r ∧
      mustWait s.me r.regs = false ∧ farmBars s.me r.f.a = false ∧ s.me.rdP (24 + r.f.fs.toNat) = false ∧
      r.ok (s.me.rd (24 + r.f.fs.toNat)) = true) ∧
    (∃ w : FW, inF w.src1 = true ∧ inF w.dst = true ∧ readFlt w.src1 0x7FC00000 = .nan ∧
      readFlt w.src1 0x7F800000 = .inf false ∧ readFlt w.src1 0xFF800000 = .inf true ∧ readFlt w.src1 0 = .zero false ∧
      readFlt w.src1 0x80000000 = .zero true ∧
      ∃ m e, readFlt w.src1 0x3F800000 = .fin false m e false ∧ readFlt w.src1 0xBF800000 = .fin true m e false) ∧
    (∀ m : Nat, m = 0x1FFFFFF ∨ m = 1 → ∃ (code eb fb bias : Nat) (e : Int), inF code = true ∧
      fltShape code = some (eb, fb, bias) ∧ 0 < m ∧
      (roundAt 4 false m e false (max ((m.log2 : Int) + e) (1 - bias) - fb)).1 < 2 ^ (fb + 1) ∧
      (max ((m.log2 : Int) + e) (1 - bias) : Int) - fb + fb + bias < 2 ^ eb - 1) := by
  refine ⟨⟨shaped 3 0 1 0x7F00AAAA, .fadd ⟨1, 2, 3, 0, 0⟩, _, rfl, rfl, rfl, rfl, by decide +kernel⟩,
    ⟨FW.of 0x7F00AAAA, by decide +kernel, by decide +kernel, by decide +kernel, by decide +kernel, by decide +kernel,
      by decide +kernel, by decide +kernel, 8388608, -23, by decide +kernel, by decide +kernel⟩, ?_⟩
  rintro m (rfl | rfl)
  · exact ⟨10, 8, 23, 127, 103, by decide +kernel⟩
  · exact ⟨10, 8, 23, 127, -150, by decide +kernel⟩

theorem witness_ScalarLoadsComplete : ∃ (s : State) (i : Instr) (f : FI) (w : Nat) (sg : Bool) (p : Placed),
    loadRule i = some (f, w, sg) ∧ mustWait s.me [f.a.toNat, f.b.toNat] = false ∧ farmBars s.me f.a = false ∧
    s.me.rdP f.b.toNat = false ∧ acquiring s.me = false ∧ (eaOf s f).toNat % w = 0 ∧ xlateMe s .scalar .load (eaOf s f) w = .ok p ∧
    isDevReg p.phys.loc = false ∧ s.me.mode ≠ 2 :=
  ⟨State.reset, .ld64 ⟨1, 0, 0x7F8⟩, _, _, _, _, rfl, rfl, rfl, rfl, rfl, rfl, rfl, rfl, by decide⟩

theorem witness_BytesOfMemory : ∃ (s : State) (p : Phys) (w : Nat), s.lineKeys = [] ∧ PlainMem s ∧ p.key = none ∧ 0 < w ∧ w ≤ 8 :=
  ⟨State.reset, ⟨63, 0, none, none⟩, 8, rfl, plain_reset, rfl, by decide, by decide⟩

/-- The machine at reset with g3 poisoned, REP and a link as given, and the word at address 0 marked. -/
def poisoned (rep : Bool) (link : Option Link) : State :=
  { (withHart fun h => { h with gpois := 8, flt := { h.flt with rep := rep }, link := link }) with marks := [0] }

theorem witness_ScalarStoresComplete :
    (∃ (s : State) (i : Instr) (f : FI) (w : Nat) (p : Placed), storeRule i = some (f, w) ∧
      PlainMem s ∧ p.phys.key = none ∧ mustWait s.me [f.a.toNat, f.b.toNat] = false ∧ s.me.rdP f.a.toNat = false ∧
      s.me.rdP f.b.toNat = false ∧ acquiring s.me = false ∧ (eaOf s f).toNat % w = 0 ∧ xlateMe s .scalar .store (eaOf s f) w = .ok p ∧
      isDevReg p.phys.loc = false ∧ myRegion s (eaOf s f) w = none) ∧
    (∀ rep : Bool, ∃ (s : State) (i : Instr) (f : FI) (w : Nat) (p : Placed), storeRule i = some (f, w) ∧
      mustWait s.me [f.a.toNat, f.b.toNat] = false ∧ s.me.rdP f.a.toNat = true ∧ s.me.rdP f.b.toNat = false ∧
      acquiring s.me = false ∧ (eaOf s f).toNat % w = 0 ∧ xlateMe s .scalar .store (eaOf s f) w = .ok p ∧
      myRegion s (eaOf s f) w = none ∧ s.me.mode ≠ 2 ∧ s.me.farm = none ∧ s.me.flt.rep = rep) :=
  ⟨⟨State.reset, .st32 ⟨1, 0, 0x7FC⟩, _, _, _, rfl, plain_reset, rfl, rfl, rfl, rfl, rfl, rfl, rfl, rfl, rfl⟩,
    fun rep => match rep with
      | false => ⟨poisoned false none, .st32 ⟨3, 0, 4⟩, _, _, _, rfl, rfl, rfl, rfl, rfl, rfl, rfl, rfl, nofun, rfl, rfl⟩
      | true => ⟨poisoned true none, .st32 ⟨3, 0, 4⟩, _, _, _, rfl, rfl, rfl, rfl, rfl, rfl, rfl, rfl, nofun, rfl, rfl⟩⟩

theorem witness_LinksAndAtomicsComplete :
    (∃ (s : State) (f : FA) (p : Placed), mustWait s.me [f.a.toNat, f.b.toNat] = false ∧
      farmBars s.me f.a = false ∧ s.me.rdP f.b.toNat = false ∧ s.me.queue = [] ∧ (gv s f.b).toNat % 8 = 0 ∧
      xlateMe s .scalar .load (gv s f.b) 8 = .ok p ∧ isDevReg p.phys.loc = false ∧ s.me.mode ≠ 2) ∧
    (∀ held bad : Bool, ∃ (s : State) (f : FA) (p : Placed), mustWait s.me [f.a.toNat, f.b.toNat, f.c.toNat] = false ∧
      farmBars s.me f.a = false ∧ s.me.rdP f.b.toNat = false ∧ s.me.rdP f.c.toNat = bad ∧ s.me.queue = [] ∧
      (gv s f.b).toNat % 4 = 0 ∧ xlateMe s .scalar .store (gv s f.b) 4 = .ok p ∧ isDevReg p.phys.loc = false ∧
      s.me.mode = 0 ∧ f.rl = 1 ∧ f.scope = 4 ∧
      p.st.me.link = if held then some ⟨gv s f.b, 4, p.phys.loc / 64⟩ else none) ∧
    (∀ swap bad : Bool, ∃ (s : State) (i : Instr) (f : FA) (w : Nat) (op : Nat → Nat → Nat) (p : Placed),
      amoRule i = some (f, w, op) ∧ isSwap i = swap ∧
      mustWait s.me [f.a.toNat, f.b.toNat, f.c.toNat] = false ∧ farmBars s.me f.a = false ∧ s.me.rdP f.b.toNat = false ∧
      s.me.rdP f.c.toNat = bad ∧ s.me.queue = [] ∧ (gv s f.b).toNat % w = 0 ∧
      xlateMe s .scalar .amo (gv s f.b) w = .ok p ∧ isDevReg p.phys.loc = false ∧ s.me.mode = 0 ∧
      marked p.st p.phys.loc w = true) ∧
    (∃ (s : State) (i : Instr) (f : FA) (w : Nat) (op : Nat → Nat → Nat) (p : Placed), amoRule i = some (f, w, op) ∧
      mustWait s.me [f.a.toNat, f.b.toNat, f.c.toNat] = false ∧ farmBars s.me f.a = false ∧ s.me.rdP f.b.toNat = false ∧
      s.me.rdP f.c.toNat = false ∧ s.me.queue = [] ∧ (gv s f.b).toNat % w = 0 ∧
      xlateMe s .scalar .amo (gv s f.b) w = .ok p ∧ isDevReg p.phys.loc = false ∧ s.me.mode = 0 ∧
      marked p.st p.phys.loc w = false) :=
  ⟨⟨State.reset, ⟨1, 2, 0, 0, 0, 0, 0⟩, _, rfl, rfl, rfl, rfl, rfl, rfl, rfl, by decide⟩,
    fun held bad => match held, bad with
      | false, false => ⟨poisoned false none, ⟨1, 2, 4, 0, 1, 0, 4⟩, _, rfl, rfl, rfl, rfl, rfl, rfl, rfl, rfl, rfl, rfl, rfl, rfl⟩
      | false, true => ⟨poisoned false none, ⟨1, 2, 3, 0, 1, 0, 4⟩, _, rfl, rfl, rfl, rfl, rfl, rfl, rfl, rfl, rfl, rfl, rfl, rfl⟩
      | true, false => ⟨poisoned false (some ⟨0, 4, 0⟩), ⟨1, 2, 4, 0, 1, 0, 4⟩, _, rfl, rfl, rfl, rfl, rfl, rfl, rfl, rfl, rfl, rfl,
          rfl, rfl⟩
      | true, true => ⟨poisoned false (some ⟨0, 4, 0⟩), ⟨1, 2, 3, 0, 1, 0, 4⟩, _, rfl, rfl, rfl, rfl, rfl, rfl, rfl, rfl, rfl, rfl,
          rfl, rfl⟩,
    fun swap bad => match swap, bad with
      | false, false => ⟨poisoned false none, .amoaddd ⟨1, 2, 4, 1, 1, 0, 4⟩, _, _, _, _, rfl, rfl, rfl, rfl, rfl, rfl, rfl, rfl, rfl,
          rfl, rfl, rfl⟩
      | false, true => ⟨poisoned false none, .amoaddd ⟨1, 2, 3, 1, 1, 0, 4⟩, _, _, _, _, rfl, rfl, rfl, rfl, rfl, rfl, rfl, rfl, rfl,
          rfl, rfl, rfl⟩
      | true, false => ⟨poisoned false none, .amoswapd ⟨1, 2, 4, 1, 1, 0, 4⟩, _, _, _, _, rfl, rfl, rfl, rfl, rfl, rfl, rfl, rfl, rfl,
          rfl, rfl, rfl⟩
      | true, true => ⟨poisoned false none, .amoswapd ⟨1, 2, 3, 1, 1, 0, 4⟩, _, _, _, _, rfl, rfl, rfl, rfl, rfl, rfl, rfl, rfl, rfl,
          rfl, rfl, rfl⟩,
    ⟨State.reset, .amoaddd ⟨1, 2, 3, 1, 1, 0, 4⟩, _, _, _, _, rfl, rfl, rfl, rfl, rfl, rfl, rfl, rfl, rfl, rfl, rfl⟩⟩

theorem witness_TrapsAndReturns :
    (∃ s : State, s.me.priv ≤ 1 ∧ bit s.me.trap.stat 7 = false) ∧ (∃ s : State, s.me.priv ≤ 1 ∧ bit s.me.trap.stat 7 = true) ∧
    (∃ s : State, s.me.priv = 2 ∧ bit s.me.trap.stat 15 = false) ∧ (∃ s : State, s.me.priv = 2 ∧ bit s.me.trap.stat 15 = true) ∧
    (∃ s : State, s.me.priv = 0) ∧ (∃ s : State, s.me.priv = 1 ∧ bit s.me.flt.vfstat 0 = true) :=
  ⟨⟨atPriv 1, by decide⟩, ⟨atPriv 0x81, by decide⟩, ⟨atPriv 2, by decide⟩, ⟨atPriv 0x8002, by decide⟩, ⟨atPriv 0, by decide⟩,
    ⟨withHart fun h => { h with trap := { h.trap with stat := 1 }, flt := { h.flt with vfstat := 1 } }, by decide⟩⟩

/-- R63, R176: the loop contexts of a divided hart stop with it. -/
theorem test_halt_stops_loops :
    let s := State.setHart (atPriv 0x8002) 2048 { Hart.reset with run := .running }
    ((takeTrap s false 2 0 0 none).hart 2048).run = .halted := by decide

theorem witness_ParkAndFencesComplete : ∃ (s : State) (f : FI) (g : FA) (h : FS), mustWait s.me [f.a.toNat, f.b.toNat] = false ∧
    farmBars s.me f.a = false ∧ s.me.queue = [] ∧ 1 ≤ s.me.priv ∧ mustWait s.me [h.b.toNat, h.c.toNat] = false ∧ g.scope = 4 :=
  ⟨State.reset, ⟨1, 2, 0⟩, ⟨0, 0, 0, 0, 0, 0, 4⟩, ⟨0, 1, 2, 0, 0⟩, rfl, rfl, rfl, by decide, rfl, rfl⟩

theorem witness_ControlAccessesComplete :
    (∃ (s t : State) (f : FI), s.me.queue = [] ∧ s.me.farm = none ∧ s.me.gwait = [] ∧
      s.me.vec.drain = [] ∧ csrAllowed f.imm.toNat s.me.priv false = true ∧ csrAllowed f.imm.toNat s.me.priv true = true ∧
      s.me.rdP f.b.toNat = false ∧ csrWrite s f.imm.toNat (gv s f.b) = some t) ∧
    (∃ (s : State) (f : FI), f.imm.toNat = 0x047 ∧ mustWait s.me [f.a.toNat] = false ∧ s.me.queue ≠ [] ∧
      (∀ c ∈ s.me.queue, ∀ x, c.ins ≠ .vamax x) ∧ s.me.farm = none ∧ s.me.vec.drain = []) ∧
    (∃ (n lv : Nat) (w : Bool), lv ≤ 2 ∧ csrAllowed n lv w = true ∧ rangeLevel n = lv) ∧ (0x809, 2, 2) ∈ r48 :=
  ⟨⟨State.reset, _, ⟨1, 2, 0x100⟩, rfl, rfl, rfl, rfl, rfl, rfl, rfl, rfl⟩,
    ⟨withHart fun h => { h with queue := [cmdOf State.reset (.bwait ⟨1, 2, 3, 0, 0, 0⟩) [2, 3] none] }, ⟨5, 0, 0x047⟩, rfl, rfl, nofun,
      fun c hc x h => (by cases List.mem_singleton.mp hc; cases h), rfl, rfl⟩,
    ⟨0x952, 2, true, by decide, rfl, rfl⟩, by decide⟩

/-! Words of the class that each instruction checks: FP32 throughout; BF16 to E4M3; E4M3 with FP32; L6; L6 with FP32; L6 to BF16. -/

def fw32 : W := 0x7F00AAAA
def fwNarrow : W := 0x7F000608
def fwE4 : W := 0x7F00AA66
def fwL6 : W := 0x7F000CCC
def fwL6Sum : W := 0x7F00AACC
def fwL6Out : W := 0x7F00080C

/-- One element, at an aligned address, reaches its place. -/
theorem reaches_one {s : State} {k : Kind} {e : Ea} {loc : Nat → Nat} (hb : e.bad = false) (ha : e.ea.toNat % e.w = 0)
    (hx : ∃ mt via, xlateMe s .vector k e.ea e.w = .ok ⟨⟨loc e.i, mt, none, via⟩, s⟩) : Reaches s k [e] loc := by
  intro x h
  cases List.mem_singleton.mp h
  exact ⟨hb, ha, hx⟩

/-- A decode table of version 1 with no entry, at address 16, and the machine that holds it. -/
def tabled : State := { State.reset with mem := [(16, 0x51), (17, 0x4C), (18, 0x44), (19, 0x4D), (20, 1)] }

/-- Whether a table is read and gives this status. -/
def readsTable (x : Nat) : Table → Bool
  | .read _ ds => (tableStatus ds).1 == x
  | _ => false

theorem reads_table {s : State} {x : Nat} (h : readsTable x (readTable 258 s 0x10 []) = true) :
    ∃ u ds, readTable 258 s 0x10 [] = .read u ds ∧ (tableStatus ds).1 = x := by
  revert h
  cases readTable 258 s 0x10 [] with
  | read u ds => exact fun h => ⟨u, ds, rfl, beq_iff_eq.mp h⟩
  | trap c => exact nofun
  | stop f => exact nofun

theorem isOk_of {ε α : Type} {x : Except ε α} (h : x.isOk = true) : ∃ a, x = .ok a := by
  cases x with
  | ok a => exact ⟨a, rfl⟩
  | error e => cases h

theorem writes_image : ∃ u, writeImage State.reset State.reset.cur true false 0 (imageOf State.reset.me 0
    State.reset.me.vec.lanes State.reset.me.trap.epc) = .ok u :=
  isOk_of (by decide +kernel)

/-- The machine at reset, outside a handler at kernel level, with the header of an image of no lanes in memory. -/
def imaged : State := { State.reset with
  mem := [(0, 0x53), (1, 0x58), (2, 0x56), (3, 0x51), (4, 1)] }

/-- A line of an image at `b` lies at its own address. -/
def lineOk (s : State) (hart b l : Nat) : Bool :=
  let va : W := BitVec.ofNat 64 b + BitVec.ofNat 64 (64 * l)
  canonical va && !inWindow va && fld va 52 12 == 0 && va.toNat == b + 64 * l && isDevReg (b + 64 * l) == false &&
    (match paPlace s .vector 1 (b + 64 * l) with
     | .ok x => x == b + 64 * l
     | .error _ => false) && placeOk s (s.hart hart).ctx 1 .vector .load ⟨b + 64 * l, 0, none, none⟩ 64

/-- An image at `b` that the hart may read, whose lines from 8 on are zero. -/
structure HoldsImage (s : State) (hart b : Nat) : Prop where
  lines : (List.range 1472).all (lineOk s hart b) = true
  atp : bit (s.ctx (s.hart hart).ctx).atp 63 = false
  mode : (s.hart hart).mode = 0
  clean : s.dirty = []
  keys : s.lineKeys = []
  ends : s.mem.all (fun c => decide (c.1 < b + 512)) = true

theorem image_place {s : State} {hart b : Nat} (own : Bool) (x : HoldsImage s hart b) (l : Nat) (h : l < 1472) :
    imagePlace s hart own .load (BitVec.ofNat 64 b + BitVec.ofNat 64 (64 * l)) = .ok ⟨⟨b + 64 * l, 0, none, none⟩, s⟩ := by
  have k := List.all_eq_true.mp x.lines l (List.mem_range.mpr h)
  simp only [lineOk, Bool.and_eq_true, Bool.not_eq_true', beq_iff_eq] at k
  obtain ⟨⟨⟨⟨⟨⟨h1, h2⟩, h3⟩, h4⟩, h5⟩, h6⟩, h7⟩ := k
  have e : paPlace s .vector 1 (b + 64 * l) = .ok (b + 64 * l) := by
    revert h6
    cases paPlace s .vector 1 (b + 64 * l) with
    | ok x => intro h; rw [beq_iff_eq.mp h]
    | error c => intro h; cases h
  have ha := x.atp
  have hm := x.mode
  have hd : ∀ n, recallLines s none none n 64 = s := fun n => by rw [recallLines, if_pos (by rw [x.clean]; rfl)]
  generalize (BitVec.ofNat 64 b + BitVec.ofNat 64 (64 * l) : W) = va at *
  simp [imagePlace, xlate, h1, h2, h3, h4, e, h5, h7, ha, hm, hd, Kind.isStore]

theorem image_places {s : State} {hart b : Nat} (own : Bool) (x : HoldsImage s hart b) (ls : List Nat)
    (h : ∀ l, l ∈ ls → l < 1472) : imagePlaces hart own .load (BitVec.ofNat 64 b) ls s =
      .ok (s, ls.map fun l => (l, ⟨b + 64 * l, 0, none, none⟩)) := by
  induction ls with
  | nil => rfl
  | cons l r ih =>
    simp only [imagePlaces, image_place own x l (h l (.head _)), ih fun x hx => h x (.tail _ hx), List.map]

theorem memGet_away (m : List Host.Cell) (k : Nat) (h : ∀ c, c ∈ m → c.1 ≠ k) : memGet m k = 0 := by
  induction m with
  | nil => rfl
  | cons c r ih => rw [memGet, if_neg fun e => h c (.head _) e.symm, ih fun x hx => h x (.tail _ hx)]

theorem image_zero {s : State} {hart b : Nat} (x : HoldsImage s hart b) (l : Nat) (h : 8 ≤ l) :
    loadAt s ⟨b + 64 * l, 0, none, none⟩ 64 = 0 := by
  have z : ∀ k, b + 64 * l ≤ k → memGet s.mem k = 0 := fun k hk => memGet_away _ _ fun c hc => by
    have := of_decide_eq_true (List.all_eq_true.mp x.ends c hc)
    omega
  have e : (upTo (b + 64 * l) 64).map (memGet s.mem) = (upTo (b + 64 * l) 64).map fun _ => 0 :=
    List.map_congr_left fun k hk => z k (List.mem_range'_1.mp hk).1
  rw [List.map_const', upTo, List.length_range'] at e
  have k : readKey s (b + 64 * l) 64 none = 0 := by
    rw [readKey, if_pos (by rw [x.keys]; rfl), rawGet, upTo, e]
    decide +kernel
  rw [loadAt, show keyOf s ⟨b + 64 * l, 0, none, none⟩ = none by simp [keyOf]]
  exact k

theorem image_rest {s : State} {hart b : Nat} (own : Bool) (x : HoldsImage s hart b) :
    readImage s hart own (BitVec.ofNat 64 b) (registerLines 0) = .ok (s, 0) := by
  have m : ∀ l, l ∈ registerLines 0 → 12 ≤ l ∧ l < 1472 := fun l h => by
    obtain h | h := List.mem_append.mp h
    · have := List.mem_range'_1.mp h
      omega
    · have := List.mem_range'_1.mp h
      rw [show imageSize / 64 - 64 - 0 = 1408 from rfl] at this
      omega
  rw [readImage, image_places own x (registerLines 0) fun l h => (m l h).2]
  simp only [List.map_map, imgOf]
  rw [List.map_congr_left (g := fun _ => 0) fun l hl => by
    simp only [Function.comp, image_zero x l (Nat.le_trans (by decide) (m l hl).1), Nat.zero_mod, Nat.zero_mul]]
  rw [List.map_const']
  generalize (registerLines 0).length = n
  exact congrArg (fun x => Except.ok (s, x)) (by induction n <;> simp_all [List.replicate_succ])

/-- An image that holds no command has no entry to be read. -/
theorem image_queue {s : State} {hart b : Nat} (own : Bool) :
    readImage s hart own (BitVec.ofNat 64 b) (queueLines 0) = .ok (s, 0) := rfl

theorem image_head {s : State} {hart b : Nat} (own : Bool) (x : HoldsImage s hart b) :
    readImage s hart own (BitVec.ofNat 64 b) (upTo 0 8) =
      .ok (s, imgOf ((upTo 0 8).map fun l => (64 * l, 64, loadAt s ⟨b + 64 * l, 0, none, none⟩ 64))) := by
  rw [readImage, image_places own x (upTo 0 8) (by decide)]
  simp only [List.map_map]
  rfl

theorem holds_imaged : HoldsImage imaged 0 0 := ⟨by decide +kernel, by decide, rfl, rfl, rfl, by decide⟩

/-- A held image of no more than a header that names no command: it loads, or has no seats. -/
theorem load_held {s : State} {hart b H lanes : Nat} (own : Bool) (x : HoldsImage s hart b)
    (hb : (BitVec.ofNat 64 b).toNat % 4096 = 0)
    (e : imgOf ((upTo 0 8).map fun l => (64 * l, 64, loadAt s ⟨b + 64 * l, 0, none, none⟩ 64)) = H)
    (ho : headerOk H = true) (hh : imageHeld H = 0) (hl : imgFld H 0x10 2 = lanes) (hk : imgFld H 6 1 = 0) :
    loadImage s hart own (BitVec.ofNat 64 b) =
      if seatable s hart < lanes ∧ bit (s.hart hart).vec.vsave 0 = false then .status s 3
      else .loaded ((seatHart s hart (min lanes (seatable s hart))).setHart hart
        (imageHart ((seatHart s hart (min lanes (seatable s hart))).hart hart) H lanes (min lanes (seatable s hart)) [])) H := by
  have q (a : Lay) (n : Nat) : imageQueue H a n = [] := by rw [imageQueue, hh]; rfl
  rw [loadImage, if_neg (by rw [hb]; decide), image_head own x, e]
  simp only [ho, hh, image_queue own, image_rest own x, hl, hk, Nat.add_zero, q, Bool.not_true, Bool.false_eq_true, if_false,
    show upTo 0 0 = [] from rfl, List.all_nil, Nat.zero_ne_one, false_or]

theorem loads_image : ∃ u img, loadImage imaged imaged.cur true 0 = .loaded u img := by
  have k := load_held (H := 0x0151565853) (lanes := 0) true holds_imaged (by decide) (by decide +kernel) (by decide +kernel)
    (by decide +kernel) (by decide +kernel) (by decide +kernel)
  rw [if_neg fun h => Nat.not_lt_zero _ h.1] at k
  exact ⟨_, _, k⟩

theorem witness_TablesAndContextsComplete :
    (∃ (s : State) (f : FI), 1 ≤ s.me.priv ∧ mustWait s.me [f.a.toNat, f.b.toNat] = false ∧ s.me.farm = none ∧
      s.me.rdP f.b.toNat = false ∧ acquiring s.me = false ∧ eaOf s f = 0) ∧
    (∀ good : Bool, ∃ (s u : State) (f : FI) (ds : List W), 1 ≤ s.me.priv ∧ mustWait s.me [f.a.toNat, f.b.toNat] = false ∧
      s.me.farm = none ∧ s.me.rdP f.b.toNat = false ∧ acquiring s.me = false ∧ eaOf s f ≠ 0 ∧ (eaOf s f).toNat % 16 = 0 ∧
      readTable 258 s (eaOf s f) [] = .read u ds ∧ (tableStatus ds).1 = if good then 0 else 1) ∧
    (∃ (s u : State) (f : FI), 1 ≤ s.me.priv ∧ Quiet s ∧ s.me.vec.drain = [] ∧ s.me.rdP f.b.toNat = false ∧
      (gv s f.b).toNat % 4096 = 0 ∧ f.imm = 0 ∧
      writeImage s s.cur true false (gv s f.b) (imageOf s.me 0 s.me.vec.lanes s.me.trap.epc) = .ok u) ∧
    (∃ (s u : State) (f : FI) (img : Nat), 1 ≤ s.me.priv ∧ Quiet s ∧ s.me.rdP f.b.toNat = false ∧
      loadImage s s.cur true (gv s f.b) = .loaded u img) := by
  obtain ⟨v, k⟩ := writes_image
  obtain ⟨w, img, l⟩ := loads_image
  refine ⟨⟨State.reset, ⟨1, 2, 0⟩, by decide, rfl, rfl, rfl, rfl, rfl⟩, fun good => ?_,
    ⟨State.reset, v, ⟨1, 2, 0⟩, by decide, quiet_reset, rfl, rfl, rfl, rfl, k⟩,
    ⟨imaged, w, ⟨1, 2, 0⟩, img, by decide, ⟨rfl, rfl, rfl, rfl, rfl, rfl, rfl, rfl, rfl⟩, rfl, l⟩⟩
  cases good
  · obtain ⟨u, ds, h, e⟩ := reads_table (s := State.reset) (x := 1) (by decide +kernel)
    exact ⟨State.reset, u, ⟨1, 2, 0x10⟩, ds, by decide, rfl, rfl, rfl, rfl, by decide, by decide, h, e⟩
  · obtain ⟨u, ds, h, e⟩ := reads_table (s := tabled) (x := 0) (by decide +kernel)
    exact ⟨tabled, u, ⟨1, 2, 0x10⟩, ds, by decide, rfl, rfl, rfl, rfl, by decide, by decide, h, e⟩

theorem witness_VectorIntegerCompletes : ∃ (s : State) (i : Instr) (f : FV) (k : Second) (op : Nat → Nat → Nat → Nat × Bool),
    vintRule i = some (f, k, op) ∧ Quiet s ∧ onGroup s f.a ∧ onGroup s f.b ∧ onGroup s f.c ∧ s.me.vec.actives f.msk ≠ [] :=
  ⟨shaped 4 1 3 0, .vadds ⟨30, 28, 2, 0, 0, 0, 0⟩, _, _, _, rfl, quiet_shaped _ _ _ _, rfl, rfl, rfl, by decide⟩

theorem witness_VectorComparesComplete :
    (∃ (s : State) (i : Instr) (f : FV) (k : Second) (c : Nat → Nat → Nat → Bool), vcmpRule i = some (f, k, c) ∧ Quiet s ∧
      f.a.toNat < 2 ∧ onGroup s f.b ∧ onGroup s f.c) ∧
    (∃ (s : State) (i : Instr) (f : FV) (c : Machine.Num → Machine.Num → Bool), vfcmpRule i = some (f, c) ∧ Quiet s ∧ fwordP s f.fs = false ∧
      fwCmp (fword s f.fs) true = true ∧ (descOf i s.me.vec.lay (fword s f.fs)).earlyOk = true ∧
      (descOf i s.me.vec.lay (fword s f.fs)).lateOk = true) :=
  ⟨⟨shaped 0 3 3 0, .vclt ⟨1, 8, 24, 0, 0, 0, 0⟩, _, _, _, rfl, quiet_shaped _ _ _ _, by decide, rfl, rfl⟩,
    ⟨shaped 3 0 3 fw32, .vflt ⟨1, 8, 31, 0, 0, 0, 0⟩, _, _, rfl, quiet_shaped _ _ _ _, rfl, rfl, rfl, rfl⟩⟩

theorem witness_VectorFloatCompletes :
    (∃ (s : State) (i : Instr) (f : FV) (two : Bool) (op : FW → Nat → Nat → Nat × Flags), vfltRule i = some (f, two, op) ∧
      Quiet s ∧ fwordP s f.fs = false ∧ fwElem (fword s f.fs) two = true ∧ heldOk s.me.vec.lay (fword s f.fs) = true ∧
      (descOf i s.me.vec.lay (fword s f.fs)).earlyOk = true ∧ (descOf i s.me.vec.lay (fword s f.fs)).lateOk = true) ∧
    (∃ (s : State) (i : Instr) (f : FV) (np nc : Bool), vfusedRule i = some (f, np, nc) ∧ Quiet s ∧ fwordP s f.fs = false ∧
      fwFused (fword s f.fs) = true ∧ heldOk s.me.vec.lay (fword s f.fs) = true ∧
      (descOf i s.me.vec.lay (fword s f.fs)).earlyOk = true ∧ (descOf i s.me.vec.lay (fword s f.fs)).lateOk = true) :=
  ⟨⟨shaped 3 0 3 fw32, .vfdiv ⟨1, 8, 31, 0, 0, 0, 0⟩, _, _, _, rfl, quiet_shaped _ _ _ _, rfl, rfl, rfl, rfl, rfl⟩,
    ⟨shaped 3 0 3 fw32, .vfma ⟨1, 8, 31, 0, 0, 0, 0⟩, _, _, _, rfl, quiet_shaped _ _ _ _, rfl, rfl, rfl, rfl, rfl⟩⟩

theorem witness_VectorConversionsComplete :
    (∃ (s : State) (f : FV), Quiet s ∧ fwordP s f.fs = false ∧ fwConv (fword s f.fs) false = true ∧
      heldOk s.me.vec.lay (fword s f.fs) = true ∧ (descOf (.vfcvt f) s.me.vec.lay (fword s f.fs)).earlyOk = true ∧
      (descOf (.vfcvt f) s.me.vec.lay (fword s f.fs)).lateOk = true) ∧
    (∃ (s : State) (f : FV), Quiet s ∧ fwordP s f.fs = false ∧ fwCmp (fword s f.fs) false = true ∧
      extent s.me.vec.lay (storageWidth (FW.of (fword s f.fs)).src1) ≠ 0 ∧ 16 ≤ s.me.vec.lay.sew ∧
      (descOf (.vfclass f) s.me.vec.lay (fword s f.fs)).earlyOk = true ∧
      (descOf (.vfclass f) s.me.vec.lay (fword s f.fs)).lateOk = true) :=
  ⟨⟨shaped 1 0 3 fwNarrow, ⟨1, 8, 0, 0, 0, 0, 0⟩, quiet_shaped _ _ _ _, rfl, rfl, rfl, rfl, rfl⟩,
    ⟨shaped 3 0 3 fw32, ⟨1, 8, 0, 0, 0, 0, 0⟩, quiet_shaped _ _ _ _, rfl, rfl, by decide, by decide, rfl, rfl⟩⟩

theorem witness_VectorMovesComplete :
    (∃ (s : State) (i : Instr) (f : FV) (ws : List EWr), moveRule s i = some (f, ws) ∧ Quiet s ∧
      (descOf i s.me.vec.lay 0).earlyOk = true) ∧ (∃ (s : State) (f : FV), Quiet s ∧ onGroup s f.b) :=
  ⟨⟨shaped 3 0 3 0, .vsldn ⟨1, 2, 3, 0, 0, 0, 0⟩, _, _, rfl, quiet_shaped _ _ _ _, rfl⟩,
    ⟨shaped 3 0 3 0, ⟨1, 2, 3, 0, 0, 0, 0⟩, quiet_shaped _ _ _ _, rfl⟩⟩

/-- Three 32-bit elements, the last with its position in PM. -/
def pmed : State := withHart fun h => { h with vec := { h.vec with
  lanes := 64, phys := 64, sewc := 3, vl := 3, pm := maskSet 0 ⟨32, 1⟩ 2 true } }

theorem quiet_pmed : Quiet pmed := ⟨rfl, rfl, rfl, rfl, rfl, rfl, rfl, rfl, rfl⟩

theorem witness_MaskInstructionsComplete :
    (∀ mix : Bool, ∃ (s : State) (i : Instr) (f : FV) (two : Bool) (b : Nat → Bool), maskRule s i = some (f, two, mix, b) ∧
      Quiet s ∧ f.a.toNat < 2 ∧ f.b.toNat < 2 ∧ f.c.toNat < 2 ∧ maskBit s.me.vec.pm s.me.vec.lay 2 = mix ∧ s.me.vec.vl = 3) ∧
    (∃ (s : State) (f : FV), Quiet s ∧ f.a.toNat < 2 ∧ f.b.toNat < 2 ∧ onGroup s f.a ∧ onGroup s f.b) :=
  ⟨fun mix => match mix with
    | false => ⟨shaped 3 0 3 0, .mandn ⟨1, 0, 1, 0, 0, 0, 0⟩, _, _, _, rfl, quiet_shaped _ _ _ _, by decide, by decide, by decide,
        by decide +kernel, rfl⟩
    | true => ⟨pmed, .mbefore ⟨1, 0, 1, 0, 0, 0, 0⟩, _, _, _, rfl, quiet_pmed, by decide, by decide, by decide,
        by decide +kernel, rfl⟩,
    ⟨shaped 3 0 3 0, ⟨1, 1, 0, 0, 0, 0, 0⟩, quiet_shaped _ _ _ _, by decide, by decide, rfl, rfl⟩⟩

theorem vfrsumtRule (w : FW) (v : VecRegs) (x : Nat → Machine.Num × Bool) (seed : Part) (f : FV) :
    (vfredRule w v x seed (.vfrsumt f)).map (·.1) = some f := by
  unfold vfredRule
  simp only
  cases (treeSum w v f.msk x).1 <;> rfl

theorem witness_ReductionsComplete :
    (∀ none : Bool, ∃ (s : State) (i : Instr) (f : FV) (op : Nat → Nat → Nat → Nat), vredRule i = some (f, op) ∧ Quiet s ∧
      onGroup s f.a ∧ onGroup s f.b ∧ onGroup s f.c ∧ (s.me.vec.cap = 0 ↔ none = true)) ∧
    (∀ none : Bool, ∃ (s : State) (f : FV), Quiet s ∧ s.me.vec.lay.sew ≠ 64 ∧
      (descOf (.vwrsum f) s.me.vec.lay 0).earlyOk = true ∧ (s.me.vec.cap = 0 ↔ none = true)) ∧
    (∀ none : Bool, ∃ (s : State) (i : Instr) (f : FV), (∀ w v x seed, (vfredRule w v x seed i).map (·.1) = some f) ∧
      Quiet s ∧ fwordP s f.fs = false ∧ fwElem (fword s f.fs) false = true ∧ heldOk s.me.vec.lay (fword s f.fs) = true ∧
      (descOf i s.me.vec.lay (fword s f.fs)).earlyOk = true ∧ (descOf i s.me.vec.lay (fword s f.fs)).lateOk = true ∧
      (s.me.vec.cap = 0 ↔ none = true)) := by
  refine ⟨fun b => ?_, fun b => ?_, fun b => ?_⟩ <;> cases b
  · exact ⟨shaped 3 0 3 0, .vrmax ⟨1, 2, 3, 0, 0, 0, 0⟩, _, _, rfl, quiet_shaped _ _ _ _, rfl, rfl, rfl, by decide⟩
  · exact ⟨State.reset, .vrmax ⟨1, 2, 3, 0, 0, 0, 0⟩, _, _, rfl, quiet_reset, rfl, rfl, rfl, by decide⟩
  · exact ⟨shaped 2 0 3 0, ⟨4, 2, 6, 0, 0, 0, 0⟩, quiet_shaped _ _ _ _, by decide, rfl, by decide⟩
  · exact ⟨State.reset, ⟨4, 2, 6, 0, 0, 0, 0⟩, quiet_reset, by decide, rfl, by decide⟩
  · exact ⟨shaped 3 0 3 fw32, .vfrsumt ⟨1, 2, 3, 0, 0, 0, 0⟩, _, fun _ _ _ _ => vfrsumtRule .., quiet_shaped _ _ _ _, rfl,
      rfl, rfl, rfl, rfl, by decide⟩
  · exact ⟨withHart fun h => { h with g := [(24, fw32)], vec := { h.vec with sewc := 3 } }, .vfrsum ⟨1, 2, 3, 0, 0, 0, 0⟩, _,
      fun _ _ _ _ => rfl, ⟨rfl, rfl, rfl, rfl, rfl, rfl, rfl, rfl, rfl⟩, rfl, rfl, rfl, rfl, rfl, by decide⟩

theorem witness_ElementsAndMaskBits : ∃ (v : VecRegs) (sewc : BitVec 3) (gc : BitVec 2) (b i j : Nat), sewc.toNat < 5 ∧
    b + (⟨sewOf sewc, gOf gc⟩ : Lay).g ≤ 32 ∧ v.lanes ≤ 512 ∧ i < (⟨sewOf sewc, gOf gc⟩ : Lay).cap v.lanes ∧
    j < (⟨sewOf sewc, gOf gc⟩ : Lay).cap v.lanes :=
  ⟨{ VecRegs.reset with lanes := 512 }, 0, 3, 24, 32767, 0, by decide, by decide, by decide, by decide, by decide⟩

theorem witness_GrantStepCompletes : ∃ (s : State) (i : Instr) (d : BitVec 5) (avl : Nat) (sewc : BitVec 3) (gc : BitVec 2),
    grantRule s i = some (d, avl, sewc, gc) ∧ Quiet s ∧ (s.me.priv = 0 → bit s.me.vec.vsave 0 = true) ∧
    (heldBy (myCore s) s.cur ≠ [] ∨ freeClusters (myCore s) ≠ []) :=
  ⟨shaped 3 0 0 0, .setvl ⟨1, 2, 3⟩, _, _, _, _, rfl, quiet_shaped _ _ _ _, by decide, by decide⟩

theorem witness_ShapesAndFoldsComplete :
    (∃ (s : State) (f : FV) (t : Nat), Quiet s ∧ onGroup s f.a ∧ slotFor s.me.vec f.a.toNat = some t ∧ f.b.toNat = 4 ∧
      fwordP s f.fs = false ∧ fwElem (fword s f.fs) false = true ∧
      storageWidth (FW.of (fword s f.fs)).dst = s.me.vec.lay.sew) ∧
    (∃ (s : State) (f : FV), Quiet s ∧ slotNamed s.me.vec f.a.toNat = none) ∧
    (∃ (s : State) (f : FV) (t : Nat), Quiet s ∧ slotNamed s.me.vec f.a.toNat = some t ∧ 1 ≤ (gv s f.b).toNat ∧
      (gv s f.b).toNat < s.me.vec.cap ∧ slotFolds s.me.vec.lay (s.me.vec.fold t) = true) :=
  ⟨⟨shaped 3 0 3 fw32, ⟨2, 4, 0, 0, 0, 0, 0⟩, _, quiet_shaped _ _ _ _, rfl, rfl, rfl, rfl, rfl, rfl⟩,
    ⟨shaped 3 0 3 0, ⟨2, 1, 0, 0, 0, 0, 0⟩, quiet_shaped _ _ _ _, rfl⟩,
    ⟨withHart fun h => { h with g := [(1, 63)], vec := { h.vec with lanes := 64, phys := 64, folds := [(1, 0x8200)] } },
      ⟨2, 1, 0, 0, 0, 0, 0⟩, _, ⟨rfl, rfl, rfl, rfl, rfl, rfl, rfl, rfl, rfl⟩, rfl, by decide, by decide, by decide +kernel⟩⟩

/-- Hart 0 with one active 32-bit element, and no translation. -/
def one32 : State := shaped 3 0 1 fw32

theorem one_active : one32.me.vec.actives 0 = [0] := by decide +kernel

theorem el_one : el one32 3 0 = 0 := by decide +kernel

theorem elP_one (r : BitVec 5) : elP one32 r 0 = false := rfl

theorem indexed_one : indexedEa one32 2 3 4 0 = ⟨0, 0, 4, false⟩ := by simp only [indexedEa, el_one]; rfl

theorem plain_one : PlainMem one32 := ⟨by decide, rfl, rfl, rfl, rfl⟩

theorem witness_VectorMemory :
    (∃ (s : State) (i : Instr) (f : FM) (pk : Bool) (ea : Nat → Ea) (loc : Nat → Nat), vloadRule s i = some (f, pk, ea) ∧
      Quiet s ∧ s.lineKeys = [] ∧ s.me.mode ≠ 2 ∧ ewFits s f pk = true ∧ (descOf i s.me.vec.lay 0).earlyOk = true ∧
      Reaches s .load ((s.me.vec.actives f.msk).map ea) loc ∧ OneLeaf s .load ((s.me.vec.actives f.msk).map ea)) ∧
    (∃ (s : State) (i : Instr) (f : FM) (pk : Bool) (ea : Nat → Ea) (loc : Nat → Nat), vstoreRule s i = some (f, pk, ea) ∧
      Quiet s ∧ PlainMem s ∧ Bare s ∧ s.me.mode = 0 ∧ ewFits s f pk = true ∧ (descOf i s.me.vec.lay 0).earlyOk = true ∧
      Reaches s .store ((s.me.vec.actives f.msk).map ea) loc) ∧
    (∃ (s : State) (f : FM) (loc : Nat → Nat) (pre post : List Nat) (j : Nat), Quiet s ∧ s.lineKeys = [] ∧ s.marks = [] ∧
      s.regions = [] ∧ s.me.mode ≠ 2 ∧ ewFits s f true = true ∧ (descOf (.vldff f) s.me.vec.lay 0).earlyOk = true ∧
      s.me.vec.actives f.msk = pre ++ j :: post ∧ pre ≠ [] ∧ Reaches s .load (pre.map (unitEa s f)) loc ∧
      OneLeaf s .load ((pre ++ [j]).map (unitEa s f)) ∧
      ∃ c, xlateMe s .vector .load (unitEa s f j).ea (unitEa s f j).w = .error c ∧ c.code ≠ 0x17) := by
  refine ⟨⟨one32, .vld ⟨1, 2, 0, 2, 0, 0⟩, _, _, _, fun _ => 0, rfl, quiet_shaped _ _ _ _, rfl, by decide, rfl, rfl, ?_,
      .inl (.inl rfl)⟩,
    ⟨one32, .vst ⟨1, 2, 0, 2, 0, 0⟩, _, _, _, fun _ => 0, rfl, quiet_shaped _ _ _ _, plain_one, .inl rfl, rfl, rfl, rfl, ?_⟩,
    ⟨withHart fun h => { h with g := [(2, 0x27FFFFFFFFC)], vec := { h.vec with lanes := 64, phys := 64, sewc := 3, vl := 2 } },
      ⟨1, 2, 0, 2, 0, 0⟩, fun _ => 0x27FFFFFFFFC, [0], [], 1, ⟨rfl, rfl, rfl, rfl, rfl, rfl, rfl, rfl, rfl⟩, rfl, rfl, rfl,
      by decide, rfl, rfl, by decide +kernel, by decide, ?_, .inl (.inl rfl), ⟨_, rfl, by decide⟩⟩⟩
  · simp only [one_active, List.map]
    exact reaches_one rfl rfl ⟨0, none, rfl⟩
  · simp only [one_active, List.map]
    exact reaches_one rfl rfl ⟨0, none, rfl⟩
  · exact reaches_one rfl rfl ⟨0, none, rfl⟩

theorem witness_MaskLoadsAndStoresComplete : ∃ (s : State) (f : FM) (loc : Nat → Nat), Quiet s ∧ PlainMem s ∧ Bare s ∧
    s.me.mode = 0 ∧ s.me.vec.pm = 0 ∧ f.a.toNat < 2 ∧
    Reaches s .load ((List.range ((s.me.vec.vl + 7) / 8)).map fun k =>
      ⟨8 * k, gv s f.b + BitVec.ofNat 64 k, 1, s.me.rdP f.b.toNat⟩) loc ∧
    OneLeaf s .load ((List.range ((s.me.vec.vl + 7) / 8)).map fun k =>
      ⟨8 * k, gv s f.b + BitVec.ofNat 64 k, 1, s.me.rdP f.b.toNat⟩) ∧
    Reaches s .store ((List.range ((s.me.vec.vl + 7) / 8)).map fun k =>
      ⟨8 * k, gv s f.b + BitVec.ofNat 64 k, 1, s.me.rdP f.b.toNat⟩) loc :=
  ⟨one32, ⟨1, 2, 0, 0, 0, 0⟩, fun _ => 0, quiet_shaped _ _ _ _, plain_one, .inl rfl, rfl, rfl, by decide,
    reaches_one rfl rfl ⟨0, none, rfl⟩, .inl (.inl rfl), reaches_one rfl rfl ⟨0, none, rfl⟩⟩

theorem witness_VectorAtomicsAndLinks :
    (∃ (s : State) (i : Instr) (f : FA) (op : Nat → Nat → Nat → Nat × Flags) (loc : Nat → Nat), vamoRule i = some (f, op) ∧
      Quiet s ∧ PlainMem s ∧ Bare s ∧ s.me.mode = 0 ∧ s.me.vec.lay.sew = 32 ∧ (descOf i s.me.vec.lay 0).earlyOk = true ∧
      (∀ j, j ∈ s.me.vec.actives f.msk → elP s f.a j = false ∧ maskBit s.me.vec.pm s.me.vec.lay j = false) ∧
      Reaches s .amo ((s.me.vec.actives f.msk).map (indexedEa s f.b f.c (s.me.vec.lay.sew / 8))) loc) ∧
    (∃ (s : State) (f : FA) (loc : Nat → Nat), Quiet s ∧ PlainMem s ∧ Bare s ∧ s.me.mode = 0 ∧ s.me.vec.pm = 0 ∧
      s.me.vec.lay.sew = 32 ∧ (descOf (.vgll f) s.me.vec.lay 0).earlyOk = true ∧
      (descOf (.vscc f) s.me.vec.lay 0).earlyOk = true ∧ (∀ j, j ∈ s.me.vec.actives f.msk → elP s f.a j = false) ∧
      Reaches s .load ((s.me.vec.actives f.msk).map (indexedEa s f.b f.c (s.me.vec.lay.sew / 8))) loc ∧
      Reaches s .store ((s.me.vec.actives f.msk).map (indexedEa s f.b f.c (s.me.vec.lay.sew / 8))) loc) := by
  refine ⟨⟨one32, .vamofadd ⟨1, 2, 3, 0, 0, 0, 0⟩, _, _, fun _ => 0, rfl, quiet_shaped _ _ _ _, plain_one, .inl rfl, rfl, rfl,
      rfl, ?_, ?_⟩, ⟨one32, ⟨1, 2, 3, 0, 0, 0, 0⟩, fun _ => 0, quiet_shaped _ _ _ _, plain_one, .inl rfl, rfl, rfl, rfl, rfl,
      rfl, ?_, ?_, ?_⟩⟩ <;> simp only [one_active, List.map]
  all_goals try rw [show one32.me.vec.lay.sew / 8 = 4 from rfl, indexed_one]
  · exact fun j h => by cases List.mem_singleton.mp h; exact ⟨rfl, by decide +kernel⟩
  · exact reaches_one rfl rfl ⟨0, none, rfl⟩
  · exact fun _ _ => rfl
  · exact reaches_one rfl rfl ⟨0, none, rfl⟩
  · exact reaches_one rfl rfl ⟨0, none, rfl⟩

theorem witness_VectorWait : ∃ (s : State) (f : FE) (loc : Nat → Nat), Quiet s ∧ s.lineKeys = [] ∧ s.marks = [] ∧
    s.regions = [] ∧ s.me.mode ≠ 2 ∧ s.me.vec.lay.sew = 32 ∧ (descOf (.vwait f) s.me.vec.lay 0).earlyOk = true ∧
    f.imm.getLsbD 2 = true ∧ f.a.toNat < 31 ∧ s.me.rdP (f.a + 1).toNat = false ∧
    (∀ j, j ∈ s.me.vec.actives (f.imm.extractLsb' 3 2) → maskPos s.me.vec.lay j < 32768) ∧
    Reaches s .load ((s.me.vec.actives (f.imm.extractLsb' 3 2)).map (indexedEa s f.b f.c 4)) loc ∧
    f.imm.toNat % 4 = 0 ∧ ∀ j, j ∈ s.me.vec.actives (f.imm.extractLsb' 3 2) →
      num s.mem (loc j) 4 = (gv s (f.a + 1)).toNat % 2 ^ 32 :=
  have e : one32.me.vec.actives ((4 : BitVec 5).extractLsb' 3 2) = [0] := by decide +kernel
  ⟨one32, ⟨1, 2, 3, 0, 0, 4⟩, fun _ => 0, quiet_shaped _ _ _ _, rfl, rfl, rfl, by decide, rfl, rfl, rfl, by decide, rfl,
    by rw [e]; decide +kernel, by simp only [e, List.map, indexed_one]; exact reaches_one rfl rfl ⟨0, none, rfl⟩, rfl,
    by rw [e]; decide +kernel⟩

theorem witness_MemoryReductionsComplete :
    (∃ (s : State) (i : Instr) (f : FV) (o : ROp) (loc : Nat → Nat), memRedRule i = some (f, false, o) ∧ Quiet s ∧
      PlainMem s ∧ Bare s ∧ s.me.mode = 0 ∧ s.me.vec.lay.sew ≠ 4 ∧ (descOf i s.me.vec.lay 0).earlyOk = true ∧ redFmt s f o ∧
      s.me.vec.lay.sew / 8 = 4 ∧
      ∀ j, j ∈ s.me.vec.actives f.msk → elP s f.b j = false ∧ maskBit s.me.vec.pm s.me.vec.lay j = false ∧
        s.me.rdP f.a.toNat = false ∧
        (gv s f.a + BitVec.ofNat 64 (j * 4)).toNat % 4 = 0 ∧ inWindow (gv s f.a + BitVec.ofNat 64 (j * 4)) = false ∧
        isLocalMem (loc j) = true ∧
        xlateMe s .vector .store (gv s f.a + BitVec.ofNat 64 (j * 4)) 4 = .ok ⟨⟨loc j, 0, none, none⟩, s⟩) ∧
    (∃ (s : State) (i : Instr) (f : FV) (o : ROp) (loc : Nat → Nat) (keys : List Nat), memRedRule i = some (f, true, o) ∧
      Quiet s ∧ PlainMem s ∧ Bare s ∧ s.me.mode = 0 ∧ s.me.vec.lay.sew ≠ 4 ∧ (descOf i s.me.vec.lay 0).earlyOk = true ∧
      redFmt s f o ∧ ((s.me.vec.actives f.msk).map (el s f.c)).Nodup ∧
      (∀ j, j ∈ s.me.vec.actives f.msk →
        elP s f.b j = false ∧ elP s f.c j = false ∧ maskBit s.me.vec.pm s.me.vec.lay j = false) ∧ keys.Pairwise (· < ·) ∧
      (∀ k, k ∈ keys ↔ ∃ j, j ∈ s.me.vec.actives f.msk ∧ el s f.c j = k) ∧
      Reaches s .store (keys.map fun k => ⟨k, gv s f.a + BitVec.ofNat 64 k, s.me.vec.lay.sew / 8, s.me.rdP f.a.toNat⟩) loc) := by
  refine ⟨⟨one32, .vmredfadd ⟨1, 2, 3, 0, 0, 0, 0⟩, _, _, fun _ => 0, rfl, quiet_shaped _ _ _ _, plain_one, .inl rfl, rfl,
      by decide, rfl, fun _ => ⟨rfl, rfl, rfl, rfl⟩, rfl, ?_⟩,
    ⟨one32, .vsredfadd ⟨1, 2, 3, 0, 0, 0, 0⟩, _, _, fun _ => 0, [0], rfl, quiet_shaped _ _ _ _, plain_one, .inl rfl, rfl,
      by decide, rfl, fun _ => ⟨rfl, rfl, rfl, rfl⟩, ?_, ?_, by decide, ?_, reaches_one rfl rfl ⟨0, none, rfl⟩⟩⟩ <;>
    simp only [one_active, List.mem_singleton, forall_eq, exists_eq_left, List.map, el_one]
  · exact ⟨rfl, by decide +kernel, rfl, rfl, rfl, rfl, rfl⟩
  · decide
  · exact ⟨rfl, rfl, by decide +kernel⟩
  · exact fun k => eq_comm

theorem witness_MatrixProducts :
    (∃ (s : State) (f : FV), Quiet s ∧ matrixGood s (.vmmad f) f (f.b.toNat + 1) (f.c.toNat + 8) ∧
      matrixGood s (.vmmao f) f (f.b.toNat + 1) (f.c.toNat + 8)) ∧
    (∃ (s : State) (f : FV), Quiet s ∧ matrixGood s (.vmmar f) f (f.b.toNat + 8) (f.c.toNat + 8)) ∧
    (∃ (s : State) (f : FV), Quiet s ∧ matrixGood s (.vmmas f) f (f.b.toNat + 1) 0 ∧
      (FW.of (fword s f.fs)).scl2 = false) :=
  ⟨⟨shaped 1 0 64 fwE4, ⟨16, 1, 8, 0, 0, 0, 0⟩, quiet_shaped _ _ _ _, ⟨rfl, rfl, rfl, rfl⟩, ⟨rfl, rfl, rfl, rfl⟩⟩,
    ⟨shaped 1 0 64 fwE4, ⟨24, 0, 8, 0, 0, 0, 0⟩, quiet_shaped _ _ _ _, ⟨rfl, rfl, rfl, rfl⟩⟩,
    ⟨shaped 1 0 64 fwE4, ⟨24, 1, 8, 1, 0, 0, 0⟩, quiet_shaped _ _ _ _, ⟨rfl, rfl, rfl, rfl⟩, rfl⟩⟩

theorem witness_LogArithmeticCompletes :
    (∃ (s : State) (f : FV), Quiet s ∧
      narrowGood s (.vlgmul f) f (fwLogMul (fword s f.fs) && s.me.vec.lay.sew == 8)) ∧
    (∃ (s : State) (f : FV), Quiet s ∧
      narrowGood s (.vlgacc f) f (fwLogSum (fword s f.fs) && s.me.vec.lay.sew == 8)) ∧
    (∃ (s : State) (f : FV), Quiet s ∧
      let v := s.me.vec
      let w := FW.of (fword s f.fs)
      narrowGood s (.vlgcvt f) f (fwConv (fword s f.fs) false && ((w.src1 == 12) != (w.dst == 12)) &&
        heldOk v.lay (fword s f.fs) && (!w.scl1 || decide (f.b.toNat + extent v.lay (storageWidth w.src1) < 32)))) :=
  ⟨⟨shaped 1 0 64 fwL6, ⟨1, 2, 3, 0, 0, 0, 0⟩, quiet_shaped _ _ _ _, ⟨rfl, rfl, rfl, rfl⟩⟩,
    ⟨shaped 1 0 64 fwL6Sum, ⟨1, 2, 3, 0, 0, 0, 0⟩, quiet_shaped _ _ _ _, ⟨rfl, rfl, rfl, rfl⟩⟩,
    ⟨shaped 1 0 64 fwL6Out, ⟨2, 1, 3, 0, 0, 0, 0⟩, quiet_shaped _ _ _ _, ⟨rfl, rfl, rfl, rfl⟩⟩⟩

theorem witness_QuantisationCompletes :
    (∃ (s : State) (f : FV), Quiet s ∧ narrowGood s (.vscale f) f (fwQuant (fword s f.fs))) ∧
    (∃ (s : State) (f : FV), Quiet s ∧
      let v := s.me.vec
      let w := FW.of (fword s f.fs)
      narrowGood s (.vquant f) f (fwQuant (fword s f.fs) && decide (w.rm ≤ 4) && storageWidth w.dst == v.lay.sew &&
        decide (f.a.toNat + v.lay.g ≤ 31))) ∧
    (∃ (s : State) (f : FV), Quiet s ∧
      let w := FW.of (fword s f.fs)
      narrowGood s (.vamax f) f (fwCommon (fword s f.fs) && decide (5 ≤ w.src1 ∧ w.src1 ≤ 11) && !w.scl1 && !w.scl2)) :=
  ⟨⟨shaped 1 0 64 fwNarrow, ⟨1, 2, 0, 0, 0, 0, 0⟩, quiet_shaped _ _ _ _, ⟨rfl, rfl, rfl, rfl⟩⟩,
    ⟨shaped 1 0 64 fwNarrow, ⟨1, 2, 0, 0, 0, 0, 0⟩, quiet_shaped _ _ _ _, ⟨rfl, rfl, rfl, rfl⟩⟩,
    ⟨shaped 3 0 64 fw32, ⟨1, 2, 0, 0, 0, 0, 0⟩, quiet_shaped _ _ _ _, ⟨rfl, rfl, rfl, rfl⟩⟩⟩

/-! Placement of data. -/

theorem witness_ResidencyCompletes :
    (∃ (s : State) (f : FE), Quiet s ∧ s.me.rdP f.b.toNat = false ∧
      let base := gv s f.b
      let d := gv s f.c
      fld d 46 18 ≠ 0 ∨ fld d 38 2 ≠ 0 ∨ fld d 35 1 ≠ 0 ∨ fld d 26 6 ≠ 0 ∨ fld d 36 2 = 3 ∨ base.toNat % 65536 ≠ 0) ∧
    (∃ (s : State) (f : FE), Quiet s ∧ s.me.rdP f.b.toNat = false ∧
      let base := gv s f.b
      let d := gv s f.c
      ¬ (fld d 46 18 ≠ 0 ∨ fld d 38 2 ≠ 0 ∨ fld d 35 1 ≠ 0 ∨ fld d 26 6 ≠ 0 ∨ fld d 36 2 = 3 ∨ base.toNat % 65536 ≠ 0) ∧
      fld d 0 26 = 0) ∧
    (∃ (s : State) (f : FE), Quiet s ∧ s.me.rdP f.b.toNat = false ∧
      let base := gv s f.b
      let d := gv s f.c
      ¬ (fld d 46 18 ≠ 0 ∨ fld d 38 2 ≠ 0 ∨ fld d 35 1 ≠ 0 ∨ fld d 26 6 ≠ 0 ∨ fld d 36 2 = 3 ∨ base.toNat % 65536 ≠ 0) ∧
      fld d 0 26 ≠ 0 ∧ rangeBlocks none (16 * fld d 0 26) s base [] = none) ∧
    (∃ (s : State) (f : FE) (bs : List Nat), Quiet s ∧ s.me.rdP f.b.toNat = false ∧
      let base := gv s f.b
      let d := gv s f.c
      ¬ (fld d 46 18 ≠ 0 ∨ fld d 38 2 ≠ 0 ∨ fld d 35 1 ≠ 0 ∨ fld d 26 6 ≠ 0 ∨ fld d 36 2 = 3 ∨ base.toNat % 65536 ≠ 0) ∧
      fld d 0 26 ≠ 0 ∧ rangeBlocks none (16 * fld d 0 26) s base [] = some (bs, s)) ∧
    (∃ (s : State) (f : FE), Quiet s ∧ (64 ≤ (gv s f.b).toNat ∨ s.myCtx.handles.get none (gv s f.b).toNat = none)) ∧
    (∃ (s : State) (f : FE) (k : Handle), Quiet s ∧ (gv s f.b).toNat < 64 ∧
      s.myCtx.handles.get none (gv s f.b).toNat = some k) := by
  have bad (x y : W) : Quiet (withHart fun h => { h with g := [(2, x), (3, y)] }) :=
    ⟨rfl, rfl, rfl, (show bit (0 : W) 0 = false from rfl), (show bit (0 : W) 15 = false from rfl), rfl, rfl, rfl, rfl⟩
  refine ⟨⟨_, ⟨1, 2, 3, 0, 0, 0⟩, bad 1 0, rfl, ?_⟩, ⟨_, ⟨1, 2, 3, 0, 0, 0⟩, bad 0 0, rfl, ?_⟩,
    ⟨_, ⟨1, 2, 3, 0, 0, 0⟩, bad 0xFFF0000000000000 1, rfl, ?_⟩, ⟨_, ⟨1, 2, 3, 0, 0, 0⟩, [0], bad 0 1, rfl, ?_⟩,
    ⟨_, ⟨1, 2, 3, 0, 0, 0⟩, bad 63 0, ?_⟩, ⟨State.reset.setCtx 0 { State.reset.myCtx with handles := [(0, some ⟨0, 1, [0]⟩)] }, ⟨1, 2, 3, 0, 0, 0⟩, ⟨0, 1, [0]⟩, ⟨rfl, rfl, rfl, rfl, rfl, rfl, rfl, rfl, rfl⟩, ?_⟩⟩
  · decide +kernel
  · decide +kernel
  · decide +kernel
  · exact ⟨by decide +kernel, by decide +kernel, rfl⟩
  · decide +kernel
  · exact ⟨by decide, rfl⟩

/-- The machine at reset with g registers and memory. -/
def holding (g : Tab W) (m : List Host.Cell) : State := { (withHart fun h => { h with g := g }) with mem := m }

theorem quiet_holding (g : Tab W) (m : List Host.Cell) : Quiet (holding g m) :=
  ⟨rfl, rfl, rfl, (show bit (0 : W) 0 = false from rfl), (show bit (0 : W) 15 = false from rfl), rfl, rfl, rfl, rfl⟩

theorem calm_holding (g : Tab W) (m : List Host.Cell) : Calm (holding g m) :=
  ⟨quiet_holding g m, ⟨(by decide : (0 : BitVec 2) ≠ 2), rfl, rfl, rfl, rfl⟩, .inr (show bit (0 : W) 63 = false from rfl), rfl⟩

/-- A window of one page over the scratchpad. -/
def windowed (pad va : W) : State := withHart fun h => { h with g := [(2, pad), (3, va)], lwin := 0x10000 }

theorem quiet_windowed (pad va : W) : Quiet (windowed pad va) :=
  ⟨rfl, rfl, rfl, (show bit (0 : W) 0 = false from rfl), (show bit (0 : W) 15 = false from rfl), rfl, rfl, rfl, rfl⟩

theorem quiet_windowed_live (pad va : W) (l : List LiveSlot) : Quiet { windowed pad va with live := l } := quiet_windowed pad va

/-- A live slot in the scratchpad line of those windows. -/
def padSlot : LiveSlot := ⟨padLoc 0 4032, none, 0, 0⟩

/-- STMAP's operands are well formed, and not poisoned. -/
def mapsWell (s : State) (f : FS) : Prop :=
  (Quiet s ∧ s.me.rdP f.b.toNat = false ∧ s.me.rdP f.c.toNat = false) ∧ ¬ ((gv s f.b).toNat % 64 ≠ 0 ∨ (gv s f.c ≠ 1 ∧ (gv s f.c).toNat % 64 ≠ 0))

theorem witness_StashMapsComplete :
    (∃ (s : State) (f : FS), Quiet s ∧ s.me.rdP f.b.toNat = false ∧ s.me.rdP f.c.toNat = false ∧ ((gv s f.b).toNat % 64 ≠ 0 ∨ (gv s f.c ≠ 1 ∧ (gv s f.c).toNat % 64 ≠ 0))) ∧
    (∃ (s : State) (f : FS), mapsWell s f ∧ windowLine s (gv s f.b) = none) ∧
    (∃ (s : State) (f : FS) (line : Nat), mapsWell s f ∧ windowLine s (gv s f.b) = some line ∧
      inLive s (padLoc (coreOf s.cur) (64 * line)) 64 = true) ∧
    (∃ (s : State) (f : FS) (line : Nat) (c : Cause), mapsWell s f ∧ windowLine s (gv s f.b) = some line ∧
      inLive s (padLoc (coreOf s.cur) (64 * line)) 64 = false ∧ gv s f.c ≠ 1 ∧
      xlateMe { s with live := [] } .vector .load (gv s f.c) 64 = .error c) ∧
    (∃ (s : State) (f : FS) (line : Nat), mapsWell s f ∧ windowLine s (gv s f.b) = some line ∧
      inLive s (padLoc (coreOf s.cur) (64 * line)) 64 = false ∧ gv s f.c = 1) ∧
    (∀ live : Bool, ∃ (s : State) (f : FS) (line : Nat) (q : Phys), mapsWell s f ∧ windowLine s (gv s f.b) = some line ∧
      inLive s (padLoc (coreOf s.cur) (64 * line)) 64 = false ∧ gv s f.c ≠ 1 ∧
      xlateMe { s with live := [] } .vector .load (gv s f.c) 64 = .ok ⟨q, { s with live := [] }⟩ ∧
      inWindow (gv s f.c) = false ∧ q.mt = 0 ∧ q.loc < padBase ∧ isDevReg q.loc = false ∧ inLive s q.loc 64 = live) :=
  ⟨⟨windowed 1 0, ⟨1, 2, 3, 0, 0⟩, quiet_windowed _ _, rfl, rfl, by decide⟩,
    ⟨windowed 0 1, ⟨1, 2, 3, 0, 0⟩, ⟨⟨quiet_windowed _ _, rfl, rfl⟩, by decide⟩, by decide⟩,
    ⟨{ windowed 0xFFFFFFFFFF000FC0 1 with live := [padSlot] }, ⟨1, 2, 3, 0, 0⟩, 63,
      ⟨⟨quiet_windowed_live 0xFFFFFFFFFF000FC0 1 [padSlot], rfl, rfl⟩, by decide +kernel⟩, by decide +kernel, by decide +kernel⟩,
    ⟨windowed 0xFFFFFFFFFF000FC0 0xFFF0000000000000, ⟨1, 2, 3, 0, 0⟩, 63, _, ⟨⟨quiet_windowed _ _, rfl, rfl⟩, by decide⟩, by decide +kernel,
      by decide +kernel, by decide, rfl⟩,
    ⟨windowed 0xFFFFFFFFFF000FC0 1, ⟨1, 2, 3, 0, 0⟩, 63, ⟨⟨quiet_windowed _ _, rfl, rfl⟩, by decide⟩, by decide +kernel,
      by decide +kernel, rfl⟩,
    fun live => match live with
      | false => ⟨windowed 0xFFFFFFFFFF000000 64, ⟨1, 2, 3, 0, 0⟩, 0, _, ⟨⟨quiet_windowed _ _, rfl, rfl⟩, by decide⟩, by decide +kernel,
          by decide +kernel, by decide, rfl, by decide, rfl, by decide, by decide, rfl⟩
      | true => ⟨{ windowed 0xFFFFFFFFFF000000 64 with live := [⟨112, none, 0, 0⟩] }, ⟨1, 2, 3, 0, 0⟩, 0, _,
          ⟨⟨quiet_windowed_live _ _ _, rfl, rfl⟩, by decide⟩, by decide +kernel, by decide +kernel, by decide, rfl, by decide, rfl, by decide,
          by decide, by decide +kernel⟩⟩

/-- Poisoned operands of TRES, TLBINV and STMAP, whose selector in g2 makes no use of bit 13. -/
theorem witness_PoisonedOperands : ∃ (s : State) (f : FE) (h : FS), Quiet s ∧ 1 ≤ s.me.priv ∧
    mustWait s.me [h.b.toNat, h.c.toNat] = false ∧ s.me.rdP f.b.toNat = true ∧ s.me.rdP h.b.toNat = true ∧
    bit (gv s h.c) 13 = false :=
  ⟨withHart fun h => { h with gpois := 2 }, ⟨3, 1, 2, 0, 0, 0⟩, ⟨3, 1, 2, 0, 0⟩,
    ⟨rfl, rfl, rfl, (show bit (0 : W) 0 = false from rfl), (show bit (0 : W) 15 = false from rfl), rfl, rfl, rfl, rfl⟩, by decide,
    rfl, rfl, rfl, rfl⟩

/-- A core that may be resized, and a target in g2. -/
def resizable (x : W) (rsz : Bool) : State :=
  State.setCore (withHart fun h => { h with g := [(2, x)] }) 0 { CoreSt.reset with rsz := rsz }

theorem quiet_resizable (x : W) (r : Bool) : Quiet (resizable x r) :=
  ⟨rfl, rfl, rfl, (show bit (0 : W) 0 = false from rfl), (show bit (0 : W) 15 = false from rfl), rfl, rfl, rfl, rfl⟩

theorem witness_LentWaysComplete :
    (∃ (s : State) (f : FI), Quiet s ∧ (myCore s).rsz = true ∧
      ((gv s f.b + f.imm.signExtend 64).toInt < 0 ∨ ((myCore s).cacSize : Int) < (gv s f.b + f.imm.signExtend 64).toInt ∨
        28 < ((myCore s).scrSize : Int) + (gv s f.b + f.imm.signExtend 64).toInt)) ∧
    (∃ (s : State) (f : FI), Quiet s ∧ (myCore s).rsz = true ∧
      ¬ ((gv s f.b + f.imm.signExtend 64).toInt < 0 ∨ ((myCore s).cacSize : Int) < (gv s f.b + f.imm.signExtend 64).toInt ∨
        28 < ((myCore s).scrSize : Int) + (gv s f.b + f.imm.signExtend 64).toInt)) ∧
    (∃ (s : State), Quiet s ∧ (myCore s).rsz = false) :=
  ⟨⟨resizable 0 true, ⟨1, 2, 0xFFF⟩, quiet_resizable _ _, rfl, by decide⟩,
    ⟨resizable 1 true, ⟨1, 2, 3⟩, quiet_resizable _ _, rfl, by decide⟩, ⟨resizable 0 false, quiet_resizable _ _, rfl⟩⟩

/-! Shelves and barrier slots. -/

/-- The geometry of a shelf of one 64-byte stage of one kind, and the cells of its header at address 0. -/
def shelfGeo : W := 0x0001000100000040
def shelfCells : List Host.Cell := [(24, 0x40), (28, 1), (30, 1)]

theorem witness_ShelvesComplete :
    (∃ (s : State) (f : FE) (loc : Nat → Nat), Calm s ∧ s.me.rdP f.b.toNat = false ∧ s.me.rdP f.c.toNat = false ∧
      s.me.rdP (f.c.toNat + 1) = false ∧ (gv s f.b).toNat % 64 = 0 ∧ shGeoOk (s.me.rd (f.c.toNat + 1)) = true ∧ (gv s f.c).toNat % 64 = 0 ∧
      ∀ k, k < 8 + shNst (s.me.rd (f.c.toNat + 1)) → DwordAt s .store (gv s f.b + BitVec.ofNat 64 (8 * k)) (loc k)) ∧
    (∃ (s : State) (f : FE) (i : Instr) (ctr d lb lg lc ls : Nat), ((i = .shacq f ∧ ctr = 0 ∧ d = 0) ∨
        (i = .shwait f ∧ ctr = 8 ∧ d = 1)) ∧ Calm s ∧ s.me.rdP f.b.toNat = false ∧ (gv s f.b).toNat % 64 = 0 ∧
      DwordAt s .load (gv s f.b + 16) lb ∧ DwordAt s .load (gv s f.b + 24) lg ∧
      shGeoOk (BitVec.ofNat 64 (num s.mem lg 8)) = true ∧
      DwordAt s .amo (gv s f.b + BitVec.ofNat 64 ctr) lc ∧
      DwordAt s .load (gv s f.b + BitVec.ofNat 64 (64 + 8 * (num s.mem lc 8 % shNst (BitVec.ofNat 64 (num s.mem lg 8))))) ls ∧
      f.a ≠ 0) ∧
    (∃ (s : State) (f : FE) (i : Instr) (d lb lg ls : Nat), ((i = .shcom f ∧ d = 0) ∨ (i = .shrel f ∧ d = 1)) ∧ Calm s ∧
      s.me.rdP f.b.toNat = false ∧ s.me.rdP f.c.toNat = false ∧ (gv s f.b).toNat % 64 = 0 ∧
      DwordAt s .load (gv s f.b + 16) lb ∧ DwordAt s .load (gv s f.b + 24) lg ∧
      shGeoOk (BitVec.ofNat 64 (num s.mem lg 8)) = true ∧
      DwordAt s .amo (gv s f.b + BitVec.ofNat 64 (64 + 8 * ((gv s f.c).toNat % shNst (BitVec.ofNat 64 (num s.mem lg 8))))) ls) := by
  refine ⟨⟨holding [(4, shelfGeo)] [], ⟨1, 2, 3, 0, 0, 0⟩, fun k => 8 * k, calm_holding _ _, rfl, rfl, rfl, rfl,
      by decide +kernel, rfl, ?_⟩,
    ⟨holding [] shelfCells, ⟨1, 2, 3, 0, 0, 0⟩, _, 8, 1, 16, 24, 8, 64, .inr ⟨rfl, rfl, rfl⟩, calm_holding _ _, rfl, rfl,
      ⟨none, rfl, rfl⟩, ⟨none, rfl, rfl⟩, by decide +kernel, ⟨none, rfl, rfl⟩, ?_, by decide⟩,
    ⟨holding [] shelfCells, ⟨1, 2, 3, 0, 0, 0⟩, _, 0, 16, 24, 64, .inl ⟨rfl, rfl⟩, calm_holding _ _, rfl, rfl, rfl,
      ⟨none, rfl, rfl⟩, ⟨none, rfl, rfl⟩, by decide +kernel, ?_⟩⟩
  · intro k hk
    have e : 8 + shNst ((holding [(4, shelfGeo)] []).me.rd 4) = 9 := by decide +kernel
    match k, e ▸ hk with
    | 0, _ | 1, _ | 2, _ | 3, _ | 4, _ | 5, _ | 6, _ | 7, _ | 8, _ => exact ⟨none, rfl, rfl⟩
    | _ + 9, h => omega
  · rw [show num (holding [] shelfCells).mem 8 8 % _ = 0 by decide +kernel]
    exact ⟨none, rfl, rfl⟩
  · rw [show (gv (holding [] shelfCells) 3).toNat % _ = 0 by decide +kernel]
    exact ⟨none, rfl, rfl⟩

/-- The machine at reset with a live slot at location 0 of a count and a number of arrivals to come. -/
def slotted (g : Tab W) (pend : Byte) : State :=
  { holding g (if pend = 0 then [(6, 1)] else [(4, pend), (6, 1)]) with live := [⟨0, none, 0, 0⟩] }

theorem calm_slotted (g : Tab W) (p : Byte) : Calm (slotted g p) :=
  ⟨⟨rfl, rfl, rfl, (show bit (0 : W) 0 = false from rfl), (show bit (0 : W) 15 = false from rfl), rfl, rfl, rfl, rfl⟩,
    ⟨(by decide : (0 : BitVec 2) ≠ 2), rfl, rfl, rfl, rfl⟩, .inr (show bit (0 : W) 63 = false from rfl), rfl⟩

theorem witness_BarrierSlotsComplete :
    (∃ (s : State) (f : FE) (loc mt : Nat), Calm s ∧ s.me.rdP f.b.toNat = false ∧ s.me.rdP f.c.toNat = false ∧
      (gv s f.b).toNat % 16 = 0 ∧ 1 ≤ (gv s f.c).toNat ∧ (gv s f.c).toNat ≤ 65535 ∧
      slotPlace s .amo (gv s f.b) = .ok ⟨⟨loc, mt, none, none⟩, s⟩ ∧ slotHome (gv s f.b) ⟨loc, mt, none, none⟩ = true ∧
      liveAt s loc = none ∧ (s.live.filter (·.die == dieOfCore (coreOf s.cur))).length < 1024) ∧
    (∃ (s : State) (f : FE) (loc mt : Nat), Calm s ∧ s.me.rdP f.b.toNat = false ∧ s.me.rdP f.c.toNat = false ∧
      (gv s f.b).toNat % 16 = 0 ∧ 1 ≤ (gv s f.c).toNat ∧ (gv s f.c).toNat ≤ 65535 ∧
      slotPlace s .amo (gv s f.b) = .ok ⟨⟨loc, mt, none, none⟩, s⟩ ∧ slotHome (gv s f.b) ⟨loc, mt, none, none⟩ = true ∧
      liveAt s loc ≠ none) ∧
    (∃ (s : State) (f : FE) (p : Phys) (l : LiveSlot), Calm s ∧ s.me.rdP f.b.toNat = false ∧ s.me.rdP f.c.toNat = false ∧
      (gv s f.b).toNat % 16 = 0 ∧ slotPlace s .amo (gv s f.b) = .ok ⟨p, s⟩ ∧ liveAt s p.loc = some l ∧ l.key = none ∧
      0 < (readSlot s l).pend ∧ (readSlot s l).phase ≠ (gv s f.c).toNat % 2) ∧
    (∃ (s : State) (f : FE) (p : Phys) (l : LiveSlot), Calm s ∧ s.me.rdP f.b.toNat = false ∧ s.me.rdP f.c.toNat = false ∧
      (gv s f.b).toNat % 16 = 0 ∧ slotPlace s .amo (gv s f.b) = .ok ⟨p, s⟩ ∧ liveAt s p.loc = some l ∧ l.key = none ∧
      (readSlot s l).pend = 0 ∧ (readSlot s l).phase = (gv s f.c).toNat % 2) :=
  ⟨⟨holding [(3, 65535)] [], ⟨1, 2, 3, 0, 0, 0⟩, 0, 0, calm_holding _ _, rfl, rfl, rfl, by decide, by decide, rfl, rfl, rfl,
      by decide⟩,
    ⟨slotted [(3, 1)] 1, ⟨1, 2, 3, 0, 0, 0⟩, 0, 0, calm_slotted _ _, rfl, rfl, rfl, by decide, by decide, rfl, rfl, by decide⟩,
    ⟨slotted [(3, 1)] 1, ⟨1, 2, 3, 0, 0, 0⟩, _, _, calm_slotted _ _, rfl, rfl, rfl, rfl, rfl, rfl, by decide +kernel,
      by decide +kernel⟩,
    ⟨slotted [] 0, ⟨1, 2, 3, 0, 0, 0⟩, _, _, calm_slotted _ _, rfl, rfl, rfl, rfl, rfl, rfl, by decide +kernel,
      by decide +kernel⟩⟩

/-! Tasks and farms. -/

/-- The shape of a task of one hart on a core that is carved as at reset, and the cells of its descriptor at address 0. -/
def taskShape : BitVec 29 := 0x4082001
def taskCells : List Host.Cell := [(16, 1), (17, 0x20), (18, 0x08), (19, 0x04)]

/-- A context changed at the machine that holds registers and memory. -/
def inContext (g : Tab W) (m : List Host.Cell) (k : Context) : State := (holding g m).setCtx 0 k

theorem quiet_inContext (g : Tab W) (m : List Host.Cell) (k : Context) : Quiet (inContext g m k) :=
  ⟨rfl, rfl, rfl, (show bit (0 : W) 0 = false from rfl), (show bit (0 : W) 15 = false from rfl), rfl, rfl, rfl, rfl⟩

theorem witness_TaskSlotsComplete :
    (∃ (s : State) (f : FE), Quiet s ∧ s.me.rdP f.b.toNat = false ∧ (gv s f.b).toNat < 256 ∧ s.me.rdP f.c.toNat = false ∧
      (gv s f.c).toNat < 2 ^ 32) ∧
    (∀ table : Bool, ∃ (s : State) (f : FE) (l0 l1 l2 : Nat) (entry : W), f.imm.getLsbD 0 = table ∧ Calm s ∧
      s.me.rdP f.b.toNat = false ∧
      s.me.rdP f.c.toNat = false ∧ (gv s f.b).toNat < 256 ∧ (s.myCtx.slot (gv s f.b).toNat).state = .free ∧
      (gv s f.c).toNat % 8 = 0 ∧ DwordAt s .load (gv s f.c) l0 ∧ DwordAt s .load (gv s f.c + 8) l1 ∧
      DwordAt s .load (gv s f.c + 16) l2 ∧
      (f.imm.getLsbD 0 = false → entry = BitVec.ofNat 64 (num s.mem l0 8)) ∧
      (f.imm.getLsbD 0 = true → num s.mem l0 8 < fld s.myCtx.tktab 0 12 ∧
        ∃ l3, DwordAt s .load (BitVec.ofNat 64 (fld s.myCtx.tktab 12 52 * 4096 + 8 * num s.mem l0 8)) l3 ∧
          entry = BitVec.ofNat 64 (num s.mem l3 8)) ∧
      num s.mem l2 8 < 2 ^ 29 ∧ taskOk entry (num s.mem l2 8) = true) ∧
    (∃ (s : State) (n rank : Nat), Quiet s ∧ s.me.task = some (n, rank) ∧ (s.myCtx.slot n).state = .running ∧
      (s.myCtx.slot n).left = [rank] ∧ (s.myCtx.slot n).saved = []) := by
  refine ⟨⟨State.reset, ⟨1, 2, 3, 0, 0, 0⟩, quiet_reset, rfl, by decide, rfl, by decide⟩, fun b => ?_,
    ⟨(withHart fun h => { h with task := some (255, 31) }).setCtx 0 { Context.reset with
        slots := [(255, { TaskSlot.reset with state := .running, left := [31] })] }, 255, 31,
      ⟨rfl, rfl, rfl, (show bit (0 : W) 0 = false from rfl), (show bit (0 : W) 15 = false from rfl), rfl, rfl, rfl, rfl⟩,
      rfl, rfl, rfl, rfl⟩⟩
  have e : BitVec.ofNat 64 (num taskCells 0 8) = 0 := by decide +kernel
  have k : taskOk 0 (num taskCells 16 8) = true := by decide +kernel
  have m : num taskCells 16 8 < 2 ^ 29 := by decide +kernel
  cases b
  · exact ⟨holding [(2, 255)] taskCells, ⟨1, 2, 3, 0, 0, 0⟩, 0, 8, 16, 0, rfl, calm_holding _ _, rfl, rfl, by decide, rfl, rfl,
      ⟨none, rfl, rfl⟩, ⟨none, rfl, rfl⟩, ⟨none, rfl, rfl⟩, fun _ => e.symm, nofun, m, k⟩
  · refine ⟨inContext [] taskCells { Context.reset with tktab := 1 }, ⟨1, 2, 3, 0, 0, 1⟩, 0, 8, 16, 0, rfl,
      ⟨quiet_inContext _ _ _, ⟨(by decide : (0 : BitVec 2) ≠ 2), rfl, rfl, rfl, rfl⟩, .inr (show bit (0 : W) 63 = false from rfl),
        rfl⟩, rfl, rfl, by decide, rfl, rfl, ⟨none, rfl, rfl⟩, ⟨none, rfl, rfl⟩, ⟨none, rfl, rfl⟩, nofun,
      fun _ => ⟨(by decide +kernel : num taskCells 0 8 < fld (1 : W) 0 12), 0, ?_, e.symm⟩, m, k⟩
    have a : (BitVec.ofNat 64 (fld (1 : W) 12 52 * 4096 + 8 * num taskCells 0 8)) = 0 := by decide +kernel
    exact a.symm ▸ (⟨none, rfl, rfl⟩ : DwordAt (inContext [] taskCells { Context.reset with tktab := 1 }) .load 0 0)

/-- A farm of which hart 0 is the origin, alone, and the state in it. -/
def aFarm : Farm :=
  { trip := 100, most := 2, die := false, next := 96, count := 1, members := [0], ended := [], stop := false, mode := 0, pcStart := 0,
    gStart := [], gpStart := 0 }
def farming : State := { (withHart fun h => { h with farm := some (0, 0) }) with farms := [(0, aFarm)] }

theorem quiet_farming : QuietInFarm farming :=
  ⟨rfl, rfl, rfl, (show bit (0 : W) 0 = false from rfl), (show bit (0 : W) 15 = false from rfl), rfl, rfl, rfl⟩

theorem witness_FarmsAndDrawersComplete :
    (∃ (s : State) (f : FE), Quiet s ∧ s.me.rdP f.b.toNat = false ∧ s.me.rdP f.c.toNat = false) ∧
    (∃ (s : State) (f : FE) (o i : Nat) (fm : Farm), QuietInFarm s ∧ s.me.farm = some (o, i) ∧ s.farm? o = some fm ∧
      f.a.toNat < 24 ∧ f.b.toNat < 24 ∧ (s.me.priv = 0 → bit s.me.vec.vsave 0 = true) ∧
      (heldBy (myCore s) s.cur ≠ [] ∨ freeClusters (myCore s) ≠ [])) ∧
    (∃ (s : State) (f : FE) (i : Nat) (fm : Farm) (es : List (Nat × VecRegs)), QuietInFarm s ∧ s.me.farm = some (s.cur, i) ∧
      s.farm? s.cur = some fm ∧ fm.count ≤ fm.ended.length + 1 ∧ f.a.toNat < 24 ∧ es.Perm fm.ended ∧
      es.Pairwise (fun a b => a.1 < b.1) ∧ 2 ≤ es.length) ∧
    (∃ (s : State) (o i : Nat) (fm : Farm), QuietInFarm s ∧ s.me.farm = some (o, i) ∧ o ≠ s.cur ∧ s.farm? o = some fm) ∧
    (∃ (s : State) (f : FE), Quiet s ∧ s.me.drawers.get 0 (4 * (f.imm.toNat % 4) + f.imm.toNat / 4 % 4) < 15 ∧
      0 < s.me.drawers.get 0 (4 * (f.imm.toNat / 4 % 4) + f.imm.toNat % 4)) :=
  ⟨⟨State.reset, ⟨1, 2, 3, 0, 0, 0⟩, quiet_reset, rfl, rfl⟩,
    ⟨farming, ⟨1, 2, 0, 0, 0, 3⟩, 0, 0, aFarm, quiet_farming, rfl, rfl, by decide, by decide, nofun, .inr (by decide)⟩,
    ⟨{ farming with farms := [(0, { aFarm with count := 3, ended := [(2, VecRegs.reset), (1, VecRegs.reset)] })] }, ⟨1, 0, 0, 0, 0, 0⟩,
      0, _, [(1, VecRegs.reset), (2, VecRegs.reset)], quiet_farming, rfl, rfl, by decide, by decide, .swap .., by decide, by decide⟩,
    ⟨{ (withHart fun h => { h with farm := some (9, 1) }) with farms := [(9, aFarm)] }, 9, 1, aFarm,
      ⟨rfl, rfl, rfl, (show bit (0 : W) 0 = false from rfl), (show bit (0 : W) 15 = false from rfl), rfl, rfl, rfl⟩, rfl,
      by decide, rfl⟩,
    ⟨withHart fun h => { h with drawers := [(1, 14), (4, 1)] }, ⟨0, 0, 0, 0, 0, 4⟩,
      ⟨rfl, rfl, rfl, (show bit (0 : W) 0 = false from rfl), (show bit (0 : W) 15 = false from rfl), rfl, rfl, rfl, rfl⟩,
      by decide, by decide⟩⟩

/-! Differentiable memory. -/

theorem witness_DifferentiableMemoryCompletes :
    (∃ (s : State) (f : FE) (d : FS) (e : FI), Quiet s ∧ s.me.mode = 0 ∧ s.me.rdP f.c.toNat = true ∧ s.me.rdP d.c.toNat = true ∧
      s.me.rdP e.b.toNat = true) ∧
    (∃ (s : State) (f : FE), Quiet s ∧ s.me.mode = 0 ∧ s.me.rdP f.a.toNat = false ∧ s.me.rdP f.b.toNat = false ∧
      s.me.rdP f.c.toNat = false ∧ gv s f.a = 0) ∧
    (∃ (s : State) (f : FE), Quiet s ∧ s.me.mode = 0 ∧ s.me.rdP f.a.toNat = false ∧ s.me.rdP f.b.toNat = false ∧
      s.me.rdP f.c.toNat = false ∧ gv s f.a ≠ 0 ∧
      regionFits s.myCtx (f.imm.toNat % 8) (gv s f.a).toNat (gv s f.b).toNat (gv s f.c).toNat (2 ^ (f.imm.toNat / 8)) = true) ∧
    (∃ (s : State) (f : FS), Quiet s ∧ s.me.mode = 0 ∧ s.me.rdP f.b.toNat = false ∧ s.me.rdP f.c.toNat = false ∧
      canonical (gv s f.b) = true ∧ canonical (gv s f.c) = true ∧ (gv s f.b).toNat % 16 = 0 ∧ (gv s f.c).toNat % 16 = 0 ∧
      (gv s f.b).toNat ≤ (gv s f.c).toNat) ∧
    (∃ (s : State) (f : FS), Quiet s ∧ s.me.mode = 0 ∧ s.me.rdP f.b.toNat = false ∧ s.me.rdP f.c.toNat = false ∧
      (gv s f.b).toNat % 16 ≠ 0) ∧
    (∃ (s : State) (loc : Nat → Nat), Quiet s ∧ PlainMem s ∧ Bare s ∧ s.me.tapeptr.toNat + 32 ≤ s.me.tapelim.toNat ∧
      ∀ k, k < 4 → DwordAt s .store (s.me.tapeptr + BitVec.ofNat 64 (8 * k)) (loc k)) ∧
    (∃ (s : State) (f : FI) (loc : Nat → Nat) (wc ld la : Nat), Quiet s ∧ PlainMem s ∧ Bare s ∧ s.me.rdP f.b.toNat = false ∧ wc ≤ 3 ∧
      s.me.tapebase.toNat + 48 ≤ s.me.tapeptr.toNat ∧ gv s f.b = s.me.tapeptr - 48 ∧ (s.me.tapeptr - 48).toNat % 16 = 0 ∧
      (∀ k, k < 4 → DwordAt s .load (s.me.tapeptr - 32 + BitVec.ofNat 64 (8 * k)) (loc k)) ∧
      num s.mem (loc 2) 8 = 1 ∧ num s.mem (loc 3) 8 = wc * 2 ^ 24 + 2 ^ 16 + 1 ∧
      (BitVec.ofNat 64 (num s.mem (loc 0) 8) : W).toNat % 2 ^ wc = 0 ∧
      xlateMe s .vector .load (s.me.tapeptr - 48) (2 ^ wc) = .ok ⟨⟨ld, 0, none, none⟩, s⟩ ∧
      xlateMe s .vector .store (BitVec.ofNat 64 (num s.mem (loc 0) 8)) (2 ^ wc) = .ok ⟨⟨la, 0, none, none⟩, s⟩) := by
  refine ⟨⟨poisoned false none, ⟨1, 2, 3, 0, 0, 0⟩, ⟨1, 2, 3, 0, 0⟩, ⟨1, 3, 0⟩,
      ⟨rfl, rfl, rfl, (show bit (0 : W) 0 = false from rfl), (show bit (0 : W) 15 = false from rfl), rfl, rfl, rfl, rfl⟩,
      rfl, rfl, rfl, rfl⟩,
    ⟨State.reset, ⟨1, 2, 3, 0, 0, 0⟩, quiet_reset, rfl, rfl, rfl, rfl, rfl⟩,
    ⟨holding [(1, 16), (2, 0x1000)] [], ⟨1, 2, 3, 0, 0, 0x17⟩, quiet_holding _ _, rfl, rfl, rfl, rfl, by decide, by decide⟩,
    ⟨State.reset, ⟨1, 2, 3, 0, 0⟩, quiet_reset, rfl, rfl, rfl, rfl, rfl, rfl, rfl, by decide⟩,
    ⟨holding [(2, 8)] [], ⟨1, 2, 3, 0, 0⟩, quiet_holding _ _, rfl, rfl, rfl, by decide⟩,
    ⟨withHart fun h => { h with tapelim := 32 }, fun k => 8 * k,
      ⟨rfl, rfl, rfl, (show bit (0 : W) 0 = false from rfl), (show bit (0 : W) 15 = false from rfl), rfl, rfl, rfl, rfl⟩,
      ⟨(by decide : (0 : BitVec 2) ≠ 2), rfl, rfl, rfl, rfl⟩, .inr (show bit (0 : W) 63 = false from rfl), by decide, ?_⟩,
    ⟨{ (withHart fun h => { h with tapeptr := 48, tapelim := 48 }) with
        mem := [(16, 64), (32, 1), (40, 1), (42, 1), (43, 2)] }, ⟨1, 2, 0⟩, fun k => 16 + 8 * k, 2, 0, 64,
      ⟨rfl, rfl, rfl, (show bit (0 : W) 0 = false from rfl), (show bit (0 : W) 15 = false from rfl), rfl, rfl, rfl, rfl⟩,
      ⟨(by decide : (0 : BitVec 2) ≠ 2), rfl, rfl, rfl, rfl⟩, .inr (show bit (0 : W) 63 = false from rfl), rfl, by decide, by decide,
      rfl, by decide, ?_, by decide +kernel, by decide +kernel, by decide +kernel, rfl, ?_⟩⟩
  · intro k hk
    match k, hk with
    | 0, _ | 1, _ | 2, _ | 3, _ => exact ⟨none, rfl, rfl⟩
    | _ + 4, h => omega
  · intro k hk
    match k, hk with
    | 0, _ | 1, _ | 2, _ | 3, _ => exact ⟨none, rfl, rfl⟩
    | _ + 4, h => omega
  · rw [show (BitVec.ofNat 64 (num _ _ 8) : W) = 64 by decide +kernel]
    rfl

/-! Key caches and transfers. -/

/-- The geometry of one page of one E4M3 key of one channel. -/
def cacheGeo : W := 0x0060000100010001

/-- One 32-bit element, and a key cache of one page. -/
def cached : State := one32.setCtx 0 { Context.reset with
  kcgeom := [(0, cacheGeo)], kcrime := [(0, 64)], kcbind := [(0, some ⟨[0], [0], [none], [none]⟩)] }

theorem quiet_cached : Quiet cached :=
  ⟨rfl, rfl, rfl, (show bit (0 : W) 0 = false from rfl), (show bit (0 : W) 15 = false from rfl), rfl, rfl, rfl, rfl⟩

theorem witness_KeyCachesComplete :
    (∃ (s : State) (f : FE), Quiet s ∧ s.me.rdP f.a.toNat = false ∧ s.me.rdP f.b.toNat = false ∧ s.me.rdP f.c.toNat = false ∧
      kcNP (gv s f.c) = 0) ∧
    (∃ (s u : State) (f : FE) (b : KeyBind), Quiet s ∧ s.me.rdP f.a.toNat = false ∧ s.me.rdP f.b.toNat = false ∧
      s.me.rdP f.c.toNat = false ∧ kcNP (gv s f.c) ≠ 0 ∧
      cacheFits s.myCtx (f.imm.toNat % 4) (gv s f.a) (gv s f.b) (gv s f.c) = true ∧
      bindCache none (s.setCtx s.me.ctx { s.myCtx with kcbind := s.myCtx.kcbind.set (f.imm.toNat % 4) none })
        (gv s f.a) (gv s f.b) (gv s f.c) = .ok (u, b)) ∧
    (∃ (s : State) (f : FE) (b : KeyBind), Quiet s ∧ s.me.vec.lay.sew = 32 ∧
      (descOf (.ksel f) s.me.vec.lay 0).earlyOk = true ∧ (gv s f.c).toNat < 2 ^ 40 ∧
      kcNP (s.myCtx.kcgeom.get 0 (f.imm.toNat % 4)) ≠ 0 ∧ s.myCtx.kcbind.get none (f.imm.toNat % 4) = some b ∧
      (f.pop ≠ 0 → 0 < s.me.drawers.get 0 7) ∧
      (f.push ≠ 0 → (if f.pop = 0 then s.me.drawers else s.me.drawers.set 7 (s.me.drawers.get 0 7 - 1)).get 0 13 < 15)) ∧
    (∃ (s : State) (f : FE), Quiet s ∧ s.me.vec.lay.sew = 32 ∧ (f.pop = 0 ∨ 0 < s.me.drawers.get 0 (drawerNo 1 3)) ∧
      (descOf (.kgat f) s.me.vec.lay 0).earlyOk = true ∧ s.me.rdP f.b.toNat = false ∧ s.me.rdP f.c.toNat = false ∧
      (f.imm.getLsbD 3 = true → s.me.rdP (f.b.toNat + 1) = false) ∧
      kcNP (s.myCtx.kcgeom.get 0 (f.imm.toNat % 4)) ≠ 0) ∧
    (∀ b : Bool, ∃ (s : State) (f : FE), Quiet s ∧ f.imm.getLsbD 0 = b) :=
  ⟨⟨State.reset, ⟨1, 2, 3, 0, 0, 0⟩, quiet_reset, rfl, rfl, rfl, rfl⟩,
    ⟨holding [(2, 64), (3, cacheGeo)] [], _, ⟨1, 2, 3, 0, 0, 0⟩, _, quiet_holding _ _, rfl, rfl, rfl, by decide, by decide +kernel,
      rfl⟩,
    ⟨cached, ⟨1, 2, 3, 1, 0, 0⟩, _, quiet_cached, rfl, rfl, by decide, by decide, rfl, nofun, fun _ => by decide⟩,
    ⟨cached, ⟨1, 2, 3, 0, 0, 8⟩, quiet_cached, rfl, .inl rfl, rfl, rfl, rfl, fun _ => rfl, by decide⟩,
    fun b => ⟨State.reset, ⟨0, 0, 0, 0, 0, if b then 1 else 0⟩, quiet_reset, by cases b <;> rfl⟩⟩

/-- A transfer of one byte in hand, from address 0 to the window or to address 64, and its state. -/
def aMove (kind : XKind) (left : List Nat) : Xfer :=
  { id := 0, hart := 0, ctx := 0, priv := 2, atp := 0, kind := kind, mem := 0, win := if kind = .copy then 64 else 0xFFFFFFFFFF000000, rb := 1,
    sstr := 0, dstr := 0, pitch := 64, rows := [0], bad := [], count := 1, chl := 0, left := left, moved := [], next := 0, total := 1,
    cm := none, slot := none, gd := some 1, push := none, task := none, owing := false, kgat := false, pages := [], done := 0,
    frow := 0, cause := 0, addr := 0 }
def carrying (x : Xfer) (d : Nat) : State :=
  { (withHart fun h => { h with lwin := 0x10000, gwait := [1], drawers := [(5, d)] }) with xfers := [x] }

/-- A piece of a transfer of one byte is that byte. -/
theorem engineAt_one {s : State} {x : Xfer} {k : Kind} {va : W} {loc : Nat} (e : withAtp s x.ctx x.atp = s)
    (h : ∃ mt via, xlate s x.hart x.ctx x.priv.toNat .engine k (va + BitVec.ofNat 64 0) 1 = .ok ⟨⟨loc + 0, mt, none, via⟩, s⟩) :
    EngineAt s x k va loc 1 := by
  intro o m h0 _ h1
  obtain rfl : o = 0 := by omega
  obtain rfl : m = 1 := by omega
  rw [e]
  exact h

theorem carries_atp (kind : XKind) (l : List Nat) : withAtp (carrying (aMove kind l) 0) 0 0 = carrying (aMove kind l) 0 := by
  unfold withAtp
  exact if_pos rfl

theorem ok_of {ε α : Type} {x : Except ε α} {a : α} (h : x.toOption = some a) : x = .ok a := by
  cases x with
  | ok b => exact congrArg _ (Option.some.inj h)
  | error e => cases h

theorem carries_into_window : xlate (carrying (aMove .gather [0]) 0) 0 0 2 .engine .store (unitTo (aMove .gather [0]) 0 + 0#64) 1 =
    .ok ⟨⟨padLoc 0 0, 0, none, none⟩, carrying (aMove .gather [0]) 0⟩ := by
  rw [show unitTo (aMove .gather [0]) 0 + 0#64 = 0xFFFFFFFFFF000000 by decide]
  have e : windowPlace (carrying (aMove .gather [0]) 0) 0 .store 0xFFFFFFFFFF000000 1 = .ok ⟨padLoc 0 0, 0, none, none⟩ :=
    ok_of (by decide +kernel)
  unfold xlate
  simp only [e]
  rw [if_neg (by decide), if_pos (by decide), if_pos (by decide +kernel)]
  rfl

theorem plain_carrying (x : Xfer) (d : Nat) : PlainMem (carrying x d) := ⟨(by decide : (0 : BitVec 2) ≠ 2), rfl, rfl, rfl, rfl⟩

theorem witness_TransfersComplete :
    (∀ row : Bool, ∃ (s : State) (i : Instr) (f : FE) (kind : XKind) (sl : Option Phys), xferRule i = some (f, kind) ∧ Quiet s ∧
      (row = true ↔ (kind = .gather ∨ kind = .scatter)) ∧
      (row = true → (s.me.vec.lay.sew = 32 ∨ s.me.vec.lay.sew = 64) ∧ onGroup s f.b ∧ 0 < s.me.vec.vl) ∧
      (row = false → fld (s.me.rd (f.c.toNat + 2)) 40 24 = 1 ∧ fld (s.me.rd (f.c.toNat + 2)) 32 4 = 0) ∧
      (∀ k, k < 5 → s.me.rdP (f.c.toNat + k) = false) ∧ 1 ≤ fld (s.me.rd (f.c.toNat + 2)) 0 17 ∧
      fld (s.me.rd (f.c.toNat + 2)) 0 17 ≤ 65536 ∧ fld (s.me.rd (f.c.toNat + 2)) 36 4 = 0 ∧
      fld (s.me.rd (f.c.toNat + 2)) 17 15 = 0 ∧ fld (s.me.rd (f.c.toNat + 4)) 0 4 = 0 ∧
      (f.imm.getLsbD 2 = false → sl = none) ∧
      (f.imm.getLsbD 2 = true → ∃ p, sl = some p ∧ slotPlace s .store (badrOf (s.me.rd (f.c.toNat + 4))) = .ok ⟨p, s⟩ ∧
        slotHome (badrOf (s.me.rd (f.c.toNat + 4))) p = true) ∧ f.pop = 0) ∧
    (∃ (s : State) (x : Xfer) (j ls ld : Nat), s.xfer? x.id = some x ∧ (x.kind = .gather ∨ x.kind = .scatter) ∧
      x.owing = false ∧ j < x.total ∧ j ∈ x.left ∧ j ∉ x.bad ∧ j ∉ x.moved ∧ x.cm = none ∧ x.slot = none ∧
      UnitMoves s x j ls ld) ∧
    (∃ (s : State) (x : Xfer) (j ls ld : Nat), s.xfer? x.id = some x ∧ (x.kind = .copy ∨ x.kind = .scatterStream) ∧
      x.owing = false ∧ x.chl = 0 ∧ x.next = j ∧ j < x.count ∧ x.total = x.count ∧ j ∉ x.left ∧ x.cm = none ∧ x.slot = none ∧
      UnitMoves s x j ls ld) ∧
    (∀ (q : Option Nat) (c d : Nat), ∃ (s : State) (x : Xfer) (r : Nat), s.xfer? x.id = some x ∧ x.ended = true ∧ x.gd = some r ∧
      x.push = q.map (fun _ => 1) ∧ x.task = none ∧ x.cause = c ∧ (s.hart x.hart).drawers.get 0 5 = d ∧
      (s.hart x.hart).farm = none) ∧
    (∃ (s : State) (x : Xfer) (r o i : Nat), s.xfer? x.id = some x ∧ x.ended = true ∧ x.task = none ∧ x.gd = some r ∧ 24 ≤ r ∧
      (s.hart x.hart).farm = some (o, i) ∧ x.push = none ∧ x.cause = 0) := by
  refine ⟨fun row => ?_,
    ⟨carrying (aMove .gather [0]) 0, aMove .gather [0], 0, 0, padLoc 0 0, rfl, .inl rfl, rfl, by decide, by decide, by decide,
      by decide, rfl, rfl, plain_carrying _ _, .inl rfl, rfl, ?_, engineAt_one (carries_atp _ _) ⟨_, _, rfl⟩,
      engineAt_one (carries_atp _ _) ⟨_, _, carries_into_window⟩,
      .inl (by decide)⟩,
    ⟨carrying (aMove .copy []) 0, aMove .copy [], 0, 0, 64, rfl, .inl rfl, rfl, rfl, rfl, by decide, rfl, by decide, rfl, rfl,
      plain_carrying _ _, .inl rfl, rfl, fun _ _ => ⟨nofun, nofun⟩, engineAt_one (carries_atp _ _) ⟨_, _, rfl⟩,
      engineAt_one (carries_atp _ _) ⟨_, _, rfl⟩,
      .inl (by decide)⟩,
    fun q c d => ⟨carrying { aMove .gather [] with push := q.map fun _ => 1, cause := c } d,
      { aMove .gather [] with push := q.map fun _ => 1, cause := c }, 1, rfl, rfl, rfl, rfl, rfl, rfl,
      if_pos rfl, rfl⟩,
    ⟨{ withHart fun h => { h with farm := some (0, 0) } with xfers := [{ aMove .gather [] with gd := some 31, push := none }] },
      { aMove .gather [] with gd := some 31, push := none }, 31, 0, 0, rfl, rfl, rfl, rfl, by decide, rfl, rfl, rfl⟩⟩
  rotate_left
  · intro o h
    obtain rfl : o = 0 := by exact Nat.lt_one_iff.mp h
    exact ⟨fun _ => by decide, nofun⟩
  cases row
  · refine ⟨holding [(5, 0x0000010000010000)] [], .bxc ⟨1, 2, 3, 0, 0, 4⟩, _, _, some ⟨0, 0, none, none⟩, rfl, quiet_holding _ _,
      by simp, nofun, fun _ => ⟨rfl, rfl⟩, ?_, by decide, by decide, rfl, rfl, rfl, nofun, fun _ => ⟨_, rfl, rfl, rfl⟩, rfl⟩
    intro k hk
    match k, hk with
    | 0, _ | 1, _ | 2, _ | 3, _ | 4, _ => rfl
    | _ + 5, h => omega
  · refine ⟨withHart fun h => { h with g := [(5, 1)], vec := { h.vec with lanes := 64, phys := 64, vl := 1 } },
      .bxg ⟨1, 2, 3, 0, 0, 0⟩, _, _, none, rfl,
      ⟨rfl, rfl, rfl, (show bit (0 : W) 0 = false from rfl), (show bit (0 : W) 15 = false from rfl), rfl, rfl, rfl, rfl⟩,
      by simp, fun _ => ⟨.inl rfl, rfl, by decide⟩, nofun, ?_, by decide, by decide, rfl, rfl, rfl, fun _ => rfl, nofun, rfl⟩
    intro k hk
    match k, hk with
    | 0, _ | 1, _ | 2, _ | 3, _ | 4, _ => rfl
    | _ + 5, h => omega

/-! Events at a hart. -/

/-- Every row that writes a control register may do so at reset. -/
def regOk (i : Instr) : Bool :=
  match regEvent i with
  | some (n, x) => csrAllowed n 2 true && (csrWrite (csrReady State.reset n) n x).isSome
  | none => false

theorem witness_RegisterWritesComplete :
    [Instr.controlRegisterWrite 0x100 4, .hrun 5, .atpWrite 0, .timeWrite 7, .poolCarveWrite 0x222 8, .callotWrite 0,
      .pstatWrite 0, .droopClear, .keyLoad, .keyErase, .contextExport, .contextImport, .blkownWrite 0].all regOk = true ∧
    Idle State.reset ∧ State.reset.me.priv = 2 ∧ (State.reset.hart (fld (5 : W) 0 11)).run = .reset ∧
    selectedRegion State.reset = some 0 ∧ (State.reset.ctx State.reset.cxsel.toNat).resident = true ∧
    (∃ s : State, Idle s ∧ s.me.priv = 2 ∧ (s.ctx s.cxsel.toNat).resident = false) :=
  ⟨by decide +kernel, ⟨rfl, rfl⟩, rfl, by decide, by decide, rfl, ⟨{ State.reset with cxsel := 1 }, ⟨rfl, rfl⟩, rfl, rfl⟩⟩

theorem witness_BootHartStart : ∃ s : State, s.booted = true ∧ s.measured2 ≠ none ∧ (s.hart 0).run = .reset ∧
    memWf s.mem = true ∧ rawGet s (flashBase + 0x010) 8 + rawGet s (flashBase + 0x018) 8 ≤ flashBase :=
  ⟨{ State.reset with measured2 := some 0, harts := [] }, rfl, nofun, rfl, rfl, by decide +kernel⟩

/-- The machine with its link up, one GiB of HDM window, and a task in page 0. -/
def linked : State := { State.reset.setCtx 0 { Context.reset with pageShape := taskShape.setWidth 64 } with
  linkUp := true, hdmsize := 1 }

theorem unkeyed (a : Nat) : (hostPlace linked a).key = none := by
  rw [hostPlace, show ownWord linked (a / 65536) = 0x1000 from rfl]
  rfl

theorem witness_HostEventsComplete :
    (∃ (s : State) (ctx : Nat) (x : W), hostOn s = true ∧ ctx < 4096 ∧ bit x 0 = true ∧
      ((s.ctx ctx).slot 0).state = .free ∧ fld (s.ctx ctx).pageShape 29 3 = 0 ∧ fld (s.ctx ctx).pageShape 32 32 = 0 ∧
      taskOk (s.ctx ctx).pageEntry (fld (s.ctx ctx).pageShape 0 29) = true) ∧
    (∃ (s : State) (ctx : Nat) (x : W), hostOn s = true ∧ ctx < 4096 ∧ bit x 0 = true ∧
      ((s.ctx ctx).slot 0).state ≠ .free ∧ ((s.ctx ctx).slot 0).state ≠ .defined) ∧
    (∃ (s : State) (x : W), hostOn s = true ∧ bit x 0 = true ∧ (s.ckState = 0 ∨ s.ckState = 3)) ∧
    (∃ s : State, s.ckState = 1 ∧ s.harts.all (fun e => e.2.preempt.isNone && e.2.vec.drain.isEmpty) = true ∧ s.xfers = []) ∧
    (∃ (s : State) (b : Nat), s.ckState = 2 ∧ b < blockCount ∧ b ∉ s.ckBlocks ∧ s.ckNext ≤ b ∧ s.ckNext ∉ s.ckBlocks ∧
      memWf s.mem = true ∧ s.lineKeys = []) ∧
    (∃ (s : State) (off n : Nat), hostServed s off n = true ∧ s.lineKeys = [] ∧ ∀ a, (hostPlace s a).key = none) ∧
    (∃ (s : State) (off : Nat) (bytes : List Byte), hostServed s off bytes.length = true ∧ PlainMem s ∧ s.live = [] ∧
      (∀ a, (hostPlace s a).key = none) ∧ bytes ≠ [] ∧ off % 64 + bytes.length ≤ 64 ∧ off + bytes.length ≤ devMemEnd) :=
  ⟨⟨linked, 0, 1, rfl, by decide, rfl, rfl, rfl, rfl, by decide⟩,
    ⟨linked.setCtx 5 { Context.reset with slots := [(0, { TaskSlot.reset with state := .ready })] }, 5, 1, rfl, by decide, rfl,
      by decide, by decide⟩,
    ⟨linked, 1, rfl, rfl, .inl rfl⟩, ⟨{ linked with ckState := 1 }, rfl, rfl, rfl⟩,
    ⟨{ linked with ckState := 2 }, 0, rfl, by decide, by decide, by decide, by decide, rfl, rfl⟩,
    ⟨linked, 60, 8, by decide +kernel, rfl, unkeyed⟩,
    ⟨linked, 60, [1, 2, 3, 4], by decide +kernel, ⟨by decide, rfl, rfl, rfl, rfl⟩, rfl, unkeyed, by decide, by decide,
      by decide⟩⟩

/-- A hart at kernel level, outside a handler, that takes events, with its fault registers changed. -/
def faulted (f : FaultRegs → FaultRegs) : State :=
  withHart fun h => { h with trap := { h.trap with stat := 0x11 }, flt := f h.flt }

theorem witness_CausesAreTaken :
    (∀ kind, kind < 3 → ∃ (s : State) (f : VFault), CauseWaits s f kind) ∧
    (∃ (s : State) (f : VFault), s.me.flt.pending = none ∧ s.me.flt.record = some f ∧ runsNow s.me.run = true ∧ f.cause < 256 ∧
      s.me.priv ≤ 1 ∧ bit s.me.trap.stat 7 = false) ∧
    (∃ s : State, runsNow s.me.run = false) ∧
    (∃ (s : State) (e : AsyncEvent) (r : List AsyncEvent), s.me.flt.events = e :: r ∧ s.me.run = .running ∧ s.me.priv ≤ 1 ∧
      bit s.me.trap.stat 4 = true ∧ bit s.me.trap.stat 7 = false ∧ s.me.flt.pending = none ∧ s.me.flt.record = none ∧
      e.code < 256) ∧
    (∃ (s : State) (w : IWord) (e : DecodeErr), s.me.run = .running ∧ decodeFor s s.cur w = .err e ∧ s.me.priv ≤ 1 ∧
      bit s.me.trap.stat 7 = false) ∧
    (∃ (s : State) (c : Cause), s.me.run = .running ∧ fetchWord s s.cur = .error c ∧ s.me.priv ≤ 1 ∧ c.code < 256 ∧
      bit s.me.trap.stat 7 = false) :=
  ⟨fun k _ => ⟨faulted fun f => { f with pending := some ⟨k, 11, 0, 0, 0, []⟩ }, ⟨k, 11, 0, 0, 0, []⟩,
      rfl, rfl, (by decide : runsNow .running = true), (by decide : 11 < 256), (by decide : (faulted id).me.priv ≤ 1), (show bit (0x11 : W) 7 = false by decide)⟩,
    ⟨faulted fun f => { f with record := some ⟨2, 0x17, 0, 0, 127, []⟩ }, _, rfl, rfl, by decide, by decide, by decide, by decide⟩,
    ⟨withHart fun h => { h with run := .halted }, by decide⟩,
    ⟨faulted fun f => { f with events := [⟨0x40, 0⟩] }, _, _, rfl, rfl, by decide, by decide, by decide, rfl, rfl, by decide⟩,
    ⟨faulted id, 0, _, rfl, rfl, by decide, by decide⟩,
    ⟨withHart fun h => { h with trap := { h.trap with stat := 1 }, pc := 0xFFF0000000000000 }, _, rfl, rfl, by decide, by decide,
      by decide⟩⟩

/-! Waits. -/

/-- A queued command, as it was decoded at firmware level. -/
def aCmd (i : Instr) : Cmd :=
  { ins := i, word := 0, gv := [0, 0, 0, 0, 0], gp := [], fw := 0, fwp := false, priv := 2, atp := 0, started := false, stopped := false, inOrder := false,
    resume := 0, done := 0, anew := false, tainted := 0, first := none, ticket := none, t0 := none, watch := none, owes := false,
    credit := none, supp := none }

/-- The machine at reset with one command queued, one 32-bit element in force, and tokens in two drawers. -/
def queued (c : Cmd) : State := withHart fun h => { h with
  queue := [c], drawers := [(1, 14), (4, 1)], vec := { h.vec with lanes := 64, phys := 64, sewc := 3, vl := 1 } }

theorem oneQueued (c : Cmd) (hf : c.first = none) (hp : c.priv = 2) (ha : c.atp = 0) : OneQueued (queued c) c :=
  ⟨rfl, rfl, rfl, rfl, rfl, rfl, (show bit (0 : W) 15 = false from rfl), .inl hf, rfl, rfl,
    by rw [hp]; exact (by decide : (2 : BitVec 2).toNat = State.reset.me.priv), ha⟩

theorem plain_queued (c : Cmd) : PlainMem (queued c) := ⟨(by decide : (0 : BitVec 2) ≠ 2), rfl, rfl, rfl, rfl⟩

theorem bare_queued (c : Cmd) : Bare (queued c) := .inr (show bit (0 : W) 63 = false from rfl)

/-- A VWAIT of the element at address 0 for a value equal to g[c + 1], with a timeout of 9 ticks, at a TIME. -/
def aWait (y : W) : Cmd := { aCmd (.vwait ⟨1, 2, 3, 0, 0, 4⟩) with t0 := some 0, gv := [9, y, 0, 0, 0] }
def waiting (y time : W) : State := { queued (aWait y) with time := time }

/-- The active elements of such a VWAIT that no earlier round has satisfied. -/
def waitElems (y time : W) : List Nat :=
  ((waiting y time).me.vec.actives ((4 : BitVec 5).extractLsb' 3 2)).filter
    fun j => !maskBit (aWait y).done (waiting y time).me.vec.lay j

/-- A queued VWAIT of one active element, in a round in which its time is up or not and that element is satisfied or not. -/
def WaitRound (late hits : Bool) : Prop := ∃ (s : State) (c : Cmd) (f : FE) (t0 : W) (loc : Nat → Nat), OneQueued s c ∧ c.ins = .vwait f ∧
      c.t0 = some t0 ∧ PlainMem s ∧ Bare s ∧ s.me.mode = 0 ∧ (s.me.vec.lay.sew = 32 ∨ s.me.vec.lay.sew = 64) ∧
      (descOf (.vwait f) s.me.vec.lay c.fw).earlyOk = true ∧ s.me.vec.vl ≤ s.me.vec.lay.cap s.me.vec.lanes ∧
      s.me.vec.lanes ≤ 512 ∧ c.tainted = 0 ∧ (∀ k, c.gpois k = false) ∧ f.imm.getLsbD 2 = true ∧
      Reaches s .load (((s.me.vec.actives (f.imm.extractLsb' 3 2)).filter fun j => !maskBit c.done s.me.vec.lay j).map
        (waitEa s c f)) loc ∧
      ((s.me.vec.actives (f.imm.extractLsb' 3 2)).all fun j => maskBit c.done s.me.vec.lay j ||
        condRule (f.imm.toNat % 4) s.me.vec.lay.sew (num s.mem (loc j) (s.me.vec.lay.sew / 8)) (waitValue s c f j)) = hits ∧
      (Late s (c.g 0) t0 ↔ late = true)

theorem waitEa_zero {y z : W} (h : el (waiting y z) 3 0 = 0) :
    waitEa (waiting y z) (aWait y) ⟨1, 2, 3, 0, 0, 4⟩ 0 = ⟨0, 0, 4, false⟩ := by
  have p : elP (waiting y z) 3 0 = false := rfl
  have l : (waiting y z).me.vec.lay.sew / 8 = 4 := (by decide : 32 / 8 = 4)
  simp only [waitEa, h, p, l]
  rfl

theorem waitRound (y z : W) (late hits : Bool) (he : waitElems y z = [0]) (h0 : el (waiting y z) 3 0 = 0)
    (hx : xlateMe (waiting y z) .vector .load 0 4 = .ok ⟨⟨0, 0, none, none⟩, waiting y z⟩)
    (hh : (((waiting y z).me.vec.actives ((4 : BitVec 5).extractLsb' 3 2)).all fun j =>
      maskBit (aWait y).done (waiting y z).me.vec.lay j || condRule ((4 : BitVec 5).toNat % 4) (waiting y z).me.vec.lay.sew
        (num (waiting y z).mem 0 ((waiting y z).me.vec.lay.sew / 8))
        (waitValue (waiting y z) (aWait y) ⟨1, 2, 3, 0, 0, 4⟩ j)) = hits)
    (hl : Late (waiting y z) ((aWait y).g 0) 0 ↔ late = true) : WaitRound late hits := by
  refine ⟨waiting y z, aWait y, ⟨1, 2, 3, 0, 0, 4⟩, 0, fun _ => 0, oneQueued (aWait y) rfl rfl rfl, rfl, rfl, plain_queued (aWait y),
    bare_queued (aWait y), rfl, .inl rfl, (by decide +kernel : (descOf (.vwait ⟨1, 2, 3, 0, 0, 4⟩) ⟨32, 1⟩ 0).earlyOk = true),
    (by decide : 1 ≤ (⟨32, 1⟩ : Lay).cap 64), (by decide : 64 ≤ 512), rfl, fun _ => rfl, rfl, ?_, hh, hl⟩
  rw [show List.filter _ _ = [0] from he, List.map, waitEa_zero h0]
  exact reaches_one rfl rfl ⟨0, none, hx⟩

theorem witness_VectorWaitsEnd : ∀ late hits : Bool, WaitRound late hits
  | false, false => waitRound 1 8 _ _ (by decide +kernel) (by decide +kernel) rfl (by decide +kernel) (by unfold Late; decide)
  | false, true => waitRound 0 8 _ _ (by decide +kernel) (by decide +kernel) rfl (by decide +kernel) (by unfold Late; decide)
  | true, false => waitRound 1 9 _ _ (by decide +kernel) (by decide +kernel) rfl (by decide +kernel) (by unfold Late; decide)
  | true, true => waitRound 0 9 _ _ (by decide +kernel) (by decide +kernel) rfl (by decide +kernel) (by unfold Late; decide)

theorem witness_ParksEnd :
    (∃ (s : State) (gd : Nat) (t0 ticks : W) (k : Nat) (y : W), s.me.run = .parked gd t0 ticks (some (k, y))) ∧
    (∀ late : Bool, ∃ (s : State) (gd : Nat) (t0 ticks : W), s.me.run = .parked gd t0 ticks none ∧
      (Late s ticks t0 ↔ late = true)) ∧
    (∀ late : Bool, ∃ (s : State) (n gd : Nat) (t0 ticks : W), (s.hart n).run = .parked gd t0 ticks none ∧
      (Late s ticks t0 ↔ late = true)) ∧
    (∀ same : Bool, ∃ (s : State) (n gd k : Nat) (t0 ticks y : W), (s.hart n).run = .parked gd t0 ticks (some (k, y)) ∧
      (y = (s.core (coreOf n)).cycle ↔ same = true)) :=
  ⟨⟨withHart fun h => { h with run := .parked 1 0 7 (some (2, 9)) }, 1, 0, 7, 2, 9, rfl⟩,
    fun late => match late with
      | false => ⟨{ (withHart fun h => { h with run := .parked 1 0 7 none }) with time := 6 }, 1, 0, 7, rfl, by unfold Late; decide⟩
      | true => ⟨{ (withHart fun h => { h with run := .parked 1 0 7 none }) with time := 7 }, 1, 0, 7, rfl, by unfold Late; decide⟩,
    fun late => match late with
      | false => ⟨{ (withHart fun h => { h with run := .parked 1 0 7 none }) with time := 6 }, 0, 1, 0, 7, rfl, by unfold Late; decide⟩
      | true => ⟨{ (withHart fun h => { h with run := .parked 1 0 7 none }) with time := 7 }, 0, 1, 0, 7, rfl, by unfold Late; decide⟩,
    fun same => match same with
      | false => ⟨withHart fun h => { h with run := .parked 1 0 7 (some (2, 9)) }, 0, 1, 2, 0, 7, 9, rfl, by decide⟩
      | true => ⟨withHart fun h => { h with run := .parked 1 0 7 (some (2, 0)) }, 0, 1, 2, 0, 7, 0, rfl, by decide⟩⟩

theorem witness_WaitsEnd :
    (∃ (s : State) (c : Cmd) (f : FV), OneQueued s c ∧ c.ins = .vadd f ∧ onGroup s f.a ∧ onGroup s f.b ∧ onGroup s f.c) ∧
    (∃ (s : State) (c : Cmd) (i : Instr) (f : FE) (d : Nat) (k : W) (lb lg ls : Nat), OneQueued s c ∧ PlainMem s ∧ Bare s ∧
      s.me.mode = 0 ∧ ((i = .shacq f ∧ d = 0) ∨ (i = .shwait f ∧ d = 1)) ∧ c.ins = i ∧ c.ticket = some k ∧
      c.gpois 0 = false ∧ (c.g 0).toNat % 64 = 0 ∧ DwordAt s .load (c.g 0 + 16) lb ∧ DwordAt s .load (c.g 0 + 24) lg ∧
      shGeoOk (BitVec.ofNat 64 (num s.mem lg 8)) = true ∧
      DwordAt s .load (c.g 0 + BitVec.ofNat 64 (64 + 8 * (k.toNat % shNst (BitVec.ofNat 64 (num s.mem lg 8))))) ls ∧
      num s.mem ls 8 = (k.toNat + d) % 2 ^ 64 ∧ f.a ≠ 0) ∧
    (∃ (s : State) (c : Cmd) (f : FE) (id : Nat), OneQueued s c ∧ c.ins = .bwait f ∧ c.watch = some (id, true)) ∧
    (∃ (s : State) (c : Cmd) (f : FE), OneQueued s c ∧ c.ins = .drpop f ∧
      0 < s.me.drawers.get 0 (4 * (f.imm.toNat / 4 % 4) + f.imm.toNat % 4)) ∧
    (∃ (s : State) (c : Cmd) (f : FE), OneQueued s c ∧ c.ins = .drpush f ∧ c.owes = true ∧
      s.me.drawers.get 0 (4 * (f.imm.toNat % 4) + f.imm.toNat / 4 % 4) < 15) ∧
    (∃ (s : State) (x : Xfer) (q : Nat), s.xfers = [x] ∧ x.owing = true ∧ x.hart = s.cur ∧ x.push = some q ∧ x.task = none ∧
      x.cause = 0 ∧ s.me.drawers.get 0 (4 * q + 1) < 15) ∧
    (∃ (s : State) (k : Nat) (u : Nat × BitVec 32), s.me.vec.drain[k]? = some u) := by
  refine ⟨⟨queued (aCmd (.vadd ⟨1, 2, 3, 0, 0, 0, 0⟩)), _, _, oneQueued _ rfl rfl rfl, rfl, rfl, rfl, rfl⟩,
    ?_,
    ⟨queued { aCmd (.bwait ⟨1, 2, 3, 0, 0, 0⟩) with watch := some (0, true) }, _, _, _, oneQueued _ rfl rfl rfl, rfl, rfl⟩,
    ⟨queued (aCmd (.drpop ⟨0, 0, 0, 0, 0, 4⟩)), _, _, oneQueued _ rfl rfl rfl, rfl, by decide⟩,
    ⟨queued { aCmd (.drpush ⟨0, 0, 0, 0, 0, 4⟩) with owes := true }, _, _, oneQueued _ rfl rfl rfl, rfl, rfl, by decide⟩,
    ⟨carrying { aMove .gather [] with push := some 1, owing := true } 14, _, 1, rfl, rfl, rfl, rfl, rfl, rfl, by decide⟩,
    ⟨withHart fun h => { h with vec := { h.vec with drain := [(3, 1)] } }, 0, (3, 1), rfl⟩⟩
  · refine ⟨{ queued { aCmd (.shwait ⟨1, 2, 3, 0, 0, 0⟩) with ticket := some 4 } with mem := shelfCells ++ [(64, 5)] }, _, _, _, 1, 4,
      16, 24, 64, oneQueued { aCmd (.shwait ⟨1, 2, 3, 0, 0, 0⟩) with ticket := some 4 } rfl rfl rfl, plain_queued { aCmd (.shwait ⟨1, 2, 3, 0, 0, 0⟩) with ticket := some 4 },
      bare_queued { aCmd (.shwait ⟨1, 2, 3, 0, 0, 0⟩) with ticket := some 4 }, rfl, .inr ⟨rfl, rfl⟩, rfl, rfl, rfl, rfl, ⟨none, rfl, rfl⟩, ⟨none, rfl, rfl⟩, by decide +kernel, ?_, by decide +kernel, by decide⟩
    rw [show BitVec.toNat (4 : W) % shNst _ = 0 by decide +kernel]
    exact ⟨none, rfl, rfl⟩

/-! Errors, power, the scheduler. -/

/-- A region of the machine at reset changed. -/
def inRegion (r : Nat) (f : Region → Region) : State := setRegion State.reset r (f Region.reset)

/-- Core 0 with clusters 0 and 1 seated by hart 0, which runs context 7. -/
def seated : State := State.setCore (withHart fun h => { h with ctx := 7, vec := { h.vec with lanes := 64, phys := 64 } }) 0
  { CoreSt.reset with bench := 0x88 }

theorem witness_ErrorsComplete :
    (∃ (s : State) (core lane : Nat), core < 256 ∧ lane < 512 ∧ (s.core core).lanedis.getLsbD (lane / 32) = false ∧
      (s.core core).retired = false ∧ bit (s.core core).bench (4 * (lane / 32) + 3) = false) ∧
    (∃ (s : State) (core lane hart idx : Nat), core < 256 ∧ lane < 512 ∧ (s.core core).lanedis.getLsbD (lane / 32) = false ∧
      (s.core core).retired = false ∧ Seated s core (lane / 32) hart ∧ 2 ≤ (heldBy (s.core core) hart).length ∧
      (heldBy (s.core core) hart)[idx]? = some (lane / 32)) ∧
    (∀ kind, kind < 4 → ∃ (s : State) (i : Nat), i < unitCount kind ∧ (kind, i) ∉ s.retired ∧
      (kind = 1 → (s.core i).retired = false) ∧ (kind = 2 → (region s i).dark = false) ∧
      (recent s (s.errors.get [] (65536 * kind + i))).length = 2) ∧
    (∃ (s : State) (i : Nat) (e : DirtyByte), i < 832 ∧ (2, i) ∉ s.retired ∧ (region s i).dark = false ∧ feedsDie 2 i ∧
      e ∈ s.dirty ∧ e.core / 64 = i / 208) ∧
    (∃ (s : State) (r p : Nat), r < 832 ∧ p < 12 ∧ (region s r).dark = false ∧ p ∉ (region s r).lost ∧
      ∀ e, e ∈ (region s r).tripped → e.1 ≠ p) ∧
    (∃ (s : State) (r p : Nat) (x : W), (region s r).tripped.find? (·.1 == p) = some (p, x) ∧
      10000 ≤ (s.time - x).toNat ∧ (region s r).dark = false) ∧
    (∃ (s : State) (r mv step : Nat), r < 832 ∧ (region s r).dark = false ∧ 30 < mv ∧ 10 * step < ilim s r ∧
      (2, r) ∉ s.retired ∧ (recent s (s.errors.get [] (65536 * 2 + r))).length < 2) ∧
    (∃ (s : State) (core : Nat), core < 256 ∧ (region s (laneRegion core)).dark = false ∧ (s.core core).retired = false) ∧
    (∃ (r : Nat) (x y : Int × Int × Int), r < 832 ∧ outRange r (pick3 0 x) (pick3 0 y)) ∧
    (∃ (r : Nat) (x y : Int × Int × Int), r < 832 ∧ ¬ outRange r (pick3 2 x) (pick3 2 y) ∧
      farOff (middle x.1 x.2.1 x.2.2) (middle y.1 y.2.1 y.2.2) (pick3 2 x) (pick3 2 y)) ∧
    (∃ (s : State) (r : Nat) (x y : Int × Int × Int), r < 832 ∧ ∀ j, j < 3 → ¬ outRange r (pick3 j x) (pick3 j y) ∧
      ¬ farOff (middle x.1 x.2.1 x.2.2) (middle y.1 y.2.1 y.2.2) (pick3 j x) (pick3 j y) ∧
      ((region s r).sensors.get Sensor.reset j).untrusted = false ∧ ((region s r).sensors.get Sensor.reset j).same < 4095) := by
  refine ⟨⟨State.setCore State.reset 255 { CoreSt.reset with lanedis := 0x7FFF }, 255, 511, by decide, by decide, by decide, rfl,
      by decide⟩,
    ⟨seated, 0, 63, 0, 1, by decide, by decide, by decide, rfl, by unfold Seated; decide, by decide, by decide⟩,
    fun kind h => ⟨{ State.reset with errors := [(65536 * kind + unitCount kind - 1, [0, 0])] }, unitCount kind - 1, ?_⟩,
    ⟨{ State.reset with dirty := [⟨255, 64, none, 7⟩] }, 831, ⟨255, 64, none, 7⟩, by decide, nofun, rfl, by unfold feedsDie; decide, .head _,
      by decide⟩,
    ⟨State.reset, 831, 11, by decide, by decide, rfl, by decide, nofun⟩,
    ⟨{ inRegion 1 fun x => { x with tripped := [(3, 0)] } with time := 10000 }, 1, 3, 0, rfl, by decide, rfl⟩,
    ⟨State.reset, 1, 31, 0, by decide, rfl, by decide, by decide +kernel, by decide, by decide⟩,
    ⟨State.reset, 255, by decide, rfl, rfl⟩,
    ⟨831, (151, 0, 0), (0, 0, 0), by decide, by unfold outRange; decide⟩,
    ⟨831, (40, 40, 49), (0, 0, 0), by decide, by unfold outRange; decide, by unfold farOff; decide⟩,
    ⟨State.reset, 0, (40, 44, 48), (100, 100, 115), by decide, fun j h => ?_⟩⟩
  · obtain rfl | rfl | rfl | rfl : kind = 0 ∨ kind = 1 ∨ kind = 2 ∨ kind = 3 := by omega
    all_goals exact ⟨by decide, nofun, fun _ => rfl, fun _ => rfl, by decide +kernel⟩
  · unfold outRange farOff
    obtain rfl | rfl | rfl : j = 0 ∨ j = 1 ∨ j = 2 := by omega
    all_goals exact ⟨by decide, by decide, rfl, by decide⟩

/-- Core 0 with a wake, and a neighbour of it with another. -/
def waking (x y : List Wake) (time : W) : State :=
  { State.reset with time := time, cores := [(0, { CoreSt.reset with wakes := x, lanedis := 0 }),
    ((neighbourCores 0).getD 0 0, { CoreSt.reset with wakes := y })] }

/-- Whether a wake is next, as a test. -/
def nextToStage (s : State) (core age : Nat) : Bool :=
  (neighbourCores core).all fun n => (s.core n).wakes.all fun y =>
    (match y.phase with
     | .staging _ => false
     | _ => true) && decide (y.age ≤ age) && (decide (y.age ≠ age) || decide (core ≤ n))

theorem nextToStage_iff (s : State) (core age : Nat) : NextToStage s core age ↔ nextToStage s core age = true := by
  simp only [NextToStage, nextToStage, List.all_eq_true, Bool.and_eq_true, Bool.or_eq_true, decide_eq_true_eq]
  constructor
  · intro h n hn y hy
    obtain ⟨a, b, c⟩ := h n hn y hy
    refine ⟨⟨?_, b⟩, by omega⟩
    cases e : y.phase with
    | staging k => exact absurd e (a k)
    | current => rfl
    | turn k => rfl
  · intro h n hn y hy
    obtain ⟨⟨a, b⟩, c⟩ := h n hn y hy
    refine ⟨fun k e => ?_, b, fun e => c.resolve_left fun x => x e⟩
    rw [e] at a
    cases a

/-- No neighbour that asked in this cycle stages, by a test of those that have a wake. -/
theorem yields_not (s : State) (core : Nat) (h : ((neighbourCores core).all fun n => (s.core n).wakes.all fun y =>
      !decide (y.phase = .staging 4 ∧ y.age = 0)) = true) : ∀ n, n ∈ neighbourCores core → core < n →
    ∀ y r, (s.core n).wakes = y :: r → ¬ (y.phase = .staging 4 ∧ y.age = 0) := by
  intro n hn _ y r e
  simp only [List.all_eq_true] at h
  have k := h n hn y (by rw [e]; exact .head _)
  rw [Bool.not_eq_true'] at k
  exact of_decide_eq_false k

/-- R169: of two hard-shrink entries with COUNT 0 at the head, of 64 and 32 lanes, both apply at one boundary. -/
theorem test_script_run :
    let es : Tab W := [(0, 0x8000000000000040), (1, 0x8000000000000020)]
    let s := withHart fun h => { h with vec := { h.vec with phys := 96, lanes := 96, gsctl := 0x8000, gscript := es } }
    (scriptShrink s 0 false).me.vec.phys = 32 ∧ (scriptShrink s 0 false).me.vec.gsctl = 0x8002 := by decide +kernel

theorem witness_PowerComplete :
    (∃ x : PowerReport, x.energy = [] ∧ x.occupancy = [] ∧ (0, 100) ∈ x.shares) ∧
    (∃ (s : State) (i c k : Nat), regionCore i = some c ∧
      (∀ n, n ∈ loopsOf s c → heldBy (s.core c) n ≠ [] → (s.hart n).ctx = k) ∧
      ∃ n, n ∈ loopsOf s c ∧ heldBy (s.core c) n ≠ []) ∧
    (∃ (s : State) (c : Nat), (s.ctx c).eperiod ≠ 0 ∧ 100 * fld (s.ctx c).eperiod 0 20 ≤ (s.time - (s.ctx c).period).toNat) ∧
    (∃ (s : State) (lanes : Nat), 32 < s.me.vec.phys ∧ max lanes 32 < s.me.vec.phys) ∧
    (∃ (s : State) (e : W), scriptHead s.me.vec = some e ∧ entryKind e = 2 ∧ entryCount e ≤ s.me.vec.scriptDone ∧
      1 ≤ entryLanes e ∧ entryLanes e ≤ 512 ∧ entryLanes e < s.me.vec.phys) ∧
    (∃ (s : State) (core : Nat), core < 256 ∧ ilim s (laneRegion core) < (region s (laneRegion core)).igov) ∧
    (∀ turn : Bool, ∃ (s : State) (core : Nat) (k : BitVec 16), (s.core core).wakes = [] ∧
      k &&& ~~~(s.core core).powered &&& ~~~(s.core core).lanedis ≠ 0 ∧
      (∀ n, n ∈ neighbourCores core → core < n → ∀ y r, (s.core n).wakes = y :: r →
        ¬ (y.phase = .staging 4 ∧ y.age = 0)) ∧ neighboursCool s core = true ∧ (NextToStage s core 0 ↔ turn = true)) ∧
    (∃ (s : State) (core n : Nat) (k k' : BitVec 16) (r : W), (s.core core).wakes = [] ∧ n ∈ neighbourCores core ∧ core < n ∧
      (s.core n).wakes = [⟨k', r, 0, .staging 4⟩] ∧ (∀ m, m ∈ neighbourCores core → m ≠ n → (s.core m).wakes = []) ∧
      k &&& ~~~(s.core core).powered &&& ~~~(s.core core).lanedis ≠ 0 ∧ neighboursCool s core = true) ∧
    (∀ late turn : Bool, ∃ (s : State) (core a : Nat) (k : BitVec 16) (r : W), (s.core core).wakes = [⟨k, r, a, .current⟩] ∧
      neighboursCool s core = true ∧ (2000 ≤ (s.time - r).toNat ↔ late = true) ∧ (NextToStage s core a ↔ turn = true)) ∧
    (∃ (s : State) (core a n : Nat) (k : BitVec 16) (r : W), (s.core core).wakes = [⟨k, r, a, .staging n⟩] ∧ 1 < n) ∧
    (∃ (s : State) (core near n m a a' : Nat) (k k' : BitVec 16) (r r' : W), (s.core core).wakes = [⟨k, r, a, .staging n⟩] ∧ n ≤ 1 ∧
      near ∈ neighbourCores core ∧ (s.core near).wakes = [⟨k', r', a', .turn m⟩] ∧
      ∀ c, c ≠ core → c ≠ near → (s.core c).wakes = []) := by
  refine ⟨⟨⟨[(0, 100)], [], []⟩, rfl, rfl, by decide⟩,
    ⟨seated, 1, 0, 7, by decide, ?_, 0, by decide, by decide⟩,
    ⟨{ State.reset with time := 100000 }, 0, by decide, by decide⟩,
    ⟨shaped 3 0 0 0, 0, by decide, by decide⟩,
    ⟨withHart fun h => { h with vec := { h.vec with phys := 64, lanes := 64, gsctl := 0x8000, gscript := [(0, 0x8000000000000020)] } },
      _, rfl, by decide, by decide, by decide, by decide, by decide⟩,
    ⟨inRegion 1 fun x => { x with igov := 100000000 }, 0, by decide, by decide +kernel⟩,
    fun turn => ?_,
    ⟨waking [] [⟨1, 3, 0, .staging 4⟩] 3, 0, (neighbourCores 0).getD 0 0, 1, 1, 3, rfl, by decide +kernel, by decide +kernel, rfl,
      by decide +kernel, by decide +kernel, by decide +kernel⟩, fun late turn => ?_, ⟨waking [⟨1, 0, 0, .staging 16⟩] [] 0, 0, 0, 16, 1, 0, rfl, by decide⟩,
    ⟨waking [⟨1, 0, 9, .staging 1⟩] [⟨1, 0, 9, .turn 4⟩] 0, 0, (neighbourCores 0).getD 0 0, 1, 4, 9, 9, 1, 1, 0, 0, rfl, by decide,
      by decide +kernel, rfl, fun c h k => ?_⟩⟩
  · intro n hn hh
    have : ∀ m, m ∈ loopsOf seated 0 → m = 0 ∨ heldBy (seated.core 0) m = [] := by decide +kernel
    obtain rfl | e := this n hn
    · rfl
    · exact absurd e hh
  · cases turn
    · exact ⟨waking [] [⟨1, 0, 1, .staging 4⟩] 0, 0, 1, rfl, by decide +kernel, yields_not _ _ (by decide +kernel), by decide +kernel,
        by rw [nextToStage_iff]; decide +kernel⟩
    · exact ⟨waking [] [] 0, 0, 1, rfl, by decide +kernel, yields_not _ _ (by decide +kernel), by decide +kernel, by rw [nextToStage_iff]; decide +kernel⟩
  · cases late <;> cases turn
    · exact ⟨waking [⟨1, 5, 8, .current⟩] [⟨1, 5, 9, .current⟩] 2004, 0, 8, 1, 5, rfl, by decide +kernel, by decide,
        by rw [nextToStage_iff]; decide +kernel⟩
    · exact ⟨waking [⟨1, 5, 8, .current⟩] [⟨1, 5, 8, .current⟩] 2004, 0, 8, 1, 5, rfl, by decide +kernel, by decide,
        by rw [nextToStage_iff]; decide +kernel⟩
    · exact ⟨waking [⟨1, 5, 8, .current⟩] [⟨1, 5, 9, .current⟩] 2005, 0, 8, 1, 5, rfl, by decide +kernel, by decide,
        by rw [nextToStage_iff]; decide +kernel⟩
    · exact ⟨waking [⟨1, 5, 8, .current⟩] [] 2005, 0, 8, 1, 5, rfl, by decide +kernel, by decide,
        by rw [nextToStage_iff]; decide +kernel⟩
  · show (Tab.get CoreSt.reset [(0, _), ((neighbourCores 0).getD 0 0, _)] c).wakes = []
    rw [Tab.get, if_neg h, Tab.get, if_neg k]
    rfl

/-- A context that has save tables and one READY task, allotted harts 0 to 2. -/
def waitingTask (shape : BitVec 29) (saved : List Nat) : Context :=
  { Context.reset with
    resident := true, csave := 1, allot := 7, slots := [(4, { TaskSlot.reset with state := .ready, shape := shape, saved := saved })] }
/-- Such a context alone. -/
def ready (shape : BitVec 29) (saved : List Nat) : State := { State.reset with contexts := [(5, waitingTask shape saved)] }
/-- Its task has an image at 4096, of so many lanes, and so many clusters of the core are disabled. -/
def saved (lanes : Byte) (dis : BitVec 16) : State :=
  { ready taskShape [0] with
    cores := [(0, { CoreSt.reset with lanedis := dis })],
    mem := [(2049, 0x10), (4096, 0x53), (4097, 0x58), (4098, 0x56), (4099, 0x51), (4100, 1), (4112, lanes)] }

/-- What a restore reads and answers, where the image loads (R416, R421). -/
theorem restore_runs {s T u w : State} {ctx n rank hart img gs : Nat} {ea : W}
    (hT : ((carveFor s (coreOf hart) ((s.ctx ctx).slot n).shape).setHart hart
      { freshLoop ((carveFor s (coreOf hart) ((s.ctx ctx).slot n).shape).waking hart) with ctx := ctx }) = T)
    (ha : imageAddr T hart n rank = some ea) (hl : loadImage T hart false ea = .loaded u img)
    (hr : readImage u hart false ea (upTo 8 4) = .ok (w, gs)) : ∃ v, restoreRank s ctx n rank hart = .running v := by
  simp only [restoreRank, hT, ha, hl, hr]
  exact ⟨_, rfl⟩

theorem restore_waits {s T u : State} {ctx n rank hart : Nat} {ea : W}
    (hT : ((carveFor s (coreOf hart) ((s.ctx ctx).slot n).shape).setHart hart
      { freshLoop ((carveFor s (coreOf hart) ((s.ctx ctx).slot n).shape).waking hart) with ctx := ctx }) = T)
    (ha : imageAddr T hart n rank = some ea) (hl : loadImage T hart false ea = .status u 3) :
    restoreRank s ctx n rank hart = .noSeats := by
  simp only [restoreRank, hT, ha, hl, if_pos]

/-- That machine as rank 0 is restored to hart 1. -/
def restoring (lanes : Byte) (dis : BitVec 16) : State :=
  let s := visitContext (saved lanes dis) 5 4
  s.setHart 1 { freshLoop (s.waking 1) with ctx := 5 }

theorem restoring_of (lanes : Byte) (dis : BitVec 16)
    (h : carvedAs ((visitContext (saved lanes dis) 5 4).core (coreOf 1)) (((visitContext (saved lanes dis) 5 4).ctx 5).slot 4).shape = true) :
    (carveFor (visitContext (saved lanes dis) 5 4) (coreOf 1) (((visitContext (saved lanes dis) 5 4).ctx 5).slot 4).shape).setHart 1
      { freshLoop ((carveFor (visitContext (saved lanes dis) 5 4) (coreOf 1)
          (((visitContext (saved lanes dis) 5 4).ctx 5).slot 4).shape).waking 1) with ctx := 5 } = restoring lanes dis := by
  rw [carveFor, if_pos h]
  rfl


/-- That machine with the image loaded. -/
def restored : State :=
  let s := seatHart (restoring 0 0) 1 (min 0 (seatable (restoring 0 0) 1))
  s.setHart 1 (imageHart (s.hart 1) (0x0151565853 + 0 * 2 ^ 128) 0 (min 0 (seatable (restoring 0 0) 1)) [])

theorem rank_restores : ∃ v, restoreRank (visitContext (saved 0 0) 5 4) 5 4 0 1 = .running v := by
  have x : HoldsImage (restoring 0 0) 1 4096 := ⟨by decide +kernel, by decide +kernel, by decide +kernel, rfl, rfl, by decide +kernel⟩
  have k := load_held (H := 0x0151565853 + 0 * 2 ^ 128) (lanes := 0) false x (by decide) (by decide +kernel) (by decide +kernel)
    (by decide +kernel) (by decide +kernel) (by decide +kernel)
  rw [if_neg (by decide +kernel)] at k
  obtain ⟨⟨w, gs⟩, hr⟩ := isOk_of (x := readImage restored 1 false (BitVec.ofNat 64 4096) (upTo 8 4)) (by decide +kernel)
  exact restore_runs (restoring_of 0 0 (by decide +kernel)) (by decide +kernel) k hr

theorem rank_waits : restoreRank (visitContext (saved 64 0xFFFF) 5 4) 5 4 0 1 = .noSeats := by
  have x : HoldsImage (restoring 64 0xFFFF) 1 4096 := ⟨by decide +kernel, by decide +kernel, by decide +kernel, rfl, rfl, by decide +kernel⟩
  have k := load_held (H := 0x0151565853 + 64 * 2 ^ 128) (lanes := 64) false x (by decide) (by decide +kernel) (by decide +kernel)
    (by decide +kernel) (by decide +kernel) (by decide +kernel)
  rw [if_pos (by decide +kernel)] at k
  exact restore_waits (restoring_of 64 0xFFFF (by decide +kernel)) (by decide +kernel) k

/-- A context that has save tables and runs task 2, on one hart. -/
def runningTask : Context :=
  { Context.reset with resident := true, csave := 1, slots := [(2, { TaskSlot.reset with state := .running, left := [0] })] }

/-- Hart 0 runs that task in context 7, beside a context whose task waits for it. -/
def contended : State := { (withHart fun h => { h with ctx := 7, task := some (2, 0) }) with
  time := 100000, contexts := [(5, { waitingTask taskShape [] with allot := 1 }), (7, runningTask)] }

/-- A hart at user level that is asked to give way, before a SETVL at address 0. -/
def askedToLeave (now : Bool) : State :=
  { State.setMe (withHart fun h => h) { Hart.reset with
      run := .running, pc := 0, trap := { TrapRegs.reset with stat := 0 }, preempt := some ⟨now, 0⟩ } with
    time := 10000, mem := memPuts [] 0 (leBytes 4 (encode (.setvl ⟨1, 2, 3⟩)).toNat) }

/-- That hart as it runs a task whose save table names an image at 4096. -/
def leaving (now : Bool) : State :=
  { (askedToLeave now).setMe { (askedToLeave now).me with task := some (2, 0) } with
    contexts := [(0, runningTask)], mem := (askedToLeave now).mem ++ [(1025, 0x10)] }

theorem leaves_image (now : Bool) : mayLeave (leaving now) 0 = true ∧ imageAddr (drainAll (leaving now) 0) 0 2 0 = some 4096 ∧
    nextInstr (leaving now) 0 = some (.setvl ⟨1, 2, 3⟩) := by
  cases now <;> decide +kernel

/-- What is written of a hart that leaves before a strip, and of one that leaves at once (R415). -/
def leftAt (now : Bool) (s : State) : Except Cause State :=
  let a := drainAll s s.cur
  let w := fld s.myCtx.csave 1 10
  let width := if w = 0 then s.me.vec.lanes else imageWidth s.me.vec (min w 512)
  let h := stopVector a.me none
  match now with
  | false => writeImage (a.setHart s.cur a.me) s.cur false true 4096 (imageOf a.me 1 width a.me.pc + imageG a.me)
  | true => writeImage (a.setHart s.cur h) s.cur false true 4096 (imageOf h 0 h.vec.lanes h.pc + imageG h)

theorem left_writes (now : Bool) : ∃ u, leftAt now (leaving now) = .ok u := by
  cases now <;> exact isOk_of (by decide +kernel)

theorem witness_SchedulerComplete :
    (∃ (s : State) (ctx n : Nat) (harts : List Nat), s.ckState ≠ 1 ∧ nextPlacement s = some (ctx, n) ∧
      placementOk s ctx n harts = true ∧ ((s.ctx ctx).slot n).saved = [] ∧ harts.length = 2 ∧
      ∀ h, h ∈ harts → carvedAs (s.core (coreOf h)) ((s.ctx ctx).slot n).shape = true) ∧
    (∀ seats : Bool, ∃ (s : State) (ctx n rank hart : Nat), s.ckState ≠ 1 ∧ nextPlacement s = some (ctx, n) ∧
      placementOk s ctx n [hart] = true ∧ ((s.ctx ctx).slot n).saved = [rank] ∧
      (seats = true → ∃ u, restoreRank (visitContext s ctx n) ctx n rank hart = .running u) ∧
      (seats = false → restoreRank (visitContext s ctx n) ctx n rank hart = .noSeats)) ∧
    (∃ (s : State) (ctx n : Nat) (vs : List (Nat × Nat)), ((s.ctx ctx).slot n).state = .ready ∧ (s.ctx ctx).equota ≠ 0 ∧
      100000 ≤ (s.time - ((s.ctx ctx).slot n).since).toNat ∧ enough s ctx ((s.ctx ctx).slot n) [] = false ∧
      victims s ctx ((s.ctx ctx).slot n) = some vs) ∧
    (∀ now : Bool, ∃ (s u : State) (p : Preempt) (n rank : Nat) (ea : W), p.immediate = now ∧ s.me.preempt = some p ∧
      s.me.run = .running ∧ s.me.farm = none ∧ mayLeave s s.cur = true ∧ s.me.task = some (n, rank) ∧ ea.toNat % 4096 = 0 ∧
      ((s.ctx s.me.ctx).slot n).state = .running ∧ ((s.ctx s.me.ctx).slot n).left = [rank] ∧ s.me.queue = [] ∧
      let a := drainAll s s.cur
      let w := fld s.myCtx.csave 1 10
      let width := if w = 0 then s.me.vec.lanes else imageWidth s.me.vec (min w 512)
      let h := stopVector a.me none
      imageAddr a s.cur n rank = some ea ∧ (∃ f, nextInstr s s.cur = some (.setvl f)) ∧
      (now = false →
        writeImage (a.setHart s.cur a.me) s.cur false true ea (imageOf a.me 1 width a.me.pc + imageG a.me) = .ok u) ∧
      (now = true →
        writeImage (a.setHart s.cur h) s.cur false true ea (imageOf h 0 h.vec.lanes h.pc + imageG h) = .ok u)) ∧
    (∀ now : Bool, ∃ (s : State) (p : Preempt), p.immediate = now ∧ s.me.preempt = some p ∧ s.me.run = .running ∧
      s.me.farm = none ∧ s.me.queue = [] ∧ mayLeave s s.cur = true ∧ s.me.task = none ∧
      (∃ f, nextInstr s s.cur = some (.setvl f)) ∧ 10000 ≤ (s.time - p.since).toNat) ∧
    (∀ now : Bool, ∃ (s : State) (p : Preempt) (o i : Nat) (f : Farm), p.immediate = now ∧ s.me.preempt = some p ∧
      s.me.farm = some (o, i) ∧ s.farm? o = some f) ∧
    (∀ loop : Bool, ∃ (s : State) (hart : Nat) (f : Farm), s.me.farm = some (s.cur, 0) ∧ s.farm? s.cur = some f ∧ hart ≠ s.cur ∧
      f.next < f.trip ∧ f.count < f.most ∧ f.stop = false ∧
      (loop = false → hart < 2048 ∧ idleHart s hart = true ∧ s.myCtx.allot.getLsbD hart = true ∧
        (if f.die then dieOfCore (coreOf hart) = dieOfCore (coreOf s.cur) else coreOf hart = coreOf s.cur) ∧
        keptFree s (overdue s) hart = false) ∧
      (loop = true → 2048 ≤ hart ∧ hart < 32768 ∧ idleLoop s hart = true ∧ hart % 2048 ∈ f.members ∧
        runsNow (s.hart (hart % 2048)).run = true ∧ (∃ i, (s.hart (hart % 2048)).farm = some (s.cur, i)))) := by
  refine ⟨⟨ready 0x4082002 [], 5, 4, [1, 2], by decide, by decide +kernel, by decide +kernel, rfl, rfl, by decide +kernel⟩,
    fun seats => ?_,
    ⟨contended, 5, 4, [(7, 2)], rfl, by decide, by decide, by decide +kernel, by decide +kernel⟩,
    fun now => ?_,
    fun now => ⟨askedToLeave now, ⟨now, 0⟩, rfl, rfl, rfl, rfl, rfl, ?_, rfl, ⟨⟨1, 2, 3⟩, ?_⟩, ?_⟩,
    fun now => ⟨farming.setMe { farming.me with preempt := some ⟨now, 0⟩ }, ⟨now, 0⟩, 0, 0, aFarm, rfl, rfl, rfl, rfl⟩,
    fun loop => ?_⟩
  · cases seats
    · exact ⟨saved 64 0xFFFF, 5, 4, 0, 1, by decide, by decide +kernel, by decide +kernel, rfl, nofun, fun _ => rank_waits⟩
    · exact ⟨saved 0 0, 5, 4, 0, 1, by decide, by decide +kernel, by decide +kernel, rfl, fun _ => rank_restores, nofun⟩
  · obtain ⟨h1, h2, h3⟩ := leaves_image now
    obtain ⟨u, h⟩ := left_writes now
    cases now
    · rw [leftAt] at h
      exact ⟨leaving false, u, ⟨false, 0⟩, 2, 0, 4096, rfl, rfl, rfl, rfl, h1, rfl, by decide, rfl, rfl, rfl, h2, ⟨_, h3⟩, fun _ => h, nofun⟩
    · rw [leftAt] at h
      exact ⟨leaving true, u, ⟨true, 0⟩, 2, 0, 4096, rfl, rfl, rfl, rfl, h1, rfl, by decide, rfl, rfl, rfl, h2, ⟨_, h3⟩, nofun, fun _ => h⟩
  · cases now <;> decide +kernel
  · cases now <;> decide +kernel
  · cases now <;> decide +kernel
  · cases loop
    · exact ⟨farming.setCtx 0 { Context.reset with allot := 2 }, 1, aFarm, rfl, rfl, by decide, by decide, by decide, rfl,
        fun _ => ⟨by decide, by decide +kernel, by decide +kernel, by decide +kernel, by decide +kernel⟩, nofun⟩
    · exact ⟨farming, 2048, aFarm, rfl, rfl, by decide, by decide, by decide, rfl, nofun,
        fun _ => ⟨by decide, by decide, by decide +kernel, by decide, by decide +kernel, 0, rfl⟩⟩

/-! Moves, links, attestation. -/

/-- A move of block 3 to slot 9. -/
def moving (m : Move) : State := { State.reset with moves := [m] }

/-- R243: a block on its way to HBM4E that is sent to LPDDR gets a further move, to the free slot of that tier. -/
theorem test_move_follows :
    (startMoves { moving ⟨3, 9, false, 5, [], none⟩ with backing := [(9437180, 7)] } [3] true).map (·.moves) =
      some [⟨3, 9, false, 5, [], some 9437180⟩] := by decide +kernel

theorem moving_of (m : Move) : moveOf (moving m) m.block m.wp = some m := by simp [moveOf, moving]

theorem copied_all (xs : List Nat) (h : xs.length = 1024) :
    ∃ (s : State) (m : Move), moveOf s m.block true = some m ∧ s.ckState ≠ 1 ∧ m.copied.length = 1024 ∧ s.lostRuns = [] :=
  ⟨moving ⟨3, 9, true, 0, xs, none⟩, _, moving_of _, (by decide : (0 : BitVec 2) ≠ 1), h, rfl⟩

theorem served (op : RemoteOp) (id off : Nat) (s : State) (h : s = State.reset)
    (k : remoteOk State.reset ⟨id, 1, off, 4, none, false, op⟩ = true) :
    Served s ⟨id, 1, off, 4, none, false, op⟩ := by
  subst h
  exact ⟨rfl, plain_reset, rfl, rfl, k⟩

theorem witness_MovesAndLinksComplete :
    (∃ (s : State) (m : Move), moveOf s m.block false = some m ∧ s.ckState ≠ 1 ∧ m.ptr < 1024) ∧
    (∃ (s : State) (m : Move), moveOf s m.block false = some m ∧ s.ckState ≠ 1 ∧ m.ptr = 1024 ∧ s.lostRuns = []) ∧
    (∃ (s : State) (m : Move) (l : Nat), moveOf s m.block true = some m ∧ s.ckState ≠ 1 ∧ l < 1024 ∧ l ∉ m.copied) ∧
    (∃ (s : State) (m : Move), moveOf s m.block true = some m ∧ s.ckState ≠ 1 ∧ m.copied.length = 1024 ∧ s.lostRuns = []) ∧
    (∃ (s : State) (x : RemoteReq), Served s x ∧ x.op = .load) ∧
    (∃ (s : State) (x : RemoteReq) (bytes : List Byte), Served s x ∧ x.op = .store bytes ∧ bytes.length = x.width ∧
      (x.source, x.id) ∉ s.served) ∧
    (∃ (s : State) (x : RemoteReq) (op : Nat) (b : W) (y : Nat), Served s x ∧ x.op = .amo op b ∧ (x.source, x.id) ∉ s.served ∧
      remoteAtomic op x.width (num s.mem x.off x.width) (b.toNat % 256 ^ x.width) = some y) ∧
    (∃ (s : State) (x : RemoteReq) (fw v : W) (y : RVal), Served s x ∧ x.op = .redFadd fw v ∧ (x.source, x.id) ∉ s.served ∧
      remoteFadd fw x.width (num s.mem x.off x.width, false) v = some y ∧ y.p = false) ∧
    (∃ (s : State) (x : RemoteReq) (bytes : List Byte), Served s x ∧ x.op = .store bytes ∧ (x.source, x.id) ∈ s.served) ∧
    (∃ (s : State) (x : RemoteReq), s.booted = true ∧ remoteOk s x = false) :=
  ⟨⟨moving ⟨3, 9, false, 1023, [], none⟩, ⟨3, 9, false, 1023, [], none⟩, rfl, by decide, by decide⟩,
    ⟨moving ⟨3, 9, false, 1024, [], some 11⟩, ⟨3, 9, false, 1024, [], some 11⟩, rfl, by decide, rfl, rfl⟩,
    ⟨moving ⟨3, 9, true, 0, [1], none⟩, ⟨3, 9, true, 0, [1], none⟩, 1023, rfl, by decide, by decide, by decide⟩,
    copied_all (List.range 1024) List.length_range,
    ⟨State.reset, ⟨0, 1, 60, 4, none, false, .load⟩, served _ _ _ _ rfl (by decide +kernel), rfl⟩,
    ⟨State.reset, ⟨0, 1, 60, 4, none, false, .store [1, 2, 3, 4]⟩, _, served _ _ _ _ rfl (by decide +kernel), rfl, rfl, by decide⟩,
    ⟨State.reset, ⟨0, 1, 60, 4, none, false, .amo 1 5⟩, 1, 5, _, served _ _ _ _ rfl (by decide +kernel), rfl, by decide, rfl⟩,
    ⟨State.reset, ⟨0, 1, 60, 4, none, false, .redFadd fw32 0x3F800000⟩, _, _, _, served _ _ _ _ rfl (by decide +kernel), rfl,
      by decide, rfl, rfl⟩,
    ⟨{ State.reset with served := [(1, 7)] }, ⟨7, 1, 60, 4, none, false, .store [1, 2, 3, 4]⟩, _,
      ⟨rfl, ⟨by decide, rfl, rfl, rfl, rfl⟩, rfl, rfl, by decide +kernel⟩, rfl, by decide⟩,
    ⟨State.reset, ⟨0, 1, 62, 4, none, false, .load⟩, rfl, by decide +kernel⟩⟩

/-- FIPS 180-4: the digest of the three bytes 'abc', its first byte in the lowest bits. -/
theorem test_sha512 : (sha512 [0x61, 0x62, 0x63]).toNat % 2 ^ 32 = 0xA135AFDD := by decide +kernel

theorem witness_AttestationComplete : ∃ (s : State) (d : BitVec 512), s.measured2 = some d ∧ (s.ctx 0).measured = some d :=
  ⟨{ State.reset.setCtx 0 { Context.reset with measured := some 1 } with measured2 := some 1 }, 1, rfl, rfl⟩

theorem witness_MemoryStaysCanonical : ∃ (s t : State), memWf s.mem = true ∧ step s = .next t :=
  ⟨State.reset, _, rfl, rfl⟩

/-! ### One step of an instruction -/

/-- What holds after an instruction that answers a next state. -/
noncomputable def after (i : Instr) (s : State) (p : State → Bool) : Bool :=
  match exec i s with
  | .next t => p t
  | .fault _ => false
  | .refused _ => false

/-- R117: the carry out of bit 63 is lost. -/
theorem test_add_wraps : after (.add ⟨3, 1, 2, 0, 0⟩) (holding [(1, 0xFFFFFFFFFFFFFFFF), (2, 2)] [])
    (fun t => t.me.rd 3 == 1 && t.me.pc == State.reset.me.pc + 4) = true := by decide +kernel

/-- R117: MULH of the most negative number by itself is 2^126 / 2^64. -/
theorem test_mulh_min : after (.mulh ⟨1, 1, 1, 0, 0⟩) (holding [(1, 0x8000000000000000)] [])
    (fun t => t.me.rd 1 == 0x4000000000000000) = true := by decide +kernel

/-- R118: the quotient of the most negative number by -1 is itself. -/
theorem test_div_overflow : after (.div ⟨3, 1, 2, 0, 0⟩) (holding [(1, 0x8000000000000000), (2, 0xFFFFFFFFFFFFFFFF)] [])
    (fun t => t.me.rd 3 == 0x8000000000000000) = true := by decide +kernel

/-- R41: a write to g0 is discarded. -/
theorem test_g0_stays_zero : after (.addk ⟨0, 1, 5⟩) (holding [(1, 7)] []) (fun t => t.me.rd 0 == 0) = true := by
  decide +kernel

/-- R125: a branch goes to PC plus 4 times its signed offset. -/
theorem test_bne_backward : after (.bne ⟨1, 0, 0xFFF⟩) (holding [(1, 7)] [])
    (fun t => t.me.pc == State.reset.me.pc - 4) = true := by decide +kernel

/-- R122: LD8S extends its sign. -/
theorem test_ld8s_sign : after (.ld8s ⟨3, 1, 0xFFF⟩) (holding [(1, 0x21)] [(0x20, 0x80)])
    (fun t => t.me.rd 3 == 0xFFFFFFFFFFFFFF80) = true := by decide +kernel

/-- R122, R123: ST32 stores the low 4 bytes, little-endian. -/
theorem test_st32_bytes : after (.st32 ⟨3, 1, 0⟩) (holding [(1, 0x20), (3, 0x1122334455667788)] [])
    (fun t => t.mem == [(0x20, 0x88), (0x21, 0x77), (0x22, 0x66), (0x23, 0x55)]) = true := by decide +kernel

/-- R128, R80: FP32 1.0 + 2.0 is 3.0. -/
theorem test_fadd : after (.fadd ⟨3, 1, 2, 0, 0⟩) (holding [(1, 0x3F800000), (2, 0x40000000), (24, fw32)] [])
    (fun t => t.me.rd 3 == 0x40400000 && t.me.fflags == 0) = true := by decide +kernel

/-- R190: elements of four bits wrap, and the tail stays. -/
theorem test_vadd_wraps : after (.vadd ⟨3, 1, 2, 0, 0, 0, 0⟩)
    (withHart fun h => { h with vec := { h.vec with lanes := 64, phys := 64, sewc := 0, vl := 1, v := [(1, 0x1F), (2, 0x12)] } })
    (fun t => t.me.vec.v.get 0 3 == 0x1) = true := by decide +kernel

/-- R204, R209: a row of eight products of E4M3 ones, and an accumulator of 1.0, is 9.0. -/
theorem test_vmmad_ones : after (.vmmad ⟨24, 0, 8, 0, 0, 0, 0⟩)
    (withHart fun h => { h with g := [(24, fwE4)], vec := { h.vec with
      lanes := 64, phys := 64, sewc := 1, vl := 1, v := [(0, 0x3838383838383838), (8, 0x38), (9, 0x38), (10, 0x38), (11, 0x38), (12, 0x38), (13, 0x38), (14, 0x38), (15, 0x38), (24, 0x3F800000)] } })
    (fun t => (t.me.vec.v.get 0 24).extractLsb' 0 32 == 0x41100000) = true := by decide +kernel

/-- R61: an illegal word at kernel level traps with cause 2 and its word in TVAL. -/
theorem test_illegal_traps : (match step ((faulted id).withFetchWord 32 0) with
    | .next t => t.me.trap.cause == 2 && t.me.trap.epc == State.reset.me.pc && t.me.pc == 0
    | _ => false) = true := by decide +kernel

/-- R159, R169, R434: a hart that holds 64 lanes meets a scripted hard shrink to 32 lanes and then a scripted grant of 64. The shrink
takes effect, the grant waits, and the cluster that was gated is asked to wake. -/
theorem test_scripted_grant_wakes :
    let s := State.reset.setCore 0 { seat CoreSt.reset 0 2 [0, 1] with powered := 3 }
    let v := s.me.vec
    let v := { v with lanes := 64, phys := 64, sewc := 3 }
    let v := { v with gsctl := 0x8000, gscript := [(0, 0x8000000000000020), (1, 0x4000000000000040)] }
    let s := s.setMe { s.me with vec := v }
    (match grantStep s 0 64 3 0 with
     | .waits t => t.me.vec.phys == 32 && (t.core 0).powered == 1 && (t.core 0).wakes.map (·.clusters) == [2]
     | .granted _ _ => false) = true := by decide +kernel

/-- R427, R434: a scripted grant of 64 lanes heads the queue and waits; of three clusters that are powered and free, a refresh gates
one and leaves the two that it waits for. -/
theorem test_idle_keeps_scripted :
    let s := State.reset.setCore 0 { CoreSt.reset with powered := 7 }
    let s := s.setMe { s.me with
      run := .running, queue := [{ cmdOf State.reset (.setvl ⟨1, 2, 3⟩) [] none with gv := [64] }],
      vec := { s.me.vec with gsctl := 0x8000, gscript := [(0, 0x4000000000000040)] } }
    ((gateIdle s 0).core 0).powered = 3 := by decide +kernel

/-- R213: with SEW = 4 VLGMUL is a format fault. -/
theorem test_vlgmul_sew : after (.vlgmul ⟨1, 2, 3, 0, 0, 0, 0⟩) (shaped 0 0 64 fwL6)
    (fun t => t.me.flt.pending.map (·.cause) == some 0x0A) = true := by decide +kernel

/-- R180, R269, R272: so is VMREDFADD, where VMREDADD is illegal. -/
theorem test_vmred_sew : after (.vmredfadd ⟨1, 2, 0, 0, 0, 0, 0⟩) (shaped 0 0 64 fw32)
    (fun t => t.me.flt.pending.map (·.cause) == some 0x0A) = true ∧ after (.vmredadd ⟨1, 2, 0, 0, 0, 0, 0⟩) (shaped 0 0 64 fw32)
    (fun t => t.me.flt.pending.map (·.cause) == some 0x02) = true := by decide +kernel

/-- R176, R339: the completion word of the origin's transfer to g31 reaches a recruit as well, which then waits for it no more. -/
theorem test_farm_word :
    let s := (withHart fun h => { h with farm := some (0, 0), gwait := [31] }).setHart 2048
      { Hart.reset with farm := some (0, 1), gwait := [31] }
    let t := putWord s { aMove .gather [] with gd := some 31, done := 5 } 31
    ((t.hart 2048).rd 31, (t.hart 2048).gwait, t.me.gwait) = (5, [], []) := by decide +kernel

/-! ### The Choiz assembler: samples of chapter 01 and of the encoding tables -/

/-- One source file. -/
def source (s : String) : Choiz.Files := [("a".toList, s.toList)]

/-- The text bytes of a source that assembles. -/
def textOf (s : String) : Option (List Byte) := (Choiz.assemble (source s) "a".toList 0).toOption.map (·.text)

/-- The errors of a source. -/
def codesOf (s : String) : List Choiz.Code :=
  match Choiz.assemble (source s) "a".toList 0 with
  | .ok _ => []
  | .error l => l.map (·.code)

/-- R31: the fields of the example are A = 8, B = 4, C = 5, bits 6:0 = 0x5A. -/
theorem test_choiz_operands : textOf "VFADD v8, ~v4, v5, f:g26, !m0" = some (leBytes 4 0x541042DA) := by decide +kernel

/-- R24: `!m1` has no encoding. -/
theorem test_choiz_mask : codesOf "VFADD v8, v4, v5, f:g25, !m1" = [.AS13] := by decide +kernel

/-- R23, R39: anything behind the mask operand is AS11, and a mask given twice AS12. -/
theorem test_choiz_behind_mask : codesOf "VADD v1, v2, v3, m0, m1" = [.AS12, .AS11] := by decide +kernel

/-- R20, R23, R25, R107: behind too few operands v40 is AS10, and a g register last chooses the vector-scalar form. -/
theorem test_choiz_places : codesOf "VADD v1, ~v40\nVADD v1, v2, ~g3\nVADD g1, v2, g3" = [.AS11, .AS10, .AS14, .AS10] := by decide +kernel

/-- R26, R27: what stands behind a tilde is judged too. -/
theorem test_choiz_keywords : codesOf "FADD g1, g2, g3, f:~g20\nFENCE sc:~foo" = [.AS14, .AS15, .AS14, .AS16] := by decide +kernel

/-- R38: the example of fmtw. -/
theorem test_choiz_fmtw : textOf ".dword fmtw(E4M3, E4M3, FP32, FP32, RNE, 1, 1, 1, 127)" = some (leBytes 8 0x7F38AA66) := by
  decide +kernel

/-- R36: lines 18 to 21 of the example. -/
theorem test_choiz_data : textOf ".fp32 1.5, -0.25\n.bf16 1.0\n.fp8e4 448, nan\n.byte \"ok\", 0" =
    some [0, 0, 0xC0, 0x3F, 0, 0, 0x80, 0xBE, 0x80, 0x3F, 0x7E, 0x7F, 0x6F, 0x6B, 0] := by decide +kernel

/-- R35: line 10 of the example, whose bits 6:0 are 0x40. -/
theorem test_choiz_macro : textOf ".macro LOADV dst, base\nVLD $dst, ($base), w:32\n.endm\nLOADV v4, g12" =
    some (leBytes 4 0x8008C040) := by decide +kernel

end Sys2Proof.Tests
end

section
/-! SUPPORT. Fields of a dword bit by bit: what a field written into a dword reads as, and what it leaves of the others. -/

namespace Sys2Proof.Machine

/-! ### Fields of a dword -/

/-- A dword cut at a field: what lies above it, the field, and what lies below. -/
theorem toNat_eq_parts (x : W) (lo n : Nat) :
    x.toNat = 2 ^ lo * (2 ^ n * (x.toNat / 2 ^ lo / 2 ^ n) + fld x lo n) + x.toNat % 2 ^ lo := by
  rw [fld, Nat.div_add_mod, Nat.div_add_mod]

/-- Two digits of a number in base `d` are below the bound that the higher one gives. -/
theorem digits_lt {a b c d : Nat} (ha : a < c) (hb : b < d) : d * a + b < d * c :=
  calc d * a + b < d * a + d := Nat.add_lt_add_left hb _
    _ = d * (a + 1) := (Nat.mul_succ d a).symm
    _ ≤ d * c := Nat.mul_le_mul_left d ha

/-- A field written leaves what lies above and below it. -/
theorem toNat_setFld (x : W) {lo n : Nat} (v : Nat) (h : lo + n ≤ 64) :
    (setFld x lo n v).toNat = 2 ^ lo * (2 ^ n * (x.toNat / 2 ^ lo / 2 ^ n) + v % 2 ^ n) + x.toNat % 2 ^ lo := by
  have parts := toNat_eq_parts x lo n
  have low : x.toNat % 2 ^ lo < 2 ^ lo := Nat.mod_lt _ (Nat.two_pow_pos _)
  have field : v % 2 ^ n < 2 ^ n := Nat.mod_lt _ (Nat.two_pow_pos _)
  have high : x.toNat / 2 ^ lo / 2 ^ n < 2 ^ (64 - (lo + n)) := by
    rw [Nat.div_div_eq_div_mul, ← Nat.pow_add]
    apply Nat.div_lt_of_lt_mul
    rw [← Nat.pow_add, Nat.add_sub_cancel' h]
    exact x.isLt
  have bound : 2 ^ lo * (2 ^ n * (x.toNat / 2 ^ lo / 2 ^ n) + v % 2 ^ n) + x.toNat % 2 ^ lo < 2 ^ 64 := by
    have width : 2 ^ lo * (2 ^ n * 2 ^ (64 - (lo + n))) = 2 ^ 64 := by
      rw [← Nat.pow_add, ← Nat.pow_add]
      congr 1
      omega
    rw [← width]
    exact digits_lt (digits_lt high field) low
  have sum : x.toNat - fld x lo n * 2 ^ lo + v % 2 ^ n * 2 ^ lo =
      2 ^ lo * (2 ^ n * (x.toNat / 2 ^ lo / 2 ^ n) + v % 2 ^ n) + x.toNat % 2 ^ lo := by
    rw [Nat.mul_add] at parts ⊢
    rw [Nat.mul_comm (fld x lo n), Nat.mul_comm (v % 2 ^ n)]
    omega
  rw [setFld, BitVec.toNat_ofNat, sum, Nat.mod_eq_of_lt bound]

/-- A bit of a dword after a field was written: the value's within the field, and as before outside. -/
theorem bit_setFld (x : W) {lo n : Nat} (v k : Nat) (h : lo + n ≤ 64) :
    bit (setFld x lo n v) k = if lo ≤ k ∧ k < lo + n then v.testBit (k - lo) else bit x k := by
  have low : x.toNat % 2 ^ lo < 2 ^ lo := Nat.mod_lt _ (Nat.two_pow_pos _)
  have field : v % 2 ^ n < 2 ^ n := Nat.mod_lt _ (Nat.two_pow_pos _)
  rw [bit, BitVec.getLsbD, toNat_setFld x v h, Nat.testBit_two_pow_mul_add _ low, Nat.testBit_two_pow_mul_add _ field]
  by_cases below : k < lo
  · simp [below, bit, BitVec.getLsbD, Nat.not_le.mpr below]
  · by_cases inside : k < lo + n
    · have e : k - lo < n := by omega
      simp [below, inside, e, Nat.le_of_not_lt below]
    · have e : ¬ k - lo < n := by omega
      have place : k - lo - n + n + lo = k := by omega
      simp [below, inside, e, bit, BitVec.getLsbD, Nat.testBit_div_two_pow, place]

/-- A bit of a dword after one bit was written. -/
theorem bit_setBit (x : W) {i : Nat} (b : Bool) (k : Nat) (h : i < 64) :
    bit (setBit x i b) k = if k = i then b else bit x k := by
  rw [setBit, bit_setFld x _ k h]
  by_cases e : k = i
  · subst e; cases b <;> simp
  · have outside : ¬ (i ≤ k ∧ k < i + 1) := by omega
    rw [if_neg outside, if_neg e]

/-- The bits of a field are those of the dword. -/
theorem testBit_fld (x : W) (lo n i : Nat) : (fld x lo n).testBit i = (decide (i < n) && bit x (lo + i)) := by
  simp [fld, bit, BitVec.getLsbD, Nat.testBit_mod_two_pow, Nat.testBit_div_two_pow, Nat.add_comm]

/-- A field reads the same when its bits do. -/
theorem fld_congr {x y : W} {lo n : Nat} (h : ∀ i, i < n → bit x (lo + i) = bit y (lo + i)) : fld x lo n = fld y lo n := by
  refine Nat.eq_of_testBit_eq fun i => ?_
  rw [testBit_fld, testBit_fld]
  by_cases hi : i < n
  · rw [h i hi]
  · simp [hi]

/-- A field reads as it was just written. -/
theorem fld_setFld_same (x : W) {lo n : Nat} (v : Nat) (h : lo + n ≤ 64) : fld (setFld x lo n v) lo n = v % 2 ^ n := by
  refine Nat.eq_of_testBit_eq fun i => ?_
  rw [testBit_fld, bit_setFld x v _ h, Nat.testBit_mod_two_pow]
  by_cases hi : i < n <;> simp [hi]

/-- A field is not changed by a write of another. -/
theorem fld_setFld_other (x : W) {lo n lo' n' : Nat} (v : Nat) (h : lo' + n' ≤ 64) (apart : lo + n ≤ lo' ∨ lo' + n' ≤ lo) :
    fld (setFld x lo' n' v) lo n = fld x lo n := by
  refine fld_congr fun i hi => ?_
  have outside : ¬ (lo' ≤ lo + i ∧ lo + i < lo' + n') := by omega
  rw [bit_setFld x v _ h, if_neg outside]

/-- A field is not changed by a write of a bit outside it. -/
theorem fld_setBit_other (x : W) {lo n i : Nat} (b : Bool) (h : i < 64) (apart : lo + n ≤ i ∨ i < lo) :
    fld (setBit x i b) lo n = fld x lo n := fld_setFld_other x _ h apart

/-- A field is below its own range. -/
theorem fld_lt (x : W) (lo n : Nat) : fld x lo n < 2 ^ n := Nat.mod_lt _ (Nat.two_pow_pos _)

end Sys2Proof.Machine
end

section
/-! SUPPORT. Trap entry (R61): STAT and CAUSE as entry writes them, what the stop of the vector side leaves, and what a
change of the moving hart alone leaves. -/

namespace Sys2Proof.Machine

/-! ### CAUSE and STAT -/

/-- CAUSE of a trap that is no double trap, as a number (R51). -/
theorem toNat_causeWord (async : Bool) {code : Nat} (h : code < 256) :
    (causeWord async false code).toNat = (if async then 2 ^ 63 else 0) + code := by
  rw [causeWord, BitVec.toNat_ofNat, if_neg Bool.false_ne_true, Nat.add_zero]
  refine Nat.mod_eq_of_lt ?_
  cases async
  · simp; omega
  · simp; omega

/-- STAT as kernel entry leaves it: PPRIV and PIE saved, IE cleared, NEST set, PRIV the kernel's (R61). -/
def kernelStat (st : W) : W :=
  setFld (setBit (setBit (setBit (setFld st 2 2 (fld st 0 2)) 5 (bit st 4)) 4 false) 7 true) 0 2 1

theorem enterKernel_stat (h : Hart) (async : Bool) (code : Nat) (epc tval : W) :
    (enterKernel h async code epc tval).trap.stat = kernelStat h.trap.stat := rfl

/-- PRIV after kernel entry is the kernel's. -/
theorem kernelStat_priv (st : W) : fld (kernelStat st) 0 2 = 1 := fld_setFld_same _ 1 (by decide)

/-- PPRIV after kernel entry is the level that was left. -/
theorem kernelStat_ppriv (st : W) : fld (kernelStat st) 2 2 = fld st 0 2 := by
  calc fld (kernelStat st) 2 2
      = fld (setFld st 2 2 (fld st 0 2)) 2 2 := by
        rw [kernelStat, fld_setFld_other _ _ (by decide) (by decide), fld_setBit_other _ _ (by decide) (by decide),
          fld_setBit_other _ _ (by decide) (by decide), fld_setBit_other _ _ (by decide) (by decide)]
    _ = fld st 0 2 % 2 ^ 2 := fld_setFld_same _ _ (by decide)
    _ = fld st 0 2 := Nat.mod_eq_of_lt (fld_lt st 0 2)

/-- The bits of STAT above PRIV and outside PPRIV after kernel entry: NEST is set, IE cleared, PIE saved, the rest as
before. -/
theorem bit_kernelStat (st : W) {k : Nat} (h : k ∉ [0, 1, 2, 3]) :
    bit (kernelStat st) k = if k = 7 then true else if k = 4 then false else if k = 5 then bit st 4 else bit st k := by
  simp only [List.mem_cons, List.not_mem_nil, or_false, not_or] at h
  have priv : ¬ (0 ≤ k ∧ k < 0 + 2) := by omega
  have ppriv : ¬ (2 ≤ k ∧ k < 2 + 2) := by omega
  rw [kernelStat, bit_setFld _ _ _ (by decide), if_neg priv, bit_setBit _ _ _ (by decide), bit_setBit _ _ _ (by decide),
    bit_setBit _ _ _ (by decide), bit_setFld _ _ _ (by decide), if_neg ppriv]

/-! ### The hart that takes the trap -/

theorem stopVector_fflags (h : Hart) (f : Option VFault) : (stopVector h f).fflags = h.fflags := by
  unfold stopVector
  split <;> rfl

theorem stopped_trap (h : Hart) (f : Option VFault) : (stopped h f).trap = h.trap := stopVector_trap h f
theorem stopped_g (h : Hart) (f : Option VFault) : (stopped h f).g = h.g := (stopVector_g h f).1
theorem stopped_gpois (h : Hart) (f : Option VFault) : (stopped h f).gpois = h.gpois := (stopVector_g h f).2
theorem stopped_fflags (h : Hart) (f : Option VFault) : (stopped h f).fflags = h.fflags := stopVector_fflags h f

/-! ### A change of the moving hart alone -/

/-- A change of the moving hart leaves every other hart, and all that belongs to none. -/
theorem onlyMe_setMe (s : State) (h : Hart) : OnlyMe s (s.setMe h) := ⟨rfl, fun _ e => hart_setMe_other s h e⟩

/-- A change of the moving hart that leaves its g registers and their poison leaves each of them. -/
theorem sameGBut_setMe (s : State) (h : Hart) (ds : List Nat) (hg : h.g = s.me.g) (hp : h.gpois = s.me.gpois) :
    SameGBut s (s.setMe h) ds := by
  intro r _ _
  rw [SameG, me_setMe]
  exact ⟨by rw [Hart.rd, Hart.rd, hg], by rw [Hart.rdP, Hart.rdP, hp]⟩

end Sys2Proof.Machine
end

section
/-! PROOF. Kernel trap entry (R61). -/

namespace Sys2Proof.Machine

/-- Settles O14: at user or kernel level outside a handler the trap is kernel entry of the stopped hart (`takeTrap_kernel`),
and STAT is `kernelStat` of the old one. -/
theorem trapEntersKernel : Obligations.TrapEntersKernel := by
  unfold Obligations.TrapEntersKernel
  intro s async code epc tval level outside hcode
  have entry : takeTrap s async code epc tval none = s.setMe (enterKernel (stopped s.me none) async code epc tval) :=
    takeTrap_kernel s async code epc tval none (by omega) (by rw [outside, Bool.and_false])
  have stat : (enterKernel (stopped s.me none) async code epc tval).trap.stat = kernelStat s.me.trap.stat := by
    rw [enterKernel_stat, stopped_stat]
  dsimp only
  rw [entry, me_setMe, stat]
  refine ⟨rfl, toNat_causeWord async hcode, rfl, kernelStat_ppriv _, bit_kernelStat _ (by decide),
    bit_kernelStat _ (by decide), bit_kernelStat _ (by decide), kernelStat_priv _,
    congrArg TrapRegs.tbase (stopped_trap s.me none), ?rest, onlyMe_setMe s _,
    sameGBut_setMe s _ [] (stopped_g s.me none) (stopped_gpois s.me none), stopped_fflags s.me none, rfl⟩
  case rest =>
    intro k _ written
    simp only [List.mem_cons, List.not_mem_nil, or_false, not_or] at written
    obtain ⟨h0, h1, h2, h3, h4, h5, h7⟩ := written
    rw [bit_kernelStat _ (by simp [h0, h1, h2, h3]), if_neg h7, if_neg h4, if_neg h5]

end Sys2Proof.Machine
end

section
/-! SUPPORT. The integer operations of R117 as integers: each operation on dwords gives the integer of the manual's table,
modulo 2^64. -/

namespace Sys2Proof.Rules

open Sys2Proof.Machine

/-- A dword as the integer of its unsigned value. -/
theorem ofInt_toNat (a : W) : BitVec.ofInt 64 a.toNat = a := by
  rw [BitVec.ofInt_natCast, BitVec.ofNat_toNat, BitVec.setWidth_eq]

/-! ### Sums, products and quotients (R117, R118) -/

theorem add_eq_ofInt (a b : W) : a + b = BitVec.ofInt 64 (a.toInt + b.toInt) := by
  rw [BitVec.ofInt_add, BitVec.ofInt_toInt, BitVec.ofInt_toInt]

theorem sub_eq_ofInt (a b : W) : a - b = BitVec.ofInt 64 (a.toInt - b.toInt) := by
  rw [Int.sub_eq_add_neg, BitVec.ofInt_add, BitVec.ofInt_neg, BitVec.ofInt_toInt, BitVec.ofInt_toInt, BitVec.sub_eq_add_neg]

theorem mul_eq_ofInt (a b : W) : a * b = BitVec.ofInt 64 (a.toInt * b.toInt) := by
  rw [BitVec.ofInt_mul, BitVec.ofInt_toInt, BitVec.ofInt_toInt]

theorem opMulh_eq_ofInt (a b : W) : opMulh a b = BitVec.ofInt 64 ((a.toInt * b.toInt).fdiv (2 ^ 64)) := by
  rw [opMulh, Int.fdiv_eq_ediv_of_nonneg _ (by decide)]

theorem opMulhu_eq_ofInt (a b : W) : opMulhu a b = BitVec.ofInt 64 (a.toNat * b.toNat / 2 ^ 64 : Nat) :=
  (BitVec.ofInt_natCast 64 _).symm

theorem opDiv_eq_sdiv (a b : W) : opDiv a b = BitVec.ofInt 64 (sdiv a b) := by
  unfold opDiv sdiv
  split
  · rfl
  · rfl

theorem opDivu_eq_udiv (a b : W) : opDivu a b = BitVec.ofInt 64 (udiv a b) := by
  unfold opDivu udiv
  split
  · rfl
  · exact (BitVec.ofInt_natCast 64 _).symm

theorem opMod_eq_smod (a b : W) : opMod a b = BitVec.ofInt 64 (smod a b) := by
  unfold opMod smod
  split
  · exact BitVec.ofInt_toInt.symm
  · rw [Int.tmod_def, Int.mul_comm]

theorem opModu_eq_umod (a b : W) : opModu a b = BitVec.ofInt 64 (umod a b) := by
  have rest : (a.toNat : Int) - (a.toNat / b.toNat : Nat) * b.toNat = (a.toNat % b.toNat : Nat) := by
    rw [Int.natCast_emod, Int.natCast_ediv, Int.emod_def, Int.mul_comm]
  unfold opModu umod
  split
  · exact (ofInt_toNat a).symm
  · rw [rest, BitVec.ofInt_natCast]

/-! ### Shifts (R117) -/

theorem ofInt_two_pow (n : Nat) : BitVec.ofInt 64 (2 ^ n) = BitVec.twoPow 64 n := by
  have cast : (2 ^ n : Int) = (2 ^ n : Nat) := (Int.natCast_pow 2 n).symm
  rw [cast, BitVec.ofInt_natCast]
  exact BitVec.eq_of_toNat_eq (by rw [BitVec.toNat_ofNat, BitVec.toNat_twoPow])

theorem opShl_eq_ofInt (a b : W) : opShl a b = BitVec.ofInt 64 (a.toInt * 2 ^ low6 b) := by
  rw [BitVec.ofInt_mul, BitVec.ofInt_toInt, ofInt_two_pow]
  exact BitVec.shiftLeft_eq_mul_twoPow a (low6 b)

theorem opShr_eq_ofInt (a b : W) : opShr a b = BitVec.ofInt 64 (a.toNat / 2 ^ low6 b : Nat) := by
  have shifted : (opShr a b).toNat = a.toNat / 2 ^ low6 b := by
    rw [opShr, BitVec.toNat_ushiftRight, Nat.shiftRight_eq_div_pow, low6]
  rw [← shifted, ofInt_toNat]

theorem opSar_eq_ofInt (a b : W) : opSar a b = BitVec.ofInt 64 (a.toInt.fdiv (2 ^ low6 b)) := by
  have shifted : (opSar a b).toInt = a.toInt.fdiv (2 ^ low6 b) := by
    rw [opSar, BitVec.toInt_sshiftRight, Int.shiftRight_eq_div_pow, low6, Int.natCast_pow, Int.cast_ofNat_Int,
      Int.fdiv_eq_ediv_of_nonneg _ (Int.pow_nonneg (by decide))]
  rw [← shifted, BitVec.ofInt_toInt]

/-! ### Comparisons and extremes (R117) -/

theorem opLt_eq_flag (a b : W) : opLt a b = BitVec.ofInt 64 (flag (a.toInt < b.toInt)) := by
  unfold opLt flag
  split
  · rfl
  · rfl

theorem opLtu_eq_flag (a b : W) : opLtu a b = BitVec.ofInt 64 (flag (a.toNat < b.toNat)) := by
  unfold opLtu flag
  split
  · rfl
  · rfl

theorem opMin_eq_ofInt (a b : W) : opMin a b = BitVec.ofInt 64 (Min.min a.toInt b.toInt) := by
  unfold opMin
  split
  · next h => rw [Int.min_eq_right (Int.le_of_lt h), BitVec.ofInt_toInt]
  · next h => rw [Int.min_eq_left (Int.not_lt.mp h), BitVec.ofInt_toInt]

theorem opMax_eq_ofInt (a b : W) : opMax a b = BitVec.ofInt 64 (Max.max a.toInt b.toInt) := by
  unfold opMax
  split
  · next h => rw [Int.max_eq_right (Int.le_of_lt h), BitVec.ofInt_toInt]
  · next h => rw [Int.max_eq_left (Int.not_lt.mp h), BitVec.ofInt_toInt]

theorem opMinu_eq_ofInt (a b : W) : opMinu a b = BitVec.ofInt 64 (Min.min a.toNat b.toNat : Nat) := by
  unfold opMinu
  split
  · next h => rw [Nat.min_eq_right (Nat.le_of_lt h), ofInt_toNat]
  · next h => rw [Nat.min_eq_left (Nat.not_lt.mp h), ofInt_toNat]

theorem opMaxu_eq_ofInt (a b : W) : opMaxu a b = BitVec.ofInt 64 (Max.max a.toNat b.toNat : Nat) := by
  unfold opMaxu
  split
  · next h => rw [Nat.max_eq_right (Nat.le_of_lt h), ofInt_toNat]
  · next h => rw [Nat.max_eq_left (Nat.not_lt.mp h), ofInt_toNat]

/-! ### Counts of bits (R117) -/

theorem clz_toNat (a : W) : clz 64 a.toNat = if a = 0 then 64 else 63 - Nat.log2 a.toNat := by
  have zero : a.toNat = 0 ↔ a = 0 := BitVec.toNat_eq (y := 0#64).symm
  simp [clz, zero]

theorem ctz_eq_find (n x : Nat) : ctz n x = ((List.range n).find? x.testBit).getD n := by
  induction n generalizing x with
  | zero => rfl
  | succ n ih =>
    have rest : x.testBit ∘ Nat.succ = (x / 2).testBit := funext fun i => Nat.testBit_succ x i
    rw [ctz, ih, List.range_succ_eq_map, List.find?_cons, List.find?_map, rest, Nat.testBit_zero]
    by_cases odd : x % 2 = 1
    · simp [odd]
    · cases (List.range n).find? (x / 2).testBit <;> simp [odd, Nat.add_comm]

theorem ctz_toNat (a : W) : ctz 64 a.toNat = ((List.range 64).find? fun i => a.getLsbD i).getD 64 :=
  ctz_eq_find 64 a.toNat

theorem popc_eq_filter (n x : Nat) : popc n x = ((List.range n).filter x.testBit).length := by
  induction n generalizing x with
  | zero => rfl
  | succ n ih =>
    have rest : x.testBit ∘ Nat.succ = (x / 2).testBit := funext fun i => Nat.testBit_succ x i
    rw [popc, ih, List.range_succ_eq_map, List.filter_cons, List.filter_map, rest, Nat.testBit_zero]
    obtain odd | even := Nat.mod_two_eq_zero_or_one x
    · simp [odd]
    · simp [even, Nat.add_comm]

theorem popc_toNat (a : W) : popc 64 a.toNat = ((List.range 64).filter fun i => a.getLsbD i).length :=
  popc_eq_filter 64 a.toNat

/-! ### Addresses relative to PC (R121, R125, R126) -/

/-- The address at a signed offset in words from PC. -/
theorem branchTarget_eq_ofInt (pc : W) {n : Nat} (off : BitVec n) (h : n ≤ 64) :
    branchTarget pc off = BitVec.ofInt 64 (pc.toInt + off.toInt * 4) := by
  have words : (off.signExtend 64) <<< 2 = BitVec.ofInt 64 (off.toInt * 4) := by
    rw [BitVec.ofInt_mul, ← BitVec.toInt_signExtend_of_le h, BitVec.ofInt_toInt, BitVec.shiftLeft_eq_mul_twoPow]
    rfl
  rw [branchTarget, words, BitVec.ofInt_add, BitVec.ofInt_toInt]

end Sys2Proof.Rules
end

section
/-! PROOF. The scalar integer instructions (R117 to R121): each ends in the write of its result. -/

namespace Sys2Proof.Rules

open Sys2Proof.Machine

/-! ### The write of a result -/

/-- The result is poisoned if a source is (R409). -/
def Result.poisoned (s : State) (r : Result) : Bool := r.srcs.any fun q => s.me.rdP q.toNat

/-- A scalar instruction that writes this result. -/
def writeResult (s : State) (r : Result) : Out := scalar s r.regs (writeBack s r.d r.val (r.poisoned s))

/-- The state in which this result is written and PC has advanced (R41, R43, R409). -/
def completed (s : State) (r : Result) : State :=
  s.setMe { s.me.wrP r.d.toNat r.val (r.poisoned s) with pc := nextPc s.me.pc }

/-- A result is written unless its registers must be waited for (R172) or a farm bars its destination (R176). -/
theorem writeResult_completes {s : State} {r : Result} (wait : mustWait s.me r.regs = false)
    (bar : farmBars s.me r.d = false) : writeResult s r = .next (completed s r) := by
  rw [writeResult, writeBack_ok r.val (r.poisoned s) bar, scalar_ok wait, completed, Hart.adv, wrP_pc]

/-! ### The forms of operation -/

/-- A register operation writes its value on the two sources (R117). -/
theorem alu_writes {s : State} {op : W → W → W} {f : FS} {r : Result}
    (rule : some ⟨f.a, [f.b, f.c], op (gv s f.b) (gv s f.c)⟩ = some r) : alu op f s = writeResult s r := by
  obtain rfl := Option.some.inj rule
  simp only [writeResult, Result.poisoned, List.any_cons, List.any_nil, Bool.or_false]
  rfl

/-- A register operation whose value is an integer of the table (R117). -/
theorem alu_writes_int {s : State} {op : W → W → W} {x : W → W → Int} {f : FS} {r : Result}
    (value : ∀ a b, op a b = BitVec.ofInt 64 (x a b)) (rule : two (gv s) f x = some r) : alu op f s = writeResult s r :=
  alu_writes (by rw [value]; exact rule)

/-- A one-source operation whose value is a count of the table (R117). -/
theorem alu1_writes {s : State} (n : W → Nat) {x : W → Nat} {f : FS} {r : Result} (value : ∀ a, n a = x a)
    (rule : one (gv s) f x = some r) : alu1 (fun a => BitVec.ofNat 64 (n a)) f s = writeResult s r := by
  obtain rfl := Option.some.inj rule
  simp only [writeResult, Result.poisoned, List.any_cons, List.any_nil, Bool.or_false, ← value]
  rfl

/-- An immediate operation writes its value on the source and the extended immediate (R119). -/
theorem aluK_writes {s : State} {op : W → W → W} {k : BitVec 12 → W} {f : FI} {r : Result}
    (rule : some ⟨f.a, [f.b], op (gv s f.b) (k f.imm)⟩ = some r) : aluK op k f s = writeResult s r := by
  obtain rfl := Option.some.inj rule
  simp only [writeResult, Result.poisoned, List.any_cons, List.any_nil, Bool.or_false]
  rfl

/-- An immediate operation whose value is an integer of the table (R119). -/
theorem aluK_writes_int {s : State} {op : W → W → W} {x : W → W → Int} {k : BitVec 12 → W} {f : FI} {r : Result}
    (value : ∀ a b, op a b = BitVec.ofInt 64 (x a b)) (rule : imm (gv s) f (k f.imm) x = some r) :
    aluK op k f s = writeResult s r :=
  aluK_writes (by rw [value]; exact rule)

theorem execHigh_writes {s : State} {f : FU} {r : Result}
    (rule : some ⟨f.a, [], BitVec.ofNat 64 (f.imm.toNat * 2 ^ 47)⟩ = some r) : execHigh f s = writeResult s r := by
  obtain rfl := Option.some.inj rule
  rfl

/-- PCREL writes the address that a jump with its offset goes to (R121). -/
theorem execPcrel_writes {s : State} {f : FU} {r : Result}
    (rule : some ⟨f.a, [], BitVec.ofInt 64 (s.me.pc.toInt + f.imm.toInt * 4)⟩ = some r) :
    execPcrel f s = writeResult s r := by
  rw [← branchTarget_eq_ofInt s.me.pc f.imm (by decide)] at rule
  obtain rfl := Option.some.inj rule
  rfl

/-! ### Every scalar integer instruction -/

/-- Every scalar integer instruction is the write of its result. -/
theorem exec_scalar {s : State} {i : Instr} {r : Result} (rule : scalarRule (gv s) s.me.pc i = some r) :
    exec i s = writeResult s r := by
  cases i with
  | add f => exact alu_writes_int add_eq_ofInt rule
  | sub f => exact alu_writes_int sub_eq_ofInt rule
  | mul f => exact alu_writes_int mul_eq_ofInt rule
  | mulh f => exact alu_writes_int opMulh_eq_ofInt rule
  | mulhu f => exact alu_writes_int opMulhu_eq_ofInt rule
  | div f => exact alu_writes_int opDiv_eq_sdiv rule
  | divu f => exact alu_writes_int opDivu_eq_udiv rule
  | mod f => exact alu_writes_int opMod_eq_smod rule
  | modu f => exact alu_writes_int opModu_eq_umod rule
  | and f => exact alu_writes rule
  | or f => exact alu_writes rule
  | xor f => exact alu_writes rule
  | shl f => exact alu_writes_int opShl_eq_ofInt rule
  | shr f => exact alu_writes_int opShr_eq_ofInt rule
  | sar f => exact alu_writes_int opSar_eq_ofInt rule
  | cmplt f => exact alu_writes_int opLt_eq_flag rule
  | cmpltu f => exact alu_writes_int opLtu_eq_flag rule
  | min f => exact alu_writes_int opMin_eq_ofInt rule
  | max f => exact alu_writes_int opMax_eq_ofInt rule
  | minu f => exact alu_writes_int opMinu_eq_ofInt rule
  | maxu f => exact alu_writes_int opMaxu_eq_ofInt rule
  | clz f => exact alu1_writes (fun a => clz 64 a.toNat) clz_toNat rule
  | ctz f => exact alu1_writes (fun a => ctz 64 a.toNat) ctz_toNat rule
  | popc f => exact alu1_writes (fun a => popc 64 a.toNat) popc_toNat rule
  | addk f => exact aluK_writes_int add_eq_ofInt rule
  | andk f => exact aluK_writes rule
  | ork f => exact aluK_writes rule
  | xork f => exact aluK_writes rule
  | shlk f => exact aluK_writes_int opShl_eq_ofInt rule
  | shrk f => exact aluK_writes_int opShr_eq_ofInt rule
  | sark f => exact aluK_writes_int opSar_eq_ofInt rule
  | cmpltk f => exact aluK_writes_int opLt_eq_flag rule
  | cmpltuk f => exact aluK_writes_int opLtu_eq_flag rule
  | high f => exact execHigh_writes rule
  | pcrel f => exact execPcrel_writes rule
  | _ => nomatch rule

/-- Settles O4: every scalar integer instruction is the write of its result (`exec_scalar`), which completes. -/
theorem scalarIntegerCompletes : Obligations.ScalarIntegerCompletes := by
  unfold Obligations.ScalarIntegerCompletes
  intro s i r rule wait bar
  rw [exec_scalar rule]
  exact writeResult_completes wait bar

end Sys2Proof.Rules
end

section
/-! PROOF. Division (R118). -/

namespace Sys2Proof.Rules

open Sys2Proof.Machine

/-! ### What a completed instruction leaves -/

/-- A result is read where it was written. -/
theorem completed_rd (s : State) {r : Result} (h : r.d.toNat ≠ 0) : (completed s r).me.rd r.d.toNat = r.val := by
  rw [completed, me_setMe]
  exact rd_wrP_same _ _ _ h

/-- A completed instruction raises no flag, advances PC and takes no trap. -/
theorem completed_plain (s : State) (r : Result) : (completed s r).me.fflags = s.me.fflags ∧
    (completed s r).me.pc = nextPc s.me.pc ∧ (completed s r).me.trap = s.me.trap := by
  rw [completed, me_setMe]
  exact ⟨wrP_fflags _ _ _ _, rfl, wrP_trap _ _ _ _⟩

/-! ### The borderline operands -/

/-- The result of a division, with the quotient or remainder as an integer. -/
def divided (s : State) (f : FS) (x : W → W → Int) : Result := ⟨f.a, [f.b, f.c], BitVec.ofInt 64 (x (gv s f.b) (gv s f.c))⟩

/-- Division by zero gives all ones, and the dividend as the remainder. -/
theorem divided_zero {s : State} {f : FS} (zero : gv s f.c = 0) :
    (divided s f sdiv).val = 0xFFFFFFFFFFFFFFFF#64 ∧ (divided s f udiv).val = 0xFFFFFFFFFFFFFFFF#64 ∧
      (divided s f smod).val = gv s f.b ∧ (divided s f umod).val = gv s f.b := by
  simp only [divided, zero]
  exact ⟨rfl, rfl, BitVec.ofInt_toInt, ofInt_toNat _⟩

/-- The most negative number by −1, or the unsigned 2^63 by 2^64 − 1. -/
theorem divided_overflow {s : State} {f : FS} (least : gv s f.b = 0x8000000000000000#64)
    (ones : gv s f.c = 0xFFFFFFFFFFFFFFFF#64) :
    (divided s f sdiv).val = 0x8000000000000000#64 ∧ (divided s f udiv).val = 0 ∧
      (divided s f smod).val = 0 ∧ (divided s f umod).val = gv s f.b := by
  simp only [divided, least, ones]
  decide

/-- Settles O6: the four divisions complete (`scalarIntegerCompletes`), with the integers of the table on the borderline
operands. -/
theorem divisionBorderlines : Obligations.DivisionBorderlines := by
  unfold Obligations.DivisionBorderlines
  intro s f notZero wait bar
  have complete : ∀ (i : Instr) (x : W → W → Int), scalarRule (gv s) s.me.pc i = some (divided s f x) →
      exec i s = .next (completed s (divided s f x)) := fun i x rule => scalarIntegerCompletes s i _ rule wait bar
  have dest : f.a.toNat ≠ 0 := fun h => notZero (BitVec.eq_of_toNat_eq h)
  have read : ∀ x : W → W → Int, (completed s (divided s f x)).me.rd f.a.toNat = (divided s f x).val :=
    fun x => completed_rd s (r := divided s f x) dest
  refine ⟨_, _, _, _, complete _ sdiv rfl, complete _ udiv rfl, complete _ smod rfl, complete _ umod rfl, ?plain, ?zero,
    ?overflow⟩
  case plain =>
    simp only [List.forall_mem_cons]
    exact ⟨completed_plain s _, completed_plain s _, completed_plain s _, completed_plain s _,
      List.forall_mem_nil _⟩
  case zero =>
    simp only [read]
    exact divided_zero
  case overflow =>
    simp only [read]
    exact divided_overflow

end Sys2Proof.Rules
end

section
/-! PROOF. Branches and jumps (R125 to R127). -/

namespace Sys2Proof.Rules

open Sys2Proof.Machine

/-- A branch whose operands are not poisoned goes to its target or to the next instruction (R125). -/
theorem branch_completes {s : State} {f : FI} (c : W → W → Bool) (wait : mustWait s.me [f.a.toNat, f.b.toNat] = false)
    (cleanA : s.me.rdP f.a.toNat = false) (cleanB : s.me.rdP f.b.toNat = false) :
    branch c f s = .next (s.setMe { s.me with
      pc := if c (gv s f.a) (gv s f.b) then BitVec.ofInt 64 (s.me.pc.toInt + f.imm.toInt * 4) else nextPc s.me.pc }) := by
  have clean : ¬(s.me.rdP f.a.toNat || s.me.rdP f.b.toNat) = true := by simp [cleanA, cleanB]
  rw [branch, if_neg clean, scalar_ok wait, branchTarget_eq_ofInt _ _ (by decide)]
  unfold gv
  cases c (s.me.rd f.a.toNat) (s.me.rd f.b.toNat)
  · rfl
  · rfl

/-- The conditions of the model are those of the manual's table. -/
theorem exec_branch {s : State} {i : Instr} {f : FI} {c : W → W → Bool} (rule : branchRule i = some (f, c)) :
    exec i s = branch c f s := by
  cases i with
  | bne g =>
    have cond : (fun a b : W => decide (a ≠ b)) = fun a b => a != b := by
      funext a b
      exact decide_not
    rw [branchRule, cond] at rule
    cases rule
    rfl
  | beq | blt | bge | bltu | bgeu => cases rule; rfl
  | _ => nomatch rule

/-- JL goes to its target, unless a farm bars its destination (R126, R176). -/
theorem jl_completes {s : State} {f : FU} (wait : mustWait s.me [f.a.toNat] = false) (bar : farmBars s.me f.a = false) :
    exec (.jl f) s = .next (s.setMe { s.me.wr f.a.toNat (s.me.pc + 4) with
      pc := BitVec.ofInt 64 (s.me.pc.toInt + f.imm.toInt * 4) }) := by
  have run : exec (.jl f) s = execJl f s := rfl
  rw [run, execJl, if_neg (Bool.eq_false_iff.mp bar), scalar_ok wait, branchTarget_eq_ofInt _ _ (by decide)]

/-- JLR goes to a target that is a multiple of 4 and not poisoned, unless a farm bars its destination (R127, R176). -/
theorem jlr_completes {s : State} {f : FI} (wait : mustWait s.me [f.a.toNat, f.b.toNat] = false)
    (bar : farmBars s.me f.a = false) (clean : s.me.rdP f.b.toNat = false)
    (aligned : (gv s f.b + f.imm.signExtend 64).toNat % 4 = 0) :
    exec (.jlr f) s = .next (s.setMe { s.me.wr f.a.toNat (s.me.pc + 4) with pc := gv s f.b + f.imm.signExtend 64 }) := by
  have run : exec (.jlr f) s = execJlr f s := rfl
  have low : ¬fld (s.me.rd f.b.toNat + simm f.imm) 0 2 ≠ 0 := by
    rw [Decidable.not_not, fld, Nat.pow_zero, Nat.div_one]
    exact aligned
  rw [run, execJlr, if_neg (Bool.eq_false_iff.mp bar), if_neg (Bool.eq_false_iff.mp clean), if_neg low, scalar_ok wait]
  rfl

/-- Settles O7: a branch by its condition (`branch_completes`), JL and JLR by their target. -/
theorem branchesAndJumpsComplete : Obligations.BranchesAndJumpsComplete := by
  unfold Obligations.BranchesAndJumpsComplete
  refine ⟨fun s i f c rule wait cleanA cleanB => ?_, fun s f => jl_completes, fun s f => jlr_completes⟩
  rw [exec_branch rule]
  exact branch_completes c wait cleanA cleanB

end Sys2Proof.Rules
end

section
/-! SUPPORT. The integer operations of R190 and R191 on elements: each gives the integer of the manual's table, wrapped or
saturated. -/

namespace Sys2Proof.Rules

open Sys2Proof.Machine

/-! ### Wrapped integers -/

/-- A natural number wrapped to `n` bits. -/
theorem wrap_natCast (n x : Nat) : wrap n (x : Int) = x % 2 ^ n := by
  rw [wrap, ← Int.natCast_emod, Int.toNat_natCast]

/-- A natural number of `n` bits is its own wrapping. -/
theorem wrap_of_lt {n x : Nat} (h : x < 2 ^ n) : wrap n (x : Int) = x := by
  rw [wrap_natCast, Nat.mod_eq_of_lt h]

/-- Wrapping does not see a multiple of 2^n. -/
theorem wrap_sub_two_pow (n : Nat) (x : Int) : wrap n (x - (2 ^ n : Nat)) = wrap n x := by
  rw [wrap, Int.sub_emod_right, wrap]

/-- An element read signed wraps to itself. -/
theorem wrap_sg {n a : Nat} (h : a < 2 ^ n) : wrap n (sg n a) = a := by
  simp only [sg, sInt, Nat.mod_eq_of_lt h]
  split
  · exact wrap_of_lt h
  · rw [wrap_sub_two_pow, wrap_of_lt h]

/-- The least negative number of `n` bits wraps to its pattern. -/
theorem wrap_neg_half {n : Nat} (h : 0 < n) : wrap n (-(2 ^ (n - 1) : Nat)) = 2 ^ (n - 1) := by
  have double : 2 ^ n = 2 ^ (n - 1) + 2 ^ (n - 1) := by
    rw [← Nat.two_mul, Nat.mul_comm, ← Nat.pow_succ, Nat.succ_eq_add_one, Nat.sub_add_cancel h]
  have shifted : (-(2 ^ (n - 1) : Nat) : Int) = (2 ^ (n - 1) : Nat) - (2 ^ n : Nat) := by omega
  rw [shifted, wrap_sub_two_pow, wrap_of_lt (Nat.pow_lt_pow_right (by decide) (by omega))]

/-! ### What an operation computes -/

/-- The flag of a saturated value (R191). -/
def satFlag (r : Bool) : Flags := if r then fSAT else 0

/-- An operation of the model gives, on elements of `n > 0` bits, the value of the table and SAT as the table has it. -/
def Computes (e : Nat → Nat → Nat → Nat × Flags) (op : Nat → Nat → Nat → Nat × Bool) : Prop :=
  ∀ n a b : Nat, 0 < n → a < 2 ^ n → b < 2 ^ n → e n a b = ((op n a b).1, satFlag (op n a b).2)

/-- An operation without a flag computes an integer of the table when it gives that integer wrapped. -/
theorem computes_wraps {e : Nat → Nat → Nat → Nat} {x : Nat → Nat → Nat → Int}
    (value : ∀ n a b : Nat, a < 2 ^ n → b < 2 ^ n → e n a b = wrap n (x n a b)) : Computes (quiet e) (wraps x) := by
  intro n a b _ ha hb
  rw [quiet, value n a b ha hb]
  rfl

/-- Nothing is to be wrapped where the integer of the table is a number of `n` bits. -/
theorem computes_of_lt {e x : Nat → Nat → Nat → Nat}
    (value : ∀ n a b : Nat, e n a b = x n a b) (fits : ∀ n a b : Nat, a < 2 ^ n → b < 2 ^ n → x n a b < 2 ^ n) :
    Computes (quiet e) (wraps fun n a b => x n a b) :=
  computes_wraps fun n a b ha hb => (value n a b).trans (wrap_of_lt (fits n a b ha hb)).symm

/-! ### The operations without a flag (R190) -/

theorem computes_add : Computes (quiet eAdd) vAdd := computes_wraps fun n a b _ _ => (wrap_natCast n (a + b)).symm

theorem computes_sub : Computes (quiet eSub) vSub := computes_wraps fun _ _ _ _ _ => rfl

theorem computes_rsub : Computes (quiet eRsub) vRsub := computes_wraps fun _ _ _ _ _ => rfl

theorem computes_mul : Computes (quiet eMul) vMul := computes_wraps fun n a b _ _ => (wrap_natCast n (a * b)).symm

theorem computes_mulh : Computes (quiet eMulh) vMulh := by
  refine computes_wraps fun n a b _ _ => ?_
  rw [Int.fdiv_eq_ediv_of_nonneg _ (Int.pow_nonneg (by decide))]
  rfl

theorem computes_mulhu : Computes (quiet eMulhu) vMulhu :=
  computes_of_lt (fun _ _ _ => rfl) fun _ _ _ ha hb => Nat.div_lt_of_lt_mul (Nat.mul_lt_mul'' ha hb)

/-- −1, the quotient by zero, is all ones. -/
theorem computes_div : Computes (quiet eDiv) vDiv := by
  refine computes_wraps fun n a b _ _ => ?_
  have pos : 0 < 2 ^ n := Nat.two_pow_pos n
  have ones : (-1 : Int) = (2 ^ n - 1 : Nat) - (2 ^ n : Nat) := by omega
  unfold eDiv
  split
  · rw [ones, wrap_sub_two_pow, wrap_of_lt (Nat.sub_lt pos (by decide))]
  · rfl

theorem computes_mod : Computes (quiet eMod) vMod := by
  refine computes_wraps fun n a b ha _ => ?_
  unfold eMod
  split
  · exact (wrap_of_lt ha).symm
  · rw [Int.tmod_def, Int.mul_comm]
    rfl

theorem computes_and : Computes (quiet eAnd) vAnd :=
  computes_of_lt (fun _ _ _ => rfl) fun _ _ _ ha _ => Nat.lt_of_le_of_lt Nat.and_le_left ha

theorem computes_or : Computes (quiet eOr) vOr :=
  computes_of_lt (fun _ _ _ => rfl) fun _ _ _ ha hb => Nat.or_lt_two_pow ha hb

theorem computes_xor : Computes (quiet eXor) vXor :=
  computes_of_lt (fun _ _ _ => rfl) fun _ _ _ ha hb => Nat.xor_lt_two_pow ha hb

theorem computes_shl : Computes (quiet eShl) vShl :=
  computes_wraps fun n a b _ _ => (wrap_natCast n (a * 2 ^ (b % n))).symm

theorem computes_shr : Computes (quiet eShr) vShr :=
  computes_of_lt (fun _ _ _ => rfl) fun _ _ _ ha _ => Nat.lt_of_le_of_lt (Nat.div_le_self _ _) ha

theorem computes_sar : Computes (quiet eSar) vSar := by
  refine computes_wraps fun n a b _ _ => ?_
  rw [Int.fdiv_eq_ediv_of_nonneg _ (Int.pow_nonneg (by decide))]
  rfl

theorem computes_min : Computes (quiet eMin) vMin := by
  refine computes_wraps fun n a b ha hb => ?_
  by_cases h : sg n b < sg n a
  · rw [Int.min_eq_right (Int.le_of_lt h), wrap_sg hb]
    exact if_pos h
  · rw [Int.min_eq_left (Int.not_lt.mp h), wrap_sg ha]
    exact if_neg h

theorem computes_max : Computes (quiet eMax) vMax := by
  refine computes_wraps fun n a b ha hb => ?_
  by_cases h : sg n a < sg n b
  · rw [Int.max_eq_right (Int.le_of_lt h), wrap_sg hb]
    exact if_pos h
  · rw [Int.max_eq_left (Int.not_lt.mp h), wrap_sg ha]
    exact if_neg h

theorem computes_minu : Computes (quiet eMinu) vMinu :=
  computes_of_lt (fun _ _ _ => rfl) fun _ a b ha _ => Nat.lt_of_le_of_lt (Nat.min_le_left a b) ha

theorem computes_maxu : Computes (quiet eMaxu) vMaxu :=
  computes_of_lt (fun _ _ _ => rfl) fun _ _ _ ha hb => Nat.max_lt.mpr ⟨ha, hb⟩

theorem computes_clz : Computes (quiet fun n a _ => clz n a)
    (wraps fun n a _ => if a = 0 then n else (n - 1 - Nat.log2 a : Nat)) := by
  refine computes_wraps fun n a _ _ _ => ?_
  have fits : n < 2 ^ n := Nat.lt_two_pow_self
  unfold clz
  split
  · exact (wrap_of_lt fits).symm
  · exact (wrap_of_lt (by omega)).symm

theorem computes_popc : Computes (quiet fun n a _ => popc n a)
    (wraps fun n a _ => ((List.range n).filter fun i => a.testBit i).length) := by
  refine computes_of_lt (fun n a _ => popc_eq_filter n a) fun n a _ _ _ => ?_
  calc ((List.range n).filter fun i => a.testBit i).length ≤ (List.range n).length := List.length_filter_le _ _
    _ = n := List.length_range
    _ < 2 ^ n := Nat.lt_two_pow_self

/-! ### The saturating operations (R191) -/

/-- An integer clamped to the range of `n` signed bits. -/
def clamped (n : Nat) (y : Int) : Int := max (-(2 ^ (n - 1) : Nat)) (min y ((2 ^ (n - 1) : Nat) - 1))

/-- Whether the range of `n` signed bits leaves an integer out. -/
def outOfRange (n : Nat) (y : Int) : Bool := decide (y < -(2 ^ (n - 1) : Nat) ∨ ((2 ^ (n - 1) : Nat) - 1 : Int) < y)

/-- Saturation is the clamped value, with SAT when the integer is out of range. -/
theorem saturate_eq {n : Nat} (h : 0 < n) (y : Int) :
    saturate n y = (wrap n (clamped n y), satFlag (outOfRange n y)) := by
  have half : (2 ^ (n - 1) : Int) = (2 ^ (n - 1) : Nat) := (Int.natCast_pow 2 (n - 1)).symm
  have pos : 0 < 2 ^ (n - 1) := Nat.two_pow_pos _
  have below : 2 ^ (n - 1) - 1 < 2 ^ n :=
    Nat.lt_of_le_of_lt (Nat.sub_le _ _) (Nat.pow_lt_pow_right (by decide) (by omega))
  unfold saturate
  rw [half]
  split
  · next low =>
    have least : clamped n y = -(2 ^ (n - 1) : Nat) := by unfold clamped; omega
    rw [least, wrap_neg_half h, outOfRange, decide_eq_true (Or.inl low)]
    rfl
  · next notLow =>
    split
    · next high =>
      have greatest : clamped n y = (2 ^ (n - 1) - 1 : Nat) := by unfold clamped; omega
      rw [greatest, wrap_of_lt below, outOfRange, decide_eq_true (Or.inr high)]
      rfl
    · next notHigh =>
      have same : clamped n y = y := by unfold clamped; omega
      rw [same, outOfRange, decide_eq_false (not_or.mpr ⟨notLow, notHigh⟩)]
      rfl

theorem computes_adds : Computes eAdds vAdds := fun _ _ _ hn _ _ => saturate_eq hn _

theorem computes_subs : Computes eSubs vSubs := fun _ _ _ hn _ _ => saturate_eq hn _

end Sys2Proof.Rules
end

section
/-! SUPPORT. Elements in lanes and the end of a vector command: the range of an element, what the writes of elements and
mask bits leave, the operands that R99 and R100 let through, and the state that a completed command leaves. -/

namespace Sys2Proof.Machine

/-! ### Elements (R151) -/

/-- An element has SEW bits. -/
theorem elemGet_lt (v : VecRegs) (a : Lay) (b i : Nat) : elemGet v a b i < 2 ^ a.sew := by
  have word : ∀ r l, laneWord v r l < 2 ^ 32 := fun r l => Nat.mod_lt _ (Nat.two_pow_pos _)
  have pair : ∀ r l r' l', a.sew = 64 → laneWord v r l + 2 ^ 32 * laneWord v r' l' < 2 ^ a.sew := by
    intro r l r' l' h
    have low := word r l
    have high := word r' l'
    rw [h]
    omega
  unfold elemGet elemWords
  by_cases half : a.half = true
  · have wide : a.sew = 64 := by
      rw [Lay.half, Bool.and_eq_true, beq_iff_eq] at half
      exact half.1
    rw [if_pos half]
    exact pair _ _ _ _ wide
  · rw [if_neg half]
    by_cases wide : a.sew = 64
    · simp only [if_pos wide]
      exact pair _ _ _ _ wide
    · simp only [if_neg wide]
      exact Nat.mod_lt _ (Nat.two_pow_pos _)

/-! ### What the writes of elements and mask bits leave -/

theorem wordPut_gsctl (v : VecRegs) (r l lo n x : Nat) : (wordPut v r l lo n x).gsctl = v.gsctl := by
  unfold wordPut
  split
  · rfl
  · rfl

theorem elemPut_gsctl (v : VecRegs) (a : Lay) (b i x : Nat) : (elemPut v a b i x).gsctl = v.gsctl := by
  unfold elemPut
  split
  · exact wordPut_gsctl _ _ _ _ _ _
  · rw [wordPut_gsctl, wordPut_gsctl]
  · rfl

/-- The grant script is no element. -/
@[simp] theorem writeElems_gsctl (v : VecRegs) (a : Lay) (b : Nat) (ws : List EWr) :
    (writeElems v a b ws).gsctl = v.gsctl := by
  have values : (ws.foldl (fun w e => elemPut w a b e.i e.x) v).gsctl = v.gsctl :=
    foldl_keeps (fun w : VecRegs => w.gsctl = v.gsctl) _ (fun _ _ kept => (elemPut_gsctl _ _ _ _ _).trans kept) ws v rfl
  unfold writeElems
  split
  · exact values
  · refine foldl_keeps (fun w : VecRegs => w.gsctl = v.gsctl) _ (fun w e kept => ?_) _ _ values
    exact kept

/-- The grant script is no mask. -/
@[simp] theorem writeMask_gsctl (v : VecRegs) (n : Nat) (bs : List (Nat × Bool)) : (writeMask v n bs).gsctl = v.gsctl := by
  unfold writeMask VecRegs.setMask
  split
  · rfl
  · rfl

@[simp] theorem setPM_gsctl (v : VecRegs) (is : List Nat) : (setPM v is).gsctl = v.gsctl := rfl

/-! ### Operands that R99 and R100 let through -/

/-- A group operand: of extent `g`, from a register that is a multiple of `g` (R99). -/
def Opnd.IsGroup (g : Nat) (o : Opnd) : Prop := o.ext = g ∧ o.reg % g = 0 ∧ o.reg < 32

theorem gOf_bounds : ∀ c : BitVec 2, 1 ≤ gOf c ∧ gOf c ≤ 8 := by decide

theorem gOf_dvd : ∀ c : BitVec 2, gOf c ∣ 32 := by decide

/-- A group does not run past v31, since G divides 32 (R99). -/
theorem Opnd.IsGroup.legal {c : BitVec 2} {o : Opnd} (h : o.IsGroup (gOf c)) : o.legal = true := by
  obtain ⟨ext, multiple, reg⟩ := h
  have size : 1 ≤ gOf c ∧ gOf c ≤ 8 := gOf_bounds c
  have inside : o.reg + gOf c ≤ 32 := by
    obtain ⟨k, hk⟩ := Nat.dvd_of_mod_eq_zero multiple
    obtain ⟨m, hm⟩ := gOf_dvd c
    rw [hk] at reg ⊢
    have below : k < m := Nat.lt_of_mul_lt_mul_left (hm ▸ reg)
    calc gOf c * k + gOf c = gOf c * (k + 1) := (Nat.mul_succ _ _).symm
      _ ≤ gOf c * m := Nat.mul_le_mul_left _ below
      _ = 32 := hm.symm
  simp [Opnd.legal, ext, multiple, size, inside]

/-- Two groups of one extent that share a register are the same group, which R100 allows. -/
theorem Opnd.IsGroup.noClash {g : Nat} {d s : Opnd} (hd : d.IsGroup g) (hs : s.IsGroup g) : d.clash false s = false := by
  obtain ⟨extD, multD, -⟩ := hd
  obtain ⟨extS, multS, -⟩ := hs
  by_cases meet : d.meets s = true
  · have same : d.reg = s.reg := by
      obtain ⟨k, hk⟩ := Nat.dvd_of_mod_eq_zero multD
      obtain ⟨m, hm⟩ := Nat.dvd_of_mod_eq_zero multS
      rw [Opnd.meets, decide_eq_true_eq, extD, extS, hk, hm, ← Nat.mul_succ, ← Nat.mul_succ] at meet
      have km : k < m + 1 := Nat.lt_of_mul_lt_mul_left meet.1
      have mk : m < k + 1 := Nat.lt_of_mul_lt_mul_left meet.2
      rw [hk, hm, Nat.le_antisymm (Nat.lt_succ_iff.mp km) (Nat.lt_succ_iff.mp mk)]
    simp [Opnd.clash, same, extD, extS]
  · simp [Opnd.clash, Bool.eq_false_iff.mpr meet]

/-- Groups of one extent never clash (R100). -/
theorem anyClash_groups {g : Nat} {ops : List Opnd} (groups : ∀ o ∈ ops, o.IsGroup g) : anyClash false ops = false := by
  have clean : ∀ d ∈ ops, ∀ s ∈ ops, d.clash false s = false := fun d hd s hs => (groups d hd).noClash (groups s hs)
  unfold anyClash
  simp only [List.any_eq_false, Bool.and_eq_true, not_and]
  rintro ⟨d, i⟩ hd _
  simp only [Bool.not_eq_true, List.any_eq_false]
  rintro ⟨s, j⟩ hs
  simp [clean d (List.of_mem_zip hd).1 s (List.of_mem_zip hs).1]

/-- A command all of whose operands are groups of the shape, with masks m0 and m1, passes the checks of R99 and R100. -/
theorem earlyOk_groups {c : BitVec 2} {d : Desc} (plain : d.strict = false) (masks : ∀ m ∈ d.msks, m < 2)
    (groups : ∀ o ∈ d.ops, o.IsGroup (gOf c)) : d.earlyOk = true := by
  have early : ∀ o ∈ d.ops.filter (!·.late), o.IsGroup (gOf c) := fun o h => groups o (List.mem_filter.mp h).1
  have legal : ∀ o ∈ d.ops.filter (!·.late), (o.legal || (!o.aligned && o.ext == 1)) = true := fun o h => by
    rw [(early o h).legal, Bool.true_or]
  simp only [Desc.earlyOk, plain, anyClash_groups early, Bool.not_false, Bool.and_true, Bool.and_eq_true]
  exact ⟨List.all_eq_true.mpr fun m h => decide_eq_true (masks m h), List.all_eq_true.mpr legal⟩

/-! ### The checks at dispatch (R101) -/

/-- A command that reads no format word runs when its operands pass. -/
theorem checked_plain {c : Cmd} {s : State} {body : CRes} (early : (descOf c.ins s.me.vec.lay c.fw).earlyOk = true) :
    checked c s none body = body := by
  simp [checked, early]

/-- A command that reads one runs when its format word passes too, and then the operands that it fixes. -/
theorem checked_format {c : Cmd} {s : State} {body : CRes} (early : (descOf c.ins s.me.vec.lay c.fw).earlyOk = true)
    (clean : c.fwp = false) (late : (descOf c.ins s.me.vec.lay c.fw).lateOk = true) :
    checked c s (some true) body = body := by
  simp [checked, early, clean, late]

/-! ### The end of a command -/

/-- A vector command that a quiet hart issues, and whose run is done having changed vector registers and flags of the moving
hart alone, leaves the state `ran`. -/
theorem issue_ran {s : State} (q : Quiet s) {i : Instr} {regs : List Nat} {fs : Option (BitVec 3)}
    {run : Cmd → State → CRes} {v : VecRegs} {fl : Flags} (notGrant : isGrant i = false) (script : v.gsctl = s.me.vec.gsctl)
    (h : run (cmdOf s i regs fs) (s.setMe s.me.adv) =
      .done (s.setMe { s.me.adv with vec := v, fflags := s.me.fflags ||| fl })) :
    issue s i regs fs run = .next (ran s v fl) := by
  have noScript : bit v.gsctl 15 = false := by
    obtain ⟨-, -, -, -, noScript, -⟩ := q
    rw [script, noScript]
  rw [issue_done q h (by rw [me_setMe]; rfl) (by rw [ctx_setMe]; rfl),
    completed_quiet notGrant (by rw [me_setMe]; exact noScript), me_setMe, setMe_setMe]
  rfl

/-- The active elements of a command that has no earlier dispatch. -/
theorem cmdOf_acts (s : State) (i : Instr) (regs : List Nat) (fs : Option (BitVec 3)) (v : VecRegs) (mk : BitVec 2) :
    (cmdOf s i regs fs).acts v mk = v.actives mk :=
  List.filter_eq_self.mpr fun i _ => decide_eq_true (Nat.zero_le i)

end Sys2Proof.Machine
end

section
/-! PROOF. Vector integer arithmetic (R190, R191): each instruction writes its results and completes. -/

namespace Sys2Proof.Rules

open Sys2Proof.Machine

/-! ### The operands -/

/-- The g registers that a second operand reads (R179). -/
def Second.regs (k : Second) (f : FV) : List Nat :=
  match k with
  | .scal => [f.c.toNat]
  | .vec | .none => []

/-- The source operands of an instruction with this second operand. -/
def Second.sources (k : Second) (f : FV) (g : Nat) : List Opnd :=
  match k with
  | .vec => [src f.b g, src f.c g]
  | .scal | .none => [src f.b g]

/-- An element of the state has SEW bits. -/
theorem el_lt (s : State) (r : BitVec 5) (j : Nat) : el s r j < 2 ^ s.me.vec.lay.sew := elemGet_lt _ _ _ _

/-- The second operand is an element of SEW bits. -/
theorem Second.val_lt (k : Second) (s : State) (r : BitVec 5) (j : Nat) : k.val s r j < 2 ^ s.me.vec.lay.sew := by
  cases k with
  | vec => exact el_lt s r j
  | scal => exact Nat.mod_lt _ (Nat.two_pow_pos _)
  | none => exact Nat.two_pow_pos _

/-- The sources are groups of the shape when their registers are multiples of G (R99). -/
theorem Second.sources_groups {s : State} {k : Second} {f : FV} (groupB : onGroup s f.b)
    (groupC : k = .vec → onGroup s f.c) : ∀ o ∈ k.sources f s.me.vec.lay.g, o.IsGroup (gOf s.me.vec.gc) := by
  have first : (src f.b s.me.vec.lay.g).IsGroup (gOf s.me.vec.gc) := ⟨rfl, groupB, f.b.isLt⟩
  cases k with
  | vec =>
    have second : (src f.c s.me.vec.lay.g).IsGroup (gOf s.me.vec.gc) := ⟨rfl, groupC rfl, f.c.isLt⟩
    exact List.forall_mem_cons.mpr ⟨first, List.forall_mem_cons.mpr ⟨second, List.forall_mem_nil _⟩⟩
  | scal | none => exact List.forall_mem_cons.mpr ⟨first, List.forall_mem_nil _⟩

/-! ### The results -/

/-- The result of an operation at position `j`, poisoned if a source is (R190, R409), with its flags. -/
def resultAt (s : State) (f : FV) (k : Second) (e : Nat → Nat → Nat → Nat × Flags) (j : Nat) : EWr × Flags :=
  let y := e s.me.vec.lay.sew (el s f.b j) (k.val s f.c j)
  (⟨j, y.1, elP s f.b j || k.pois s f.c j⟩, y.2)

/-- The results at the active positions (R178). -/
def results (s : State) (f : FV) (k : Second) (e : Nat → Nat → Nat → Nat × Flags) : List (EWr × Flags) :=
  (s.me.vec.actives f.msk).map (resultAt s f k e)

/-- The run of a command writes the results of an operation, once its operands pass. -/
def WritesResults (run : FV → Cmd → State → CRes) (k : Second) (e : Nat → Nat → Nat → Nat × Flags) : Prop :=
  ∀ (s : State) (i : Instr) (f : FV), run f (cmdOf s i (k.regs f) none) (s.setMe s.me.adv) =
    checked (cmdOf s i (k.regs f) none) (s.setMe s.me.adv) none
      (finish (s.setMe s.me.adv) s.me.vec.lay f.a.toNat (results s f k e))

theorem intVV_writes (e : Nat → Nat → Nat → Nat × Flags) : WritesResults (intVV e) .vec e := by
  intro s i f
  simp only [intVV, cmdOf_acts, me_setMe]
  rfl

theorem intVS_writes (e : Nat → Nat → Nat → Nat × Flags) : WritesResults (intVS e) .scal e := by
  intro s i f
  simp only [intVS, cmdOf_acts, me_setMe]
  rfl

theorem intV1_writes (e : Nat → Nat → Nat) : WritesResults (intV1 e) .none (quiet fun n a _ => e n a) := by
  intro s i f
  have result : resultAt s f .none (quiet fun n a _ => e n a) =
      fun j => (⟨j, e s.me.vec.lay.sew (el s f.b j), elP s f.b j⟩, 0) := by
    funext j
    rw [resultAt, Second.pois, Bool.or_false]
    rfl
  simp only [intV1, cmdOf_acts, me_setMe, results, result]
  rfl

/-- An element has at least 4 bits (R149). -/
theorem sew_pos (v : VecRegs) : 0 < v.lay.sew := Nat.mul_pos (by decide) (Nat.two_pow_pos _)

/-- On the elements of a state, an operation that computes the table's gives its results. -/
theorem results_of_computes {e : Nat → Nat → Nat → Nat × Flags} {op : Nat → Nat → Nat → Nat × Bool}
    (comp : Computes e op) (s : State) (f : FV) (k : Second) :
    results s f k e = results s f k fun n a b => ((op n a b).1, satFlag (op n a b).2) := by
  refine List.map_congr_left fun j _ => ?_
  rw [resultAt, comp _ _ _ (sew_pos _) (el_lt s f.b j) (k.val_lt s f.c j)]
  rfl

/-- The flags of the results are those of the positions that are not poisoned (R83, R409). -/
theorem results_flags (s : State) (f : FV) (k : Second) (e : Nat → Nat → Nat → Nat × Flags) :
    (results s f k e).foldl (fun acc x => if x.1.p then acc else acc ||| x.2) 0 =
      flagsOf (s.me.vec.actives f.msk) (fun j => elP s f.b j || k.pois s f.c j) fun j => (resultAt s f k e j).2 := by
  rw [results, List.foldl_map]
  rfl

/-! ### Every vector integer instruction -/

/-- A vector integer instruction issues a command that writes the results of an operation of the table. -/
def IssuesResults (s : State) (i : Instr) (f : FV) (k : Second) (op : Nat → Nat → Nat → Nat × Bool) : Prop :=
  ∃ run e, exec i s = issue s i (k.regs f) none (run f) ∧ WritesResults run k e ∧ Computes e op

/-- The form with two vector operands (R190). -/
theorem issues_vec {s : State} {i : Instr} {f g : FV} {k : Second} {e : Nat → Nat → Nat → Nat × Flags}
    {op op' : Nat → Nat → Nat → Nat × Bool} (comp : Computes e op')
    (run : exec i s = issue s i [] none (intVV e g)) (rule : some (g, Second.vec, op') = some (f, k, op)) :
    IssuesResults s i f k op := by
  cases rule
  exact ⟨_, e, run, intVV_writes e, comp⟩

/-- The vector-scalar form (R179, R190). -/
theorem issues_scal {s : State} {i : Instr} {f g : FV} {k : Second} {e : Nat → Nat → Nat → Nat × Flags}
    {op op' : Nat → Nat → Nat → Nat × Bool} (comp : Computes e op')
    (run : exec i s = issue s i [g.c.toNat] none (intVS e g)) (rule : some (g, Second.scal, op') = some (f, k, op)) :
    IssuesResults s i f k op := by
  cases rule
  exact ⟨_, e, run, intVS_writes e, comp⟩

/-- The one-source form (R190). -/
theorem issues_one {s : State} {i : Instr} {f g : FV} {k : Second} {e : Nat → Nat → Nat}
    {op op' : Nat → Nat → Nat → Nat × Bool} (comp : Computes (quiet fun n a _ => e n a) op')
    (run : exec i s = issue s i [] none (intV1 e g)) (rule : some (g, Second.none, op') = some (f, k, op)) :
    IssuesResults s i f k op := by
  cases rule
  exact ⟨_, _, run, intV1_writes e, comp⟩

/-- Every vector integer instruction, with its second operand and its operation. -/
theorem exec_vint {s : State} {i : Instr} {f : FV} {k : Second} {op : Nat → Nat → Nat → Nat × Bool}
    (rule : vintRule i = some (f, k, op)) : IssuesResults s i f k op := by
  cases i with
  | vadd g => exact issues_vec computes_add rfl rule
  | vsub g => exact issues_vec computes_sub rfl rule
  | vrsub g => exact issues_vec computes_rsub rfl rule
  | vmul g => exact issues_vec computes_mul rfl rule
  | vmulh g => exact issues_vec computes_mulh rfl rule
  | vmulhu g => exact issues_vec computes_mulhu rfl rule
  | vdiv g => exact issues_vec computes_div rfl rule
  | vmod g => exact issues_vec computes_mod rfl rule
  | vand g => exact issues_vec computes_and rfl rule
  | vor g => exact issues_vec computes_or rfl rule
  | vxor g => exact issues_vec computes_xor rfl rule
  | vshl g => exact issues_vec computes_shl rfl rule
  | vshr g => exact issues_vec computes_shr rfl rule
  | vsar g => exact issues_vec computes_sar rfl rule
  | vmin g => exact issues_vec computes_min rfl rule
  | vmax g => exact issues_vec computes_max rfl rule
  | vminu g => exact issues_vec computes_minu rfl rule
  | vmaxu g => exact issues_vec computes_maxu rfl rule
  | vadds g => exact issues_vec computes_adds rfl rule
  | vsubs g => exact issues_vec computes_subs rfl rule
  | vaddVs g => exact issues_scal computes_add rfl rule
  | vsubVs g => exact issues_scal computes_sub rfl rule
  | vrsubVs g => exact issues_scal computes_rsub rfl rule
  | vmulVs g => exact issues_scal computes_mul rfl rule
  | vmulhVs g => exact issues_scal computes_mulh rfl rule
  | vmulhuVs g => exact issues_scal computes_mulhu rfl rule
  | vdivVs g => exact issues_scal computes_div rfl rule
  | vmodVs g => exact issues_scal computes_mod rfl rule
  | vandVs g => exact issues_scal computes_and rfl rule
  | vorVs g => exact issues_scal computes_or rfl rule
  | vxorVs g => exact issues_scal computes_xor rfl rule
  | vshlVs g => exact issues_scal computes_shl rfl rule
  | vshrVs g => exact issues_scal computes_shr rfl rule
  | vsarVs g => exact issues_scal computes_sar rfl rule
  | vminVs g => exact issues_scal computes_min rfl rule
  | vmaxVs g => exact issues_scal computes_max rfl rule
  | vminuVs g => exact issues_scal computes_minu rfl rule
  | vmaxuVs g => exact issues_scal computes_maxu rfl rule
  | vaddsVs g => exact issues_scal computes_adds rfl rule
  | vsubsVs g => exact issues_scal computes_subs rfl rule
  | vclz g => exact issues_one computes_clz rfl rule
  | vpope g => exact issues_one computes_popc rfl rule
  | _ => nomatch rule

/-- The operands of a vector integer instruction are its destination and its sources, all groups (R179); it is no grant step. -/
theorem descOf_vint {i : Instr} {f : FV} {k : Second} {op : Nat → Nat → Nat → Nat × Bool}
    (rule : vintRule i = some (f, k, op)) (a : Lay) (fw : W) :
    descOf i a fw = desc (dst f.a a.g :: k.sources f a.g) f.msk ∧ isGrant i = false := by
  cases i with
  | vadd | vsub | vrsub | vmul | vmulh | vmulhu | vdiv | vmod | vand | vor | vxor | vshl | vshr | vsar | vmin | vmax
  | vminu | vmaxu | vadds | vsubs | vaddVs | vsubVs | vrsubVs | vmulVs | vmulhVs | vmulhuVs | vdivVs | vmodVs | vandVs
  | vorVs | vxorVs | vshlVs | vshrVs | vsarVs | vminVs | vmaxVs | vminuVs | vmaxuVs | vaddsVs | vsubsVs | vclz
  | vpope => cases rule; exact ⟨rfl, rfl⟩
  | _ => nomatch rule

/-- Settles O21: the operands are groups (`descOf_vint`), so that they pass (`earlyOk_groups`) and the command writes the
results of the table's operation (`exec_vint`). -/
theorem vectorIntegerCompletes : Obligations.VectorIntegerCompletes := by
  unfold Obligations.VectorIntegerCompletes
  intro s i f k op rule q groupA groupB groupC
  obtain ⟨run, e, issues, writes, comp⟩ := exec_vint (s := s) rule
  have early : (descOf i s.me.vec.lay 0).earlyOk = true := by
    rw [(descOf_vint rule _ _).1]
    exact earlyOk_groups rfl (List.forall_mem_nil _)
      (List.forall_mem_cons.mpr ⟨⟨rfl, groupA, f.a.isLt⟩, Second.sources_groups groupB groupC⟩)
  have done := writes s i f
  rw [checked_plain (by rw [me_setMe]; exact early), results_of_computes comp, finish, me_setMe, setMe_setMe, results_flags,
    results, List.map_map] at done
  dsimp only
  rw [issues]
  exact issue_ran q (descOf_vint rule s.me.vec.lay 0).2 (writeElems_gsctl _ _ _ _) done

end Sys2Proof.Rules
end

section
/-! PROOF. Vector compares (R192): each writes its condition to mask register A and completes. -/

namespace Sys2Proof.Rules

open Sys2Proof.Machine

/-! ### The bits -/

/-- The bits of a compare, with the poison of their positions: at each active position the condition on SEW and the two
operands (R192). -/
def bitsOf (s : State) (f : FV) (k : Second) (c : Nat → Nat → Nat → Bool) : List (Nat × Bool × Bool) :=
  (s.me.vec.actives f.msk).map fun j =>
    (j, c s.me.vec.lay.sew (el s f.b j) (k.val s f.c j), elP s f.b j || k.pois s f.c j)

/-- The run of a compare writes the bits of a condition, once its operands pass. -/
def WritesBits (run : FV → Cmd → State → CRes) (k : Second) (c : Nat → Nat → Nat → Bool) : Prop :=
  ∀ (s : State) (i : Instr) (f : FV), run f (cmdOf s i (k.regs f) none) (s.setMe s.me.adv) =
    checked (cmdOf s i (k.regs f) none) (s.setMe s.me.adv) none
      (finishMask (s.setMe s.me.adv) f.a.toNat (bitsOf s f k c))

theorem cmpVV_writes (c : Nat → Nat → Nat → Bool) : WritesBits (cmpVV c) .vec c := by
  intro s i f
  simp only [cmpVV, cmdOf_acts, me_setMe]
  rfl

theorem cmpVS_writes (c : Nat → Nat → Nat → Bool) : WritesBits (cmpVS c) .scal c := by
  intro s i f
  simp only [cmpVS, cmdOf_acts, me_setMe]
  rfl

/-- The vector registers that bits `b` at the positions `is`, of which those with `p` are poisoned, leave (R192, R410). -/
def maskWritten (v : VecRegs) (m : Nat) (is : List Nat) (b p : Nat → Bool) : VecRegs :=
  setPM (writeMask v m (is.map fun j => (j, b j))) (is.filter p)

theorem finishMask_map (s : State) (m : Nat) (is : List Nat) (b p : Nat → Bool) :
    finishMask s m (is.map fun j => (j, b j, p j)) = .done (s.setMe { s.me with vec := maskWritten s.me.vec m is b p }) := by
  have positions : ((is.map fun j => (j, b j, p j)).filter (·.2.2)).map (·.1) = is.filter p := by
    rw [List.filter_map, List.map_map]
    exact List.map_id _
  rw [finishMask, positions, List.map_map]
  rfl

/-- A compare that a quiet hart issues, and whose run ends in the write of mask bits, completes with no flag set. -/
theorem issue_mask {s : State} (q : Quiet s) {i : Instr} {regs : List Nat} {fs : Option (BitVec 3)}
    {run : Cmd → State → CRes} {m : Nat} {is : List Nat} {b p : Nat → Bool} (notGrant : isGrant i = false)
    (h : run (cmdOf s i regs fs) (s.setMe s.me.adv) =
      finishMask (s.setMe s.me.adv) m (is.map fun j => (j, b j, p j))) :
    issue s i regs fs run = .next (ran s (maskWritten s.me.vec m is b p) 0) := by
  have script : (maskWritten s.me.vec m is b p).gsctl = s.me.vec.gsctl :=
    (setPM_gsctl _ _).trans (writeMask_gsctl _ _ _)
  refine issue_ran q notGrant script ?_
  have unchanged : s.me.fflags ||| 0 = s.me.fflags := BitVec.or_zero
  rw [h, finishMask_map, me_setMe, setMe_setMe, unchanged]
  rfl

/-! ### Integer compares -/

/-- A compare issues a command that writes the bits of a condition of the table. -/
def IssuesBits (s : State) (i : Instr) (f : FV) (k : Second) (c : Nat → Nat → Nat → Bool) : Prop :=
  ∃ run, exec i s = issue s i (k.regs f) none (run f) ∧ WritesBits run k c

theorem issuesBits_vec {s : State} {i : Instr} {f g : FV} {k : Second} {e c c' : Nat → Nat → Nat → Bool}
    (cond : e = c') (run : exec i s = issue s i [] none (cmpVV e g)) (rule : some (g, Second.vec, c') = some (f, k, c)) :
    IssuesBits s i f k c := by
  cases rule
  exact ⟨_, run, cond ▸ cmpVV_writes e⟩

theorem issuesBits_scal {s : State} {i : Instr} {f g : FV} {k : Second} {e c c' : Nat → Nat → Nat → Bool}
    (cond : e = c') (run : exec i s = issue s i [g.c.toNat] none (cmpVS e g))
    (rule : some (g, Second.scal, c') = some (f, k, c)) : IssuesBits s i f k c := by
  cases rule
  exact ⟨_, run, cond ▸ cmpVS_writes e⟩

theorem cNe_eq_decide : cNe = fun _ a b => decide (a ≠ b) := by
  funext _ a b
  exact decide_not.symm

/-- Every integer compare, with its second operand and its condition. -/
theorem exec_vcmp {s : State} {i : Instr} {f : FV} {k : Second} {c : Nat → Nat → Nat → Bool}
    (rule : vcmpRule i = some (f, k, c)) : IssuesBits s i f k c := by
  cases i with
  | vceq g | vclt g | vcle g | vcltu g | vcleu g => exact issuesBits_vec rfl rfl rule
  | vcne g => exact issuesBits_vec cNe_eq_decide rfl rule
  | vceqVs g | vcltVs g | vcleVs g | vcltuVs g | vcleuVs g => exact issuesBits_scal rfl rfl rule
  | vcneVs g => exact issuesBits_scal cNe_eq_decide rfl rule
  | _ => nomatch rule

/-- The operands of an integer compare are its sources, all groups, and the mask register that it writes; it is no grant
step. -/
theorem descOf_vcmp {i : Instr} {f : FV} {k : Second} {c : Nat → Nat → Nat → Bool}
    (rule : vcmpRule i = some (f, k, c)) (a : Lay) (fw : W) :
    descOf i a fw = ⟨k.sources f a.g, false, [f.a.toNat], mkReads f.msk, [f.a.toNat]⟩ ∧ isGrant i = false := by
  cases i with
  | vceq | vcne | vclt | vcle | vcltu | vcleu | vceqVs | vcneVs | vcltVs | vcleVs | vcltuVs | vcleuVs =>
    cases rule; exact ⟨rfl, rfl⟩
  | _ => nomatch rule

/-- An integer compare whose operands pass R99 completes. -/
theorem vcmp_completes {s : State} {i : Instr} {f : FV} {k : Second} {c : Nat → Nat → Nat → Bool}
    (rule : vcmpRule i = some (f, k, c)) (q : Quiet s) (mask : f.a.toNat < 2) (groupB : onGroup s f.b)
    (groupC : k = .vec → onGroup s f.c) :
    exec i s = .next (ran s (maskWritten s.me.vec f.a.toNat (s.me.vec.actives f.msk)
      (fun j => c s.me.vec.lay.sew (el s f.b j) (k.val s f.c j)) fun j => elP s f.b j || k.pois s f.c j) 0) := by
  obtain ⟨run, issues, writes⟩ := exec_vcmp (s := s) rule
  have early : (descOf i s.me.vec.lay 0).earlyOk = true := by
    rw [(descOf_vcmp rule _ _).1]
    exact earlyOk_groups rfl (List.forall_mem_singleton.mpr mask) (Second.sources_groups groupB groupC)
  rw [issues]
  refine issue_mask q (descOf_vcmp rule s.me.vec.lay 0).2 ?_
  rw [writes, checked_plain (by rw [me_setMe]; exact early)]
  rfl

/-! ### Floating compares -/

/-- The extent that R99 lets through is that of a format that R180 allows. -/
theorem extent_pos {d : Desc} {f : FV} {n : Nat} (first : srcLate f.b n ∈ d.ops) (late : d.lateOk = true) :
    (n != 0) = true := by
  rw [Desc.lateOk, Bool.and_eq_true, List.all_eq_true] at late
  have legal := late.1 _ first
  rw [Opnd.legal, Bool.and_eq_true, decide_eq_true_eq] at legal
  exact bne_iff_ne.mpr (Nat.ne_of_gt legal.1.1)

/-- Every floating compare issues the command of its condition, whose sources take the extent of their format (R180). -/
theorem exec_vfcmp {i : Instr} {f : FV} {c : Machine.Num → Machine.Num → Bool} (rule : vfcmpRule i = some (f, c)) (s : State) :
    exec i s = issue s i [] (some f.fs) (cmpFlt c f) ∧ isGrant i = false ∧ ∀ a fw,
      srcLate f.b (extent a (storageWidth (FW.of fw).src1)) ∈ (descOf i a fw).ops := by
  cases i with
  | vfeq | vfne | vflt | vfle | vford => cases rule; exact ⟨rfl, rfl, fun _ _ => List.mem_cons_self⟩
  | _ => nomatch rule

/-- The layout of the sources of a floating compare (R180). -/
def sourceLay (s : State) (fs : BitVec 3) : Lay := layOf s.me.vec.lay (storageWidth (FW.of (fword s fs)).src1)

/-- The condition of a floating compare at position `j` (R192). -/
def fltBit (s : State) (f : FV) (c : Machine.Num → Machine.Num → Bool) (j : Nat) : Bool :=
  let value (r : BitVec 5) := readFlt (FW.of (fword s f.fs)).src1 (elemGet s.me.vec (sourceLay s f.fs) r.toNat j)
  c (value f.b) (value f.c)

/-- Whether a source of a floating compare is poisoned at position `j` (R409). -/
def fltPoison (s : State) (f : FV) (j : Nat) : Bool :=
  elemPoison s.me.vec (sourceLay s f.fs) f.b.toNat j || elemPoison s.me.vec (sourceLay s f.fs) f.c.toNat j

/-- The run of a floating compare writes the bits of its condition, once its format word and operands pass. -/
theorem cmpFlt_writes (s : State) (i : Instr) (f : FV) (c : Machine.Num → Machine.Num → Bool) :
    cmpFlt c f (cmdOf s i [] (some f.fs)) (s.setMe s.me.adv) =
      checked (cmdOf s i [] (some f.fs)) (s.setMe s.me.adv)
        (some (fwCmp (fword s f.fs) true && extent s.me.vec.lay (storageWidth (FW.of (fword s f.fs)).src1) != 0))
        (finishMask (s.setMe s.me.adv) f.a.toNat
          ((s.me.vec.actives f.msk).map fun j => (j, fltBit s f c j, fltPoison s f j))) := by
  simp only [cmpFlt, cmdOf_acts, me_setMe]
  rfl

/-- A floating compare whose format word and operands pass completes. -/
theorem vfcmp_completes {s : State} {i : Instr} {f : FV} {c : Machine.Num → Machine.Num → Bool}
    (rule : vfcmpRule i = some (f, c)) (q : Quiet s) (clean : fwordP s f.fs = false)
    (format : fwCmp (fword s f.fs) true = true) (early : (descOf i s.me.vec.lay (fword s f.fs)).earlyOk = true)
    (late : (descOf i s.me.vec.lay (fword s f.fs)).lateOk = true) :
    exec i s = .next (ran s (maskWritten s.me.vec f.a.toNat (s.me.vec.actives f.msk) (fltBit s f c) (fltPoison s f)) 0) := by
  obtain ⟨issues, notGrant, first⟩ := exec_vfcmp rule s
  rw [issues]
  refine issue_mask q notGrant ?_
  rw [cmpFlt_writes, format, extent_pos (first _ _) late]
  refine checked_format ?_ clean ?_
  · rw [me_setMe]
    exact early
  · rw [me_setMe]
    exact late

/-- Settles O22: an integer compare by its operands on groups (`vcmp_completes`), a floating one by its format word
(`vfcmp_completes`). -/
theorem vectorComparesComplete : Obligations.VectorComparesComplete := by
  unfold Obligations.VectorComparesComplete
  exact ⟨fun s i f k c => vcmp_completes, fun s i f c => vfcmp_completes⟩

end Sys2Proof.Rules
end
